-- ==== Sys2Proof/Word.lean ====
section
/-! DEFINITION. The data widths of the 80286: bytes, words and 24-bit physical addresses (00_scope.md R8, R10). -/

namespace Sys2Proof

/-- A byte (00_scope.md R10). -/
abbrev Byte := BitVec 8

/-- A word, 16 bits (00_scope.md R10). -/
abbrev Word := BitVec 16

/-- A base address of a segment or of a table, 24 bits (00_scope.md R9, 20_memory.md R80). -/
abbrev Base24 := BitVec 24

/-- A privilege level 0..3 (60_exceptions.md R460). -/
abbrev Level := BitVec 2

end Sys2Proof
end

