-- ==== Sys2Proof/Syntax.lean ====
section
/-! DEFINITION. The instructions of the 80286: one constructor of `Instr` per row of opcode_table.json
(30_encoding.md R136 to R140), over register names and the ModRM memory forms (R124, R130). -/

namespace Sys2Proof

/-- The word registers, in number order 0..7 (00_scope.md R12). -/
inductive Reg16 where
  | ax | cx | dx | bx | sp | bp | si | di
  deriving DecidableEq, Repr

/-- The byte registers, in number order 0..7 (00_scope.md R12). -/
inductive Reg8 where
  | al | cl | dl | bl | ah | ch | dh | bh
  deriving DecidableEq, Repr

/-- The segment registers, in number order 0..3 (00_scope.md R12). -/
inductive SReg where
  | es | cs | ss | ds
  deriving DecidableEq, Repr

/-- The register part of a memory operand, in the order of the ModRM rm field (30_encoding.md R130). -/
inductive Base where
  | bxsi | bxdi | bpsi | bpdi | si | di | bp | bx
  deriving DecidableEq, Repr

/-- A memory operand as its ModRM form writes it (30_encoding.md R124, R130). -/
inductive Mem where
  /-- mod 0, rm not 6: the registers alone (`bp` has no such form). -/
  | base (b : Base)
  /-- mod 0, rm 6: a direct 16-bit offset. -/
  | direct (off : Word)
  /-- mod 1: registers and a sign-extended byte. -/
  | disp8 (b : Base) (d : Byte)
  /-- mod 2: registers and a word. -/
  | disp16 (b : Base) (d : Word)
  deriving DecidableEq, Repr

/-- A byte r/m operand (30_encoding.md R124). -/
inductive RM8 where
  | reg (r : Reg8)
  | mem (m : Mem)
  deriving DecidableEq, Repr

/-- A word r/m operand (30_encoding.md R124). -/
inductive RM16 where
  | reg (r : Reg16)
  | mem (m : Mem)
  deriving DecidableEq, Repr

/-- The instructions and prefix bytes, one constructor per row of opcode_table.json: the rows with
operands in the table's order, then those without. An operand that must
be in memory is a `Mem`, so the illegal register forms of 30_encoding.md R141 are no terms. -/
inductive Instr where
  /-- ADD r/m8, r8: 00, R201. -/
  | addRm8R8 (rm : RM8) (r : Reg8)
  /-- ADD r/m16, r16: 01, R201. -/
  | addRm16R16 (rm : RM16) (r : Reg16)
  /-- ADD r8, r/m8: 02, R201. -/
  | addR8Rm8 (r : Reg8) (rm : RM8)
  /-- ADD r16, r/m16: 03, R201. -/
  | addR16Rm16 (r : Reg16) (rm : RM16)
  /-- ADD AL, imm8: 04, R201. -/
  | addAlImm8 (imm : Byte)
  /-- ADD AX, imm16: 05, R201. -/
  | addAxImm16 (imm : Word)
  /-- OR r/m8, r8: 08, R243. -/
  | orRm8R8 (rm : RM8) (r : Reg8)
  /-- OR r/m16, r16: 09, R243. -/
  | orRm16R16 (rm : RM16) (r : Reg16)
  /-- OR r8, r/m8: 0A, R243. -/
  | orR8Rm8 (r : Reg8) (rm : RM8)
  /-- OR r16, r/m16: 0B, R243. -/
  | orR16Rm16 (r : Reg16) (rm : RM16)
  /-- OR AL, imm8: 0C, R243. -/
  | orAlImm8 (imm : Byte)
  /-- OR AX, imm16: 0D, R243. -/
  | orAxImm16 (imm : Word)
  /-- ADC r/m8, r8: 10, R202. -/
  | adcRm8R8 (rm : RM8) (r : Reg8)
  /-- ADC r/m16, r16: 11, R202. -/
  | adcRm16R16 (rm : RM16) (r : Reg16)
  /-- ADC r8, r/m8: 12, R202. -/
  | adcR8Rm8 (r : Reg8) (rm : RM8)
  /-- ADC r16, r/m16: 13, R202. -/
  | adcR16Rm16 (r : Reg16) (rm : RM16)
  /-- ADC AL, imm8: 14, R202. -/
  | adcAlImm8 (imm : Byte)
  /-- ADC AX, imm16: 15, R202. -/
  | adcAxImm16 (imm : Word)
  /-- SBB r/m8, r8: 18, R207. -/
  | sbbRm8R8 (rm : RM8) (r : Reg8)
  /-- SBB r/m16, r16: 19, R207. -/
  | sbbRm16R16 (rm : RM16) (r : Reg16)
  /-- SBB r8, r/m8: 1A, R207. -/
  | sbbR8Rm8 (r : Reg8) (rm : RM8)
  /-- SBB r16, r/m16: 1B, R207. -/
  | sbbR16Rm16 (r : Reg16) (rm : RM16)
  /-- SBB AL, imm8: 1C, R207. -/
  | sbbAlImm8 (imm : Byte)
  /-- SBB AX, imm16: 1D, R207. -/
  | sbbAxImm16 (imm : Word)
  /-- AND r/m8, r8: 20, R242. -/
  | andRm8R8 (rm : RM8) (r : Reg8)
  /-- AND r/m16, r16: 21, R242. -/
  | andRm16R16 (rm : RM16) (r : Reg16)
  /-- AND r8, r/m8: 22, R242. -/
  | andR8Rm8 (r : Reg8) (rm : RM8)
  /-- AND r16, r/m16: 23, R242. -/
  | andR16Rm16 (r : Reg16) (rm : RM16)
  /-- AND AL, imm8: 24, R242. -/
  | andAlImm8 (imm : Byte)
  /-- AND AX, imm16: 25, R242. -/
  | andAxImm16 (imm : Word)
  /-- SUB r/m8, r8: 28, R206. -/
  | subRm8R8 (rm : RM8) (r : Reg8)
  /-- SUB r/m16, r16: 29, R206. -/
  | subRm16R16 (rm : RM16) (r : Reg16)
  /-- SUB r8, r/m8: 2A, R206. -/
  | subR8Rm8 (r : Reg8) (rm : RM8)
  /-- SUB r16, r/m16: 2B, R206. -/
  | subR16Rm16 (r : Reg16) (rm : RM16)
  /-- SUB AL, imm8: 2C, R206. -/
  | subAlImm8 (imm : Byte)
  /-- SUB AX, imm16: 2D, R206. -/
  | subAxImm16 (imm : Word)
  /-- XOR r/m8, r8: 30, R244. -/
  | xorRm8R8 (rm : RM8) (r : Reg8)
  /-- XOR r/m16, r16: 31, R244. -/
  | xorRm16R16 (rm : RM16) (r : Reg16)
  /-- XOR r8, r/m8: 32, R244. -/
  | xorR8Rm8 (r : Reg8) (rm : RM8)
  /-- XOR r16, r/m16: 33, R244. -/
  | xorR16Rm16 (r : Reg16) (rm : RM16)
  /-- XOR AL, imm8: 34, R244. -/
  | xorAlImm8 (imm : Byte)
  /-- XOR AX, imm16: 35, R244. -/
  | xorAxImm16 (imm : Word)
  /-- CMP r/m8, r8: 38, R210. -/
  | cmpRm8R8 (rm : RM8) (r : Reg8)
  /-- CMP r/m16, r16: 39, R210. -/
  | cmpRm16R16 (rm : RM16) (r : Reg16)
  /-- CMP r8, r/m8: 3A, R210. -/
  | cmpR8Rm8 (r : Reg8) (rm : RM8)
  /-- CMP r16, r/m16: 3B, R210. -/
  | cmpR16Rm16 (r : Reg16) (rm : RM16)
  /-- CMP AL, imm8: 3C, R210. -/
  | cmpAlImm8 (imm : Byte)
  /-- CMP AX, imm16: 3D, R210. -/
  | cmpAxImm16 (imm : Word)
  /-- INC r16: 40/F8, R203. -/
  | incR16 (r : Reg16)
  /-- DEC r16: 48/F8, R208. -/
  | decR16 (r : Reg16)
  /-- PUSH r16: 50/F8, R164. -/
  | pushR16 (r : Reg16)
  /-- POP r16: 58/F8, R166. -/
  | popR16 (r : Reg16)
  /-- BOUND r16, m16&16: 62, R393. -/
  | bound (r : Reg16) (m : Mem)
  /-- ARPL r/m16, r16: 63, R391. -/
  | arpl (rm : RM16) (r : Reg16)
  /-- PUSH imm16: 68, R164. -/
  | pushImm16 (imm : Word)
  /-- IMUL r16, r/m16, imm16: 69, R215. -/
  | imulR16Rm16Imm16 (r : Reg16) (rm : RM16) (imm : Word)
  /-- PUSH imm8 (sign-extended): 6A, R164. -/
  | pushImm8 (imm : Byte)
  /-- IMUL r16, r/m16, imm8 (sign-extended): 6B, R215. -/
  | imulR16Rm16Imm8 (r : Reg16) (rm : RM16) (imm : Byte)
  /-- JO rel8: 70, R291. -/
  | jo (rel : Byte)
  /-- JNO rel8: 71, R291. -/
  | jno (rel : Byte)
  /-- JB rel8 (aliases JNAE, JC): 72, R291. -/
  | jb (rel : Byte)
  /-- JNB rel8 (aliases JAE, JNC): 73, R291. -/
  | jnb (rel : Byte)
  /-- JE rel8 (aliases JZ): 74, R291. -/
  | je (rel : Byte)
  /-- JNE rel8 (aliases JNZ): 75, R291. -/
  | jne (rel : Byte)
  /-- JBE rel8 (aliases JNA): 76, R291. -/
  | jbe (rel : Byte)
  /-- JNBE rel8 (aliases JA): 77, R291. -/
  | jnbe (rel : Byte)
  /-- JS rel8: 78, R291. -/
  | js (rel : Byte)
  /-- JNS rel8: 79, R291. -/
  | jns (rel : Byte)
  /-- JP rel8 (aliases JPE): 7A, R291. -/
  | jp (rel : Byte)
  /-- JNP rel8 (aliases JPO): 7B, R291. -/
  | jnp (rel : Byte)
  /-- JL rel8 (aliases JNGE): 7C, R291. -/
  | jl (rel : Byte)
  /-- JNL rel8 (aliases JGE): 7D, R291. -/
  | jnl (rel : Byte)
  /-- JLE rel8 (aliases JNG): 7E, R291. -/
  | jle (rel : Byte)
  /-- JNLE rel8 (aliases JG): 7F, R291. -/
  | jnle (rel : Byte)
  /-- ADD r/m8, imm8: 8000/FF38, R201. -/
  | addRm8Imm8 (rm : RM8) (imm : Byte)
  /-- OR r/m8, imm8: 8008/FF38, R243. -/
  | orRm8Imm8 (rm : RM8) (imm : Byte)
  /-- ADC r/m8, imm8: 8010/FF38, R202. -/
  | adcRm8Imm8 (rm : RM8) (imm : Byte)
  /-- SBB r/m8, imm8: 8018/FF38, R207. -/
  | sbbRm8Imm8 (rm : RM8) (imm : Byte)
  /-- AND r/m8, imm8: 8020/FF38, R242. -/
  | andRm8Imm8 (rm : RM8) (imm : Byte)
  /-- SUB r/m8, imm8: 8028/FF38, R206. -/
  | subRm8Imm8 (rm : RM8) (imm : Byte)
  /-- XOR r/m8, imm8: 8030/FF38, R244. -/
  | xorRm8Imm8 (rm : RM8) (imm : Byte)
  /-- CMP r/m8, imm8: 8038/FF38, R210. -/
  | cmpRm8Imm8 (rm : RM8) (imm : Byte)
  /-- ADD r/m16, imm16: 8100/FF38, R201. -/
  | addRm16Imm16 (rm : RM16) (imm : Word)
  /-- OR r/m16, imm16: 8108/FF38, R243. -/
  | orRm16Imm16 (rm : RM16) (imm : Word)
  /-- ADC r/m16, imm16: 8110/FF38, R202. -/
  | adcRm16Imm16 (rm : RM16) (imm : Word)
  /-- SBB r/m16, imm16: 8118/FF38, R207. -/
  | sbbRm16Imm16 (rm : RM16) (imm : Word)
  /-- AND r/m16, imm16: 8120/FF38, R242. -/
  | andRm16Imm16 (rm : RM16) (imm : Word)
  /-- SUB r/m16, imm16: 8128/FF38, R206. -/
  | subRm16Imm16 (rm : RM16) (imm : Word)
  /-- XOR r/m16, imm16: 8130/FF38, R244. -/
  | xorRm16Imm16 (rm : RM16) (imm : Word)
  /-- CMP r/m16, imm16: 8138/FF38, R210. -/
  | cmpRm16Imm16 (rm : RM16) (imm : Word)
  /-- ADD r/m8, imm8 (duplicate of opcode 80): 8200/FF38, R201. -/
  | addRm8Imm8Dup (rm : RM8) (imm : Byte)
  /-- OR r/m8, imm8 (duplicate of opcode 80): 8208/FF38, R243. -/
  | orRm8Imm8Dup (rm : RM8) (imm : Byte)
  /-- ADC r/m8, imm8 (duplicate of opcode 80): 8210/FF38, R202. -/
  | adcRm8Imm8Dup (rm : RM8) (imm : Byte)
  /-- SBB r/m8, imm8 (duplicate of opcode 80): 8218/FF38, R207. -/
  | sbbRm8Imm8Dup (rm : RM8) (imm : Byte)
  /-- AND r/m8, imm8 (duplicate of opcode 80): 8220/FF38, R242. -/
  | andRm8Imm8Dup (rm : RM8) (imm : Byte)
  /-- SUB r/m8, imm8 (duplicate of opcode 80): 8228/FF38, R206. -/
  | subRm8Imm8Dup (rm : RM8) (imm : Byte)
  /-- XOR r/m8, imm8 (duplicate of opcode 80): 8230/FF38, R244. -/
  | xorRm8Imm8Dup (rm : RM8) (imm : Byte)
  /-- CMP r/m8, imm8 (duplicate of opcode 80): 8238/FF38, R210. -/
  | cmpRm8Imm8Dup (rm : RM8) (imm : Byte)
  /-- ADD r/m16, imm8 (sign-extended): 8300/FF38, R201. -/
  | addRm16Imm8 (rm : RM16) (imm : Byte)
  /-- OR r/m16, imm8 (sign-extended): 8308/FF38, R243. -/
  | orRm16Imm8 (rm : RM16) (imm : Byte)
  /-- ADC r/m16, imm8 (sign-extended): 8310/FF38, R202. -/
  | adcRm16Imm8 (rm : RM16) (imm : Byte)
  /-- SBB r/m16, imm8 (sign-extended): 8318/FF38, R207. -/
  | sbbRm16Imm8 (rm : RM16) (imm : Byte)
  /-- AND r/m16, imm8 (sign-extended): 8320/FF38, R242. -/
  | andRm16Imm8 (rm : RM16) (imm : Byte)
  /-- SUB r/m16, imm8 (sign-extended): 8328/FF38, R206. -/
  | subRm16Imm8 (rm : RM16) (imm : Byte)
  /-- XOR r/m16, imm8 (sign-extended): 8330/FF38, R244. -/
  | xorRm16Imm8 (rm : RM16) (imm : Byte)
  /-- CMP r/m16, imm8 (sign-extended): 8338/FF38, R210. -/
  | cmpRm16Imm8 (rm : RM16) (imm : Byte)
  /-- TEST r/m8, r8: 84, R245. -/
  | testRm8R8 (rm : RM8) (r : Reg8)
  /-- TEST r/m16, r16: 85, R245. -/
  | testRm16R16 (rm : RM16) (r : Reg16)
  /-- XCHG r/m8, r8: 86, R168. -/
  | xchgRm8R8 (rm : RM8) (r : Reg8)
  /-- XCHG r/m16, r16: 87, R168. -/
  | xchgRm16R16 (rm : RM16) (r : Reg16)
  /-- MOV r/m8, r8: 88, R161. -/
  | movRm8R8 (rm : RM8) (r : Reg8)
  /-- MOV r/m16, r16: 89, R161. -/
  | movRm16R16 (rm : RM16) (r : Reg16)
  /-- MOV r8, r/m8: 8A, R161. -/
  | movR8Rm8 (r : Reg8) (rm : RM8)
  /-- MOV r16, r/m16: 8B, R161. -/
  | movR16Rm16 (r : Reg16) (rm : RM16)
  /-- MOV r/m16, Sreg: 8C00/FF20, R162. -/
  | movRm16Sreg (rm : RM16) (sr : SReg)
  /-- LEA r16, m: 8D, R173. -/
  | lea (r : Reg16) (m : Mem)
  /-- MOV Sreg, r/m16: 8E00/FF20, R163. -/
  | movSregRm16 (sr : SReg) (rm : RM16)
  /-- POP r/m16: 8F00/FF38, R166. -/
  | popRm16 (rm : RM16)
  /-- XCHG AX, r16 (r = 1..7): 90/F8, R168. -/
  | xchgAxR16 (r : Reg16)
  /-- CALL ptr16:16: 9A, R294. -/
  | callPtr (sel : Word) (off : Word)
  /-- MOV AL, moffs8: A0, R161. -/
  | movAlMoffs (off : Word)
  /-- MOV AX, moffs16: A1, R161. -/
  | movAxMoffs (off : Word)
  /-- MOV moffs8, AL: A2, R161. -/
  | movMoffsAl (off : Word)
  /-- MOV moffs16, AX: A3, R161. -/
  | movMoffsAx (off : Word)
  /-- TEST AL, imm8: A8, R245. -/
  | testAlImm8 (imm : Byte)
  /-- TEST AX, imm16: A9, R245. -/
  | testAxImm16 (imm : Word)
  /-- MOV r8, imm8: B0/F8, R161. -/
  | movR8Imm8 (r : Reg8) (imm : Byte)
  /-- MOV r16, imm16: B8/F8, R161. -/
  | movR16Imm16 (r : Reg16) (imm : Word)
  /-- ROL r/m8, imm8: C000/FF38, R250. -/
  | rolRm8Imm8 (rm : RM8) (imm : Byte)
  /-- ROR r/m8, imm8: C008/FF38, R251. -/
  | rorRm8Imm8 (rm : RM8) (imm : Byte)
  /-- RCL r/m8, imm8: C010/FF38, R252. -/
  | rclRm8Imm8 (rm : RM8) (imm : Byte)
  /-- RCR r/m8, imm8: C018/FF38, R253. -/
  | rcrRm8Imm8 (rm : RM8) (imm : Byte)
  /-- SHL r/m8, imm8 (alias SAL): C020/FF38, R247. -/
  | shlRm8Imm8 (rm : RM8) (imm : Byte)
  /-- SHR r/m8, imm8: C028/FF38, R248. -/
  | shrRm8Imm8 (rm : RM8) (imm : Byte)
  /-- SAR r/m8, imm8: C038/FF38, R249. -/
  | sarRm8Imm8 (rm : RM8) (imm : Byte)
  /-- ROL r/m16, imm8: C100/FF38, R250. -/
  | rolRm16Imm8 (rm : RM16) (imm : Byte)
  /-- ROR r/m16, imm8: C108/FF38, R251. -/
  | rorRm16Imm8 (rm : RM16) (imm : Byte)
  /-- RCL r/m16, imm8: C110/FF38, R252. -/
  | rclRm16Imm8 (rm : RM16) (imm : Byte)
  /-- RCR r/m16, imm8: C118/FF38, R253. -/
  | rcrRm16Imm8 (rm : RM16) (imm : Byte)
  /-- SHL r/m16, imm8 (alias SAL): C120/FF38, R247. -/
  | shlRm16Imm8 (rm : RM16) (imm : Byte)
  /-- SHR r/m16, imm8: C128/FF38, R248. -/
  | shrRm16Imm8 (rm : RM16) (imm : Byte)
  /-- SAR r/m16, imm8: C138/FF38, R249. -/
  | sarRm16Imm8 (rm : RM16) (imm : Byte)
  /-- ROL r/m8, 1: D000/FF38, R250. -/
  | rolRm8One (rm : RM8)
  /-- ROR r/m8, 1: D008/FF38, R251. -/
  | rorRm8One (rm : RM8)
  /-- RCL r/m8, 1: D010/FF38, R252. -/
  | rclRm8One (rm : RM8)
  /-- RCR r/m8, 1: D018/FF38, R253. -/
  | rcrRm8One (rm : RM8)
  /-- SHL r/m8, 1 (alias SAL): D020/FF38, R247. -/
  | shlRm8One (rm : RM8)
  /-- SHR r/m8, 1: D028/FF38, R248. -/
  | shrRm8One (rm : RM8)
  /-- SAR r/m8, 1: D038/FF38, R249. -/
  | sarRm8One (rm : RM8)
  /-- ROL r/m16, 1: D100/FF38, R250. -/
  | rolRm16One (rm : RM16)
  /-- ROR r/m16, 1: D108/FF38, R251. -/
  | rorRm16One (rm : RM16)
  /-- RCL r/m16, 1: D110/FF38, R252. -/
  | rclRm16One (rm : RM16)
  /-- RCR r/m16, 1: D118/FF38, R253. -/
  | rcrRm16One (rm : RM16)
  /-- SHL r/m16, 1 (alias SAL): D120/FF38, R247. -/
  | shlRm16One (rm : RM16)
  /-- SHR r/m16, 1: D128/FF38, R248. -/
  | shrRm16One (rm : RM16)
  /-- SAR r/m16, 1: D138/FF38, R249. -/
  | sarRm16One (rm : RM16)
  /-- ROL r/m8, CL: D200/FF38, R250. -/
  | rolRm8Cl (rm : RM8)
  /-- ROR r/m8, CL: D208/FF38, R251. -/
  | rorRm8Cl (rm : RM8)
  /-- RCL r/m8, CL: D210/FF38, R252. -/
  | rclRm8Cl (rm : RM8)
  /-- RCR r/m8, CL: D218/FF38, R253. -/
  | rcrRm8Cl (rm : RM8)
  /-- SHL r/m8, CL (alias SAL): D220/FF38, R247. -/
  | shlRm8Cl (rm : RM8)
  /-- SHR r/m8, CL: D228/FF38, R248. -/
  | shrRm8Cl (rm : RM8)
  /-- SAR r/m8, CL: D238/FF38, R249. -/
  | sarRm8Cl (rm : RM8)
  /-- ROL r/m16, CL: D300/FF38, R250. -/
  | rolRm16Cl (rm : RM16)
  /-- ROR r/m16, CL: D308/FF38, R251. -/
  | rorRm16Cl (rm : RM16)
  /-- RCL r/m16, CL: D310/FF38, R252. -/
  | rclRm16Cl (rm : RM16)
  /-- RCR r/m16, CL: D318/FF38, R253. -/
  | rcrRm16Cl (rm : RM16)
  /-- SHL r/m16, CL (alias SAL): D320/FF38, R247. -/
  | shlRm16Cl (rm : RM16)
  /-- SHR r/m16, CL: D328/FF38, R248. -/
  | shrRm16Cl (rm : RM16)
  /-- SAR r/m16, CL: D338/FF38, R249. -/
  | sarRm16Cl (rm : RM16)
  /-- RET imm16 (near): C2, R296. -/
  | retImm16 (imm : Word)
  /-- LES r16, m16:16: C4, R179. -/
  | les (r : Reg16) (m : Mem)
  /-- LDS r16, m16:16: C5, R178. -/
  | lds (r : Reg16) (m : Mem)
  /-- MOV r/m8, imm8: C600/FF38, R161. -/
  | movRm8Imm8 (rm : RM8) (imm : Byte)
  /-- MOV r/m16, imm16: C700/FF38, R161. -/
  | movRm16Imm16 (rm : RM16) (imm : Word)
  /-- ENTER imm16, imm8: C8, R341. -/
  | enter (imm : Word) (level : Byte)
  /-- RET imm16 (far; written RETF): CA, R297. -/
  | retfImm16 (imm : Word)
  /-- INT imm8: CD, R306. -/
  | intImm8 (imm : Byte)
  /-- AAM: D4, R216. -/
  | aam (base : Byte)
  /-- AAD: D5, R219. -/
  | aad (base : Byte)
  /-- ESC opcode-number, r/m: D8/F8, R360. -/
  | esc (op : BitVec 6) (rm : RM16)
  /-- LOOPNZ rel8 (alias LOOPNE): E0, R304. -/
  | loopnz (rel : Byte)
  /-- LOOPZ rel8 (alias LOOPE): E1, R303. -/
  | loopz (rel : Byte)
  /-- LOOP rel8: E2, R302. -/
  | loop (rel : Byte)
  /-- JCXZ rel8: E3, R305. -/
  | jcxz (rel : Byte)
  /-- IN AL, imm8: E4, R170. -/
  | inAlImm8 (imm : Byte)
  /-- IN AX, imm8: E5, R170. -/
  | inAxImm8 (imm : Byte)
  /-- OUT imm8, AL: E6, R171. -/
  | outImm8Al (imm : Byte)
  /-- OUT imm8, AX: E7, R171. -/
  | outImm8Ax (imm : Byte)
  /-- CALL rel16: E8, R292. -/
  | callRel16 (rel : Word)
  /-- JMP rel16: E9, R298. -/
  | jmpRel16 (rel : Word)
  /-- JMP ptr16:16: EA, R300. -/
  | jmpPtr (sel : Word) (off : Word)
  /-- JMP rel8 (short): EB, R298. -/
  | jmpRel8 (rel : Byte)
  /-- TEST r/m8, imm8: F600/FF38, R245. -/
  | testRm8Imm8 (rm : RM8) (imm : Byte)
  /-- NOT r/m8: F610/FF38, R241. -/
  | notRm8 (rm : RM8)
  /-- NEG r/m8: F618/FF38, R209. -/
  | negRm8 (rm : RM8)
  /-- MUL r/m8: F620/FF38, R213. -/
  | mulRm8 (rm : RM8)
  /-- IMUL r/m8: F628/FF38, R214. -/
  | imulRm8 (rm : RM8)
  /-- DIV r/m8: F630/FF38, R217. -/
  | divRm8 (rm : RM8)
  /-- IDIV r/m8: F638/FF38, R218. -/
  | idivRm8 (rm : RM8)
  /-- TEST r/m16, imm16: F700/FF38, R245. -/
  | testRm16Imm16 (rm : RM16) (imm : Word)
  /-- NOT r/m16: F710/FF38, R241. -/
  | notRm16 (rm : RM16)
  /-- NEG r/m16: F718/FF38, R209. -/
  | negRm16 (rm : RM16)
  /-- MUL r/m16: F720/FF38, R213. -/
  | mulRm16 (rm : RM16)
  /-- IMUL r/m16: F728/FF38, R214. -/
  | imulRm16 (rm : RM16)
  /-- DIV r/m16: F730/FF38, R217. -/
  | divRm16 (rm : RM16)
  /-- IDIV r/m16: F738/FF38, R218. -/
  | idivRm16 (rm : RM16)
  /-- INC r/m8: FE00/FF38, R203. -/
  | incRm8 (rm : RM8)
  /-- DEC r/m8: FE08/FF38, R208. -/
  | decRm8 (rm : RM8)
  /-- INC r/m16: FF00/FF38, R203. -/
  | incRm16 (rm : RM16)
  /-- DEC r/m16: FF08/FF38, R208. -/
  | decRm16 (rm : RM16)
  /-- CALL r/m16 (near indirect): FF10/FF38, R293. -/
  | callRm16 (rm : RM16)
  /-- CALL m16:16 (far indirect): FF18/FF38, R295. -/
  | callM16_16 (m : Mem)
  /-- JMP r/m16 (near indirect): FF20/FF38, R299. -/
  | jmpRm16 (rm : RM16)
  /-- JMP m16:16 (far indirect): FF28/FF38, R301. -/
  | jmpM16_16 (m : Mem)
  /-- PUSH r/m16: FF30/FF38, R164. -/
  | pushRm16 (rm : RM16)
  /-- SLDT r/m16: 0F0000/FFFF38, R378. -/
  | sldt (rm : RM16)
  /-- STR r/m16: 0F0008/FFFF38, R380. -/
  | str (rm : RM16)
  /-- LLDT r/m16: 0F0010/FFFF38, R373. -/
  | lldt (rm : RM16)
  /-- LTR r/m16: 0F0018/FFFF38, R375. -/
  | ltr (rm : RM16)
  /-- VERR r/m16: 0F0020/FFFF38, R396. -/
  | verr (rm : RM16)
  /-- VERW r/m16: 0F0028/FFFF38, R397. -/
  | verw (rm : RM16)
  /-- SGDT m16&24: 0F0100/FFFF38, R376. -/
  | sgdt (m : Mem)
  /-- SIDT m16&24: 0F0108/FFFF38, R377. -/
  | sidt (m : Mem)
  /-- LGDT m16&24: 0F0110/FFFF38, R371. -/
  | lgdt (m : Mem)
  /-- LIDT m16&24: 0F0118/FFFF38, R372. -/
  | lidt (m : Mem)
  /-- SMSW r/m16: 0F0120/FFFF38, R379. -/
  | smsw (rm : RM16)
  /-- LMSW r/m16: 0F0130/FFFF38, R374. -/
  | lmsw (rm : RM16)
  /-- LAR r16, r/m16: 0F02, R394. -/
  | lar (r : Reg16) (rm : RM16)
  /-- LSL r16, r/m16: 0F03, R395. -/
  | lsl (r : Reg16) (rm : RM16)
  /-- PUSH ES: 06, R165. -/
  | pushEs
  /-- PUSH CS: 0E, R165. -/
  | pushCs
  /-- PUSH SS: 16, R165. -/
  | pushSs
  /-- PUSH DS: 1E, R165. -/
  | pushDs
  /-- POP ES: 07, R167. -/
  | popEs
  /-- POP SS: 17, R167. -/
  | popSs
  /-- POP DS: 1F, R167. -/
  | popDs
  /-- ES: (segment override prefix): 26, R122. -/
  | segEs
  /-- CS: (segment override prefix): 2E, R122. -/
  | segCs
  /-- SS: (segment override prefix): 36, R122. -/
  | segSs
  /-- DS: (segment override prefix): 3E, R122. -/
  | segDs
  /-- LOCK (prefix): F0, R361. -/
  | lock
  /-- REPNE (prefix; alias REPNZ): F2, R278. -/
  | repne
  /-- REP (prefix; aliases REPE, REPZ): F3, R278. -/
  | rep
  /-- DAA: 27, R205. -/
  | daa
  /-- DAS: 2F, R212. -/
  | das
  /-- AAA: 37, R204. -/
  | aaa
  /-- AAS: 3F, R211. -/
  | aas
  /-- PUSHA: 60, R343. -/
  | pusha
  /-- POPA: 61, R344. -/
  | popa
  /-- INS INSB: ES:[DI], port DX, byte: 6C, R276. -/
  | insb
  /-- INS INSW: ES:[DI], port DX, word: 6D, R276. -/
  | insw
  /-- OUTS OUTSB: port DX, DS:[SI], byte: 6E, R277. -/
  | outsb
  /-- OUTS OUTSW: port DX, DS:[SI], word: 6F, R277. -/
  | outsw
  /-- NOP (XCHG AX, AX): 90, R169. -/
  | nop
  /-- CBW: 98, R220. -/
  | cbw
  /-- CWD: 99, R221. -/
  | cwd
  /-- WAIT: 9B, R359. -/
  | wait
  /-- PUSHF: 9C, R182. -/
  | pushf
  /-- POPF: 9D, R183. -/
  | popf
  /-- SAHF: 9E, R181. -/
  | sahf
  /-- LAHF: 9F, R180. -/
  | lahf
  /-- MOVS MOVSB: A4, R271. -/
  | movsb
  /-- MOVS MOVSW: A5, R271. -/
  | movsw
  /-- CMPS CMPSB: A6, R272. -/
  | cmpsb
  /-- CMPS CMPSW: A7, R272. -/
  | cmpsw
  /-- STOS STOSB: AA, R275. -/
  | stosb
  /-- STOS STOSW: AB, R275. -/
  | stosw
  /-- LODS LODSB: AC, R274. -/
  | lodsb
  /-- LODS LODSW: AD, R274. -/
  | lodsw
  /-- SCAS SCASB: AE, R273. -/
  | scasb
  /-- SCAS SCASW: AF, R273. -/
  | scasw
  /-- RET (near): C3, R296. -/
  | ret
  /-- LEAVE: C9, R342. -/
  | leave
  /-- RET (far; written RETF): CB, R297. -/
  | retf
  /-- INT 3 (one-byte breakpoint form): CC, R307. -/
  | int3
  /-- INTO: CE, R308. -/
  | into
  /-- IRET: CF, R309. -/
  | iret
  /-- XLAT: D7, R172. -/
  | xlat
  /-- IN AL, DX: EC, R170. -/
  | inAlDx
  /-- IN AX, DX: ED, R170. -/
  | inAxDx
  /-- OUT DX, AL: EE, R171. -/
  | outDxAl
  /-- OUT DX, AX: EF, R171. -/
  | outDxAx
  /-- HLT: F4, R358. -/
  | hlt
  /-- CMC: F5, R353. -/
  | cmc
  /-- CLC: F8, R352. -/
  | clc
  /-- STC: F9, R351. -/
  | stc
  /-- CLI: FA, R357. -/
  | cli
  /-- STI: FB, R356. -/
  | sti
  /-- CLD: FC, R355. -/
  | cld
  /-- STD: FD, R354. -/
  | std
  /-- CTS (Intel assembler mnemonic: CLTS): 0F06, R392. -/
  | cts
  deriving DecidableEq, Repr

end Sys2Proof
end

