-- ==== Sys2Proof/WellFormed.lean ====
section
/-! DEFINITION. Which terms of `Instr` have an encoding: the memory form and the two register choices that the table's
rows exclude (30_encoding.md R124, R130, R136, R141). -/

namespace Sys2Proof

/-- mod 0 with rm 6 is the direct address, so `bp` alone has no form (30_encoding.md R130). -/
def Mem.wellFormed : Mem → Bool
  | .base .bp => false
  | .base .bxsi | .base .bxdi | .base .bpsi | .base .bpdi | .base .si | .base .di | .base .bx => true
  | .direct _ | .disp8 _ _ | .disp16 _ _ => true

/-- A byte r/m operand is encodable when its memory form is. -/
def RM8.wellFormed : RM8 → Bool
  | .reg _ => true
  | .mem m => m.wellFormed

/-- A word r/m operand is encodable when its memory form is. -/
def RM16.wellFormed : RM16 → Bool
  | .reg _ => true
  | .mem m => m.wellFormed

/-- XCHG AX, r16 has rows for r = 1..7 only; 90 is NOP (30_encoding.md R136). -/
def Reg16.xchgOperand (r : Reg16) : Bool := r != .ax

/-- MOV to CS does not exist (30_encoding.md R141). -/
def SReg.loadable (sr : SReg) : Bool := sr != .cs

/-- An instruction that has an encoding. -/
def Instr.wellFormed : Instr → Bool
  | .addRm8R8 rm _ => rm.wellFormed
  | .addRm16R16 rm _ => rm.wellFormed
  | .addR8Rm8 _ rm => rm.wellFormed
  | .addR16Rm16 _ rm => rm.wellFormed
  | .addAlImm8 _ => true
  | .addAxImm16 _ => true
  | .orRm8R8 rm _ => rm.wellFormed
  | .orRm16R16 rm _ => rm.wellFormed
  | .orR8Rm8 _ rm => rm.wellFormed
  | .orR16Rm16 _ rm => rm.wellFormed
  | .orAlImm8 _ => true
  | .orAxImm16 _ => true
  | .adcRm8R8 rm _ => rm.wellFormed
  | .adcRm16R16 rm _ => rm.wellFormed
  | .adcR8Rm8 _ rm => rm.wellFormed
  | .adcR16Rm16 _ rm => rm.wellFormed
  | .adcAlImm8 _ => true
  | .adcAxImm16 _ => true
  | .sbbRm8R8 rm _ => rm.wellFormed
  | .sbbRm16R16 rm _ => rm.wellFormed
  | .sbbR8Rm8 _ rm => rm.wellFormed
  | .sbbR16Rm16 _ rm => rm.wellFormed
  | .sbbAlImm8 _ => true
  | .sbbAxImm16 _ => true
  | .andRm8R8 rm _ => rm.wellFormed
  | .andRm16R16 rm _ => rm.wellFormed
  | .andR8Rm8 _ rm => rm.wellFormed
  | .andR16Rm16 _ rm => rm.wellFormed
  | .andAlImm8 _ => true
  | .andAxImm16 _ => true
  | .subRm8R8 rm _ => rm.wellFormed
  | .subRm16R16 rm _ => rm.wellFormed
  | .subR8Rm8 _ rm => rm.wellFormed
  | .subR16Rm16 _ rm => rm.wellFormed
  | .subAlImm8 _ => true
  | .subAxImm16 _ => true
  | .xorRm8R8 rm _ => rm.wellFormed
  | .xorRm16R16 rm _ => rm.wellFormed
  | .xorR8Rm8 _ rm => rm.wellFormed
  | .xorR16Rm16 _ rm => rm.wellFormed
  | .xorAlImm8 _ => true
  | .xorAxImm16 _ => true
  | .cmpRm8R8 rm _ => rm.wellFormed
  | .cmpRm16R16 rm _ => rm.wellFormed
  | .cmpR8Rm8 _ rm => rm.wellFormed
  | .cmpR16Rm16 _ rm => rm.wellFormed
  | .cmpAlImm8 _ => true
  | .cmpAxImm16 _ => true
  | .incR16 _ => true
  | .decR16 _ => true
  | .pushR16 _ => true
  | .popR16 _ => true
  | .bound _ m => m.wellFormed
  | .arpl rm _ => rm.wellFormed
  | .pushImm16 _ => true
  | .imulR16Rm16Imm16 _ rm _ => rm.wellFormed
  | .pushImm8 _ => true
  | .imulR16Rm16Imm8 _ rm _ => rm.wellFormed
  | .jo _ => true
  | .jno _ => true
  | .jb _ => true
  | .jnb _ => true
  | .je _ => true
  | .jne _ => true
  | .jbe _ => true
  | .jnbe _ => true
  | .js _ => true
  | .jns _ => true
  | .jp _ => true
  | .jnp _ => true
  | .jl _ => true
  | .jnl _ => true
  | .jle _ => true
  | .jnle _ => true
  | .addRm8Imm8 rm _ => rm.wellFormed
  | .orRm8Imm8 rm _ => rm.wellFormed
  | .adcRm8Imm8 rm _ => rm.wellFormed
  | .sbbRm8Imm8 rm _ => rm.wellFormed
  | .andRm8Imm8 rm _ => rm.wellFormed
  | .subRm8Imm8 rm _ => rm.wellFormed
  | .xorRm8Imm8 rm _ => rm.wellFormed
  | .cmpRm8Imm8 rm _ => rm.wellFormed
  | .addRm16Imm16 rm _ => rm.wellFormed
  | .orRm16Imm16 rm _ => rm.wellFormed
  | .adcRm16Imm16 rm _ => rm.wellFormed
  | .sbbRm16Imm16 rm _ => rm.wellFormed
  | .andRm16Imm16 rm _ => rm.wellFormed
  | .subRm16Imm16 rm _ => rm.wellFormed
  | .xorRm16Imm16 rm _ => rm.wellFormed
  | .cmpRm16Imm16 rm _ => rm.wellFormed
  | .addRm8Imm8Dup rm _ => rm.wellFormed
  | .orRm8Imm8Dup rm _ => rm.wellFormed
  | .adcRm8Imm8Dup rm _ => rm.wellFormed
  | .sbbRm8Imm8Dup rm _ => rm.wellFormed
  | .andRm8Imm8Dup rm _ => rm.wellFormed
  | .subRm8Imm8Dup rm _ => rm.wellFormed
  | .xorRm8Imm8Dup rm _ => rm.wellFormed
  | .cmpRm8Imm8Dup rm _ => rm.wellFormed
  | .addRm16Imm8 rm _ => rm.wellFormed
  | .orRm16Imm8 rm _ => rm.wellFormed
  | .adcRm16Imm8 rm _ => rm.wellFormed
  | .sbbRm16Imm8 rm _ => rm.wellFormed
  | .andRm16Imm8 rm _ => rm.wellFormed
  | .subRm16Imm8 rm _ => rm.wellFormed
  | .xorRm16Imm8 rm _ => rm.wellFormed
  | .cmpRm16Imm8 rm _ => rm.wellFormed
  | .testRm8R8 rm _ => rm.wellFormed
  | .testRm16R16 rm _ => rm.wellFormed
  | .xchgRm8R8 rm _ => rm.wellFormed
  | .xchgRm16R16 rm _ => rm.wellFormed
  | .movRm8R8 rm _ => rm.wellFormed
  | .movRm16R16 rm _ => rm.wellFormed
  | .movR8Rm8 _ rm => rm.wellFormed
  | .movR16Rm16 _ rm => rm.wellFormed
  | .movRm16Sreg rm _ => rm.wellFormed
  | .lea _ m => m.wellFormed
  | .movSregRm16 sr rm => sr.loadable && rm.wellFormed
  | .popRm16 rm => rm.wellFormed
  | .xchgAxR16 r => r.xchgOperand
  | .callPtr _ _ => true
  | .movAlMoffs _ => true
  | .movAxMoffs _ => true
  | .movMoffsAl _ => true
  | .movMoffsAx _ => true
  | .testAlImm8 _ => true
  | .testAxImm16 _ => true
  | .movR8Imm8 _ _ => true
  | .movR16Imm16 _ _ => true
  | .rolRm8Imm8 rm _ => rm.wellFormed
  | .rorRm8Imm8 rm _ => rm.wellFormed
  | .rclRm8Imm8 rm _ => rm.wellFormed
  | .rcrRm8Imm8 rm _ => rm.wellFormed
  | .shlRm8Imm8 rm _ => rm.wellFormed
  | .shrRm8Imm8 rm _ => rm.wellFormed
  | .sarRm8Imm8 rm _ => rm.wellFormed
  | .rolRm16Imm8 rm _ => rm.wellFormed
  | .rorRm16Imm8 rm _ => rm.wellFormed
  | .rclRm16Imm8 rm _ => rm.wellFormed
  | .rcrRm16Imm8 rm _ => rm.wellFormed
  | .shlRm16Imm8 rm _ => rm.wellFormed
  | .shrRm16Imm8 rm _ => rm.wellFormed
  | .sarRm16Imm8 rm _ => rm.wellFormed
  | .rolRm8One rm => rm.wellFormed
  | .rorRm8One rm => rm.wellFormed
  | .rclRm8One rm => rm.wellFormed
  | .rcrRm8One rm => rm.wellFormed
  | .shlRm8One rm => rm.wellFormed
  | .shrRm8One rm => rm.wellFormed
  | .sarRm8One rm => rm.wellFormed
  | .rolRm16One rm => rm.wellFormed
  | .rorRm16One rm => rm.wellFormed
  | .rclRm16One rm => rm.wellFormed
  | .rcrRm16One rm => rm.wellFormed
  | .shlRm16One rm => rm.wellFormed
  | .shrRm16One rm => rm.wellFormed
  | .sarRm16One rm => rm.wellFormed
  | .rolRm8Cl rm => rm.wellFormed
  | .rorRm8Cl rm => rm.wellFormed
  | .rclRm8Cl rm => rm.wellFormed
  | .rcrRm8Cl rm => rm.wellFormed
  | .shlRm8Cl rm => rm.wellFormed
  | .shrRm8Cl rm => rm.wellFormed
  | .sarRm8Cl rm => rm.wellFormed
  | .rolRm16Cl rm => rm.wellFormed
  | .rorRm16Cl rm => rm.wellFormed
  | .rclRm16Cl rm => rm.wellFormed
  | .rcrRm16Cl rm => rm.wellFormed
  | .shlRm16Cl rm => rm.wellFormed
  | .shrRm16Cl rm => rm.wellFormed
  | .sarRm16Cl rm => rm.wellFormed
  | .retImm16 _ => true
  | .les _ m => m.wellFormed
  | .lds _ m => m.wellFormed
  | .movRm8Imm8 rm _ => rm.wellFormed
  | .movRm16Imm16 rm _ => rm.wellFormed
  | .enter _ _ => true
  | .retfImm16 _ => true
  | .intImm8 _ => true
  | .aam _ => true
  | .aad _ => true
  | .esc _ rm => rm.wellFormed
  | .loopnz _ => true
  | .loopz _ => true
  | .loop _ => true
  | .jcxz _ => true
  | .inAlImm8 _ => true
  | .inAxImm8 _ => true
  | .outImm8Al _ => true
  | .outImm8Ax _ => true
  | .callRel16 _ => true
  | .jmpRel16 _ => true
  | .jmpPtr _ _ => true
  | .jmpRel8 _ => true
  | .testRm8Imm8 rm _ => rm.wellFormed
  | .notRm8 rm => rm.wellFormed
  | .negRm8 rm => rm.wellFormed
  | .mulRm8 rm => rm.wellFormed
  | .imulRm8 rm => rm.wellFormed
  | .divRm8 rm => rm.wellFormed
  | .idivRm8 rm => rm.wellFormed
  | .testRm16Imm16 rm _ => rm.wellFormed
  | .notRm16 rm => rm.wellFormed
  | .negRm16 rm => rm.wellFormed
  | .mulRm16 rm => rm.wellFormed
  | .imulRm16 rm => rm.wellFormed
  | .divRm16 rm => rm.wellFormed
  | .idivRm16 rm => rm.wellFormed
  | .incRm8 rm => rm.wellFormed
  | .decRm8 rm => rm.wellFormed
  | .incRm16 rm => rm.wellFormed
  | .decRm16 rm => rm.wellFormed
  | .callRm16 rm => rm.wellFormed
  | .callM16_16 m => m.wellFormed
  | .jmpRm16 rm => rm.wellFormed
  | .jmpM16_16 m => m.wellFormed
  | .pushRm16 rm => rm.wellFormed
  | .sldt rm => rm.wellFormed
  | .str rm => rm.wellFormed
  | .lldt rm => rm.wellFormed
  | .ltr rm => rm.wellFormed
  | .verr rm => rm.wellFormed
  | .verw rm => rm.wellFormed
  | .sgdt m => m.wellFormed
  | .sidt m => m.wellFormed
  | .lgdt m => m.wellFormed
  | .lidt m => m.wellFormed
  | .smsw rm => rm.wellFormed
  | .lmsw rm => rm.wellFormed
  | .lar _ rm => rm.wellFormed
  | .lsl _ rm => rm.wellFormed
  | .pushEs => true
  | .pushCs => true
  | .pushSs => true
  | .pushDs => true
  | .popEs => true
  | .popSs => true
  | .popDs => true
  | .segEs => true
  | .segCs => true
  | .segSs => true
  | .segDs => true
  | .lock => true
  | .repne => true
  | .rep => true
  | .daa => true
  | .das => true
  | .aaa => true
  | .aas => true
  | .pusha => true
  | .popa => true
  | .insb => true
  | .insw => true
  | .outsb => true
  | .outsw => true
  | .nop => true
  | .cbw => true
  | .cwd => true
  | .wait => true
  | .pushf => true
  | .popf => true
  | .sahf => true
  | .lahf => true
  | .movsb => true
  | .movsw => true
  | .cmpsb => true
  | .cmpsw => true
  | .stosb => true
  | .stosw => true
  | .lodsb => true
  | .lodsw => true
  | .scasb => true
  | .scasw => true
  | .ret => true
  | .leave => true
  | .retf => true
  | .int3 => true
  | .into => true
  | .iret => true
  | .xlat => true
  | .inAlDx => true
  | .inAxDx => true
  | .outDxAl => true
  | .outDxAx => true
  | .hlt => true
  | .cmc => true
  | .clc => true
  | .stc => true
  | .cli => true
  | .sti => true
  | .cld => true
  | .std => true
  | .cts => true

/-- The same as a proposition. -/
abbrev WellFormed (i : Instr) : Prop := i.wellFormed = true

end Sys2Proof
end

