-- ==== Sys2Proof/Decode.lean ====
section
/-! DEFINITION. Decoding of instruction bytes (30_encoding.md R121 to R142), total on any bytes and rejecting by name, and
the encoder written from the same tables. Prefix bytes decode to instructions of their own (log 1). -/

namespace Sys2Proof

/-- What the bytes at the instruction pointer are. -/
inductive Decoded where
  /-- An instruction and the bytes after it. -/
  | instr (i : Instr) (rest : List Byte)
  /-- The bytes end inside an instruction. -/
  | short
  /-- An encoding that raises InvalidOpcode (30_encoding.md R141, the first list). -/
  | illegal
  /-- An encoding with no documented behaviour, which a model refuses (30_encoding.md R141, the second list; U6). -/
  | reserved
  deriving DecidableEq, Repr

/-- The word register of a number (00_scope.md R12). -/
def Reg16.ofNum (n : BitVec 3) : Reg16 :=
  match n.toNat with
  | 0 => .ax | 1 => .cx | 2 => .dx | 3 => .bx | 4 => .sp | 5 => .bp | 6 => .si | _ => .di

/-- The number of a word register (00_scope.md R12). -/
def Reg16.num : Reg16 → BitVec 3
  | .ax => 0 | .cx => 1 | .dx => 2 | .bx => 3 | .sp => 4 | .bp => 5 | .si => 6 | .di => 7

/-- The byte register of a number (00_scope.md R12). -/
def Reg8.ofNum (n : BitVec 3) : Reg8 :=
  match n.toNat with
  | 0 => .al | 1 => .cl | 2 => .dl | 3 => .bl | 4 => .ah | 5 => .ch | 6 => .dh | _ => .bh

/-- The number of a byte register (00_scope.md R12). -/
def Reg8.num : Reg8 → BitVec 3
  | .al => 0 | .cl => 1 | .dl => 2 | .bl => 3 | .ah => 4 | .ch => 5 | .dh => 6 | .bh => 7

/-- The segment register of a ModRM reg field; 4..7 name none (00_scope.md R12, 30_encoding.md R141). -/
def SReg.ofNum (n : BitVec 3) : Option SReg :=
  match n.toNat with
  | 0 => some .es | 1 => some .cs | 2 => some .ss | 3 => some .ds | _ => none

/-- The number of a segment register (00_scope.md R12). -/
def SReg.num : SReg → BitVec 3
  | .es => 0 | .cs => 1 | .ss => 2 | .ds => 3

/-- The base form of an rm field (30_encoding.md R130). -/
def Base.ofNum (n : BitVec 3) : Base :=
  match n.toNat with
  | 0 => .bxsi | 1 => .bxdi | 2 => .bpsi | 3 => .bpdi | 4 => .si | 5 => .di | 6 => .bp | _ => .bx

/-- The rm field of a base form (30_encoding.md R130). -/
def Base.num : Base → BitVec 3
  | .bxsi => 0 | .bxdi => 1 | .bpsi => 2 | .bpdi => 3 | .si => 4 | .di => 5 | .bp => 6 | .bx => 7

/-- The word of two instruction bytes, the low one first (30_encoding.md R132). -/
def wordOf (lo hi : Byte) : Word := hi ++ lo

/-- The low byte of a word. -/
def loByte (w : Word) : Byte := w.extractLsb' 0 8

/-- The high byte of a word. -/
def hiByte (w : Word) : Byte := w.extractLsb' 8 8

/-- The r/m half of a ModRM byte with its displacement: a register number or a memory form (30_encoding.md R124). -/
inductive RmField where
  | reg (n : BitVec 3)
  | mem (m : Mem)
  deriving DecidableEq, Repr

/-- The field read as a byte operand. -/
def RmField.rm8 : RmField → RM8
  | .reg n => .reg (Reg8.ofNum n)
  | .mem m => .mem m

/-- The field read as a word operand. -/
def RmField.rm16 : RmField → RM16
  | .reg n => .reg (Reg16.ofNum n)
  | .mem m => .mem m

/-- A field that must be in memory: a register is an illegal encoding (30_encoding.md R141). -/
def RmField.ifMem (f : RmField) (k : Mem → Decoded) : Decoded :=
  match f with
  | .reg _ => .illegal
  | .mem m => k m

/-- The bytes `t` as an 8-bit immediate and what follows. -/
def imm8 (t : List Byte) (k : Byte → List Byte → Decoded) : Decoded :=
  match t with
  | b :: u => k b u
  | [] => .short

/-- The bytes `t` as a 16-bit immediate, low byte first, and what follows. -/
def imm16 (t : List Byte) (k : Word → List Byte → Decoded) : Decoded :=
  match t with
  | lo :: hi :: u => k (wordOf lo hi) u
  | [_] | [] => .short

/-- The ModRM byte and the displacement it calls for (30_encoding.md R124, R130): the reg field and the r/m field. -/
def onRM (t : List Byte) (k : BitVec 3 → RmField → List Byte → Decoded) : Decoded :=
  match t with
  | [] => .short
  | x :: u =>
    let g : BitVec 3 := x.extractLsb' 3 3
    let n : BitVec 3 := x.extractLsb' 0 3
    match (x.extractLsb' 6 2 : BitVec 2).toNat with
    | 0 => if n = 6#3 then imm16 u fun d v => k g (.mem (.direct d)) v else k g (.mem (.base (Base.ofNum n))) u
    | 1 => imm8 u fun d v => k g (.mem (.disp8 (Base.ofNum n) d)) v
    | 2 => imm16 u fun d v => k g (.mem (.disp16 (Base.ofNum n) d)) v
    | _ => k g (.reg n) u

/-- A ModRM operand that must be in memory (30_encoding.md R141). -/
def onMem (t : List Byte) (k : BitVec 3 → Mem → List Byte → Decoded) : Decoded :=
  onRM t fun g f u => f.ifMem fun m => k g m u

/-- Opcode 80: the reg field selects the instruction (30_encoding.md R139). -/
def group80 (t : List Byte) : Decoded :=
  onRM t fun g f u =>
    match g.toNat with
    | 0 => imm8 u fun imm v => .instr (.addRm8Imm8 f.rm8 imm) v
    | 1 => imm8 u fun imm v => .instr (.orRm8Imm8 f.rm8 imm) v
    | 2 => imm8 u fun imm v => .instr (.adcRm8Imm8 f.rm8 imm) v
    | 3 => imm8 u fun imm v => .instr (.sbbRm8Imm8 f.rm8 imm) v
    | 4 => imm8 u fun imm v => .instr (.andRm8Imm8 f.rm8 imm) v
    | 5 => imm8 u fun imm v => .instr (.subRm8Imm8 f.rm8 imm) v
    | 6 => imm8 u fun imm v => .instr (.xorRm8Imm8 f.rm8 imm) v
    | _ => imm8 u fun imm v => .instr (.cmpRm8Imm8 f.rm8 imm) v

/-- Opcode 81: the reg field selects the instruction (30_encoding.md R139). -/
def group81 (t : List Byte) : Decoded :=
  onRM t fun g f u =>
    match g.toNat with
    | 0 => imm16 u fun imm v => .instr (.addRm16Imm16 f.rm16 imm) v
    | 1 => imm16 u fun imm v => .instr (.orRm16Imm16 f.rm16 imm) v
    | 2 => imm16 u fun imm v => .instr (.adcRm16Imm16 f.rm16 imm) v
    | 3 => imm16 u fun imm v => .instr (.sbbRm16Imm16 f.rm16 imm) v
    | 4 => imm16 u fun imm v => .instr (.andRm16Imm16 f.rm16 imm) v
    | 5 => imm16 u fun imm v => .instr (.subRm16Imm16 f.rm16 imm) v
    | 6 => imm16 u fun imm v => .instr (.xorRm16Imm16 f.rm16 imm) v
    | _ => imm16 u fun imm v => .instr (.cmpRm16Imm16 f.rm16 imm) v

/-- Opcode 82: the reg field selects the instruction (30_encoding.md R139). -/
def group82 (t : List Byte) : Decoded :=
  onRM t fun g f u =>
    match g.toNat with
    | 0 => imm8 u fun imm v => .instr (.addRm8Imm8Dup f.rm8 imm) v
    | 1 => imm8 u fun imm v => .instr (.orRm8Imm8Dup f.rm8 imm) v
    | 2 => imm8 u fun imm v => .instr (.adcRm8Imm8Dup f.rm8 imm) v
    | 3 => imm8 u fun imm v => .instr (.sbbRm8Imm8Dup f.rm8 imm) v
    | 4 => imm8 u fun imm v => .instr (.andRm8Imm8Dup f.rm8 imm) v
    | 5 => imm8 u fun imm v => .instr (.subRm8Imm8Dup f.rm8 imm) v
    | 6 => imm8 u fun imm v => .instr (.xorRm8Imm8Dup f.rm8 imm) v
    | _ => imm8 u fun imm v => .instr (.cmpRm8Imm8Dup f.rm8 imm) v

/-- Opcode 83: the reg field selects the instruction (30_encoding.md R139). -/
def group83 (t : List Byte) : Decoded :=
  onRM t fun g f u =>
    match g.toNat with
    | 0 => imm8 u fun imm v => .instr (.addRm16Imm8 f.rm16 imm) v
    | 1 => imm8 u fun imm v => .instr (.orRm16Imm8 f.rm16 imm) v
    | 2 => imm8 u fun imm v => .instr (.adcRm16Imm8 f.rm16 imm) v
    | 3 => imm8 u fun imm v => .instr (.sbbRm16Imm8 f.rm16 imm) v
    | 4 => imm8 u fun imm v => .instr (.andRm16Imm8 f.rm16 imm) v
    | 5 => imm8 u fun imm v => .instr (.subRm16Imm8 f.rm16 imm) v
    | 6 => imm8 u fun imm v => .instr (.xorRm16Imm8 f.rm16 imm) v
    | _ => imm8 u fun imm v => .instr (.cmpRm16Imm8 f.rm16 imm) v

/-- Opcode 8F: the reg field selects the instruction (30_encoding.md R139). -/
def group8F (t : List Byte) : Decoded :=
  onRM t fun g f u =>
    match g.toNat with
    | 0 => .instr (.popRm16 f.rm16) u
    | 1 => .reserved
    | 2 => .reserved
    | 3 => .reserved
    | 4 => .reserved
    | 5 => .reserved
    | 6 => .reserved
    | _ => .reserved

/-- Opcode C0: the reg field selects the instruction (30_encoding.md R139). -/
def groupC0 (t : List Byte) : Decoded :=
  onRM t fun g f u =>
    match g.toNat with
    | 0 => imm8 u fun imm v => .instr (.rolRm8Imm8 f.rm8 imm) v
    | 1 => imm8 u fun imm v => .instr (.rorRm8Imm8 f.rm8 imm) v
    | 2 => imm8 u fun imm v => .instr (.rclRm8Imm8 f.rm8 imm) v
    | 3 => imm8 u fun imm v => .instr (.rcrRm8Imm8 f.rm8 imm) v
    | 4 => imm8 u fun imm v => .instr (.shlRm8Imm8 f.rm8 imm) v
    | 5 => imm8 u fun imm v => .instr (.shrRm8Imm8 f.rm8 imm) v
    | 6 => .reserved
    | _ => imm8 u fun imm v => .instr (.sarRm8Imm8 f.rm8 imm) v

/-- Opcode C1: the reg field selects the instruction (30_encoding.md R139). -/
def groupC1 (t : List Byte) : Decoded :=
  onRM t fun g f u =>
    match g.toNat with
    | 0 => imm8 u fun imm v => .instr (.rolRm16Imm8 f.rm16 imm) v
    | 1 => imm8 u fun imm v => .instr (.rorRm16Imm8 f.rm16 imm) v
    | 2 => imm8 u fun imm v => .instr (.rclRm16Imm8 f.rm16 imm) v
    | 3 => imm8 u fun imm v => .instr (.rcrRm16Imm8 f.rm16 imm) v
    | 4 => imm8 u fun imm v => .instr (.shlRm16Imm8 f.rm16 imm) v
    | 5 => imm8 u fun imm v => .instr (.shrRm16Imm8 f.rm16 imm) v
    | 6 => .reserved
    | _ => imm8 u fun imm v => .instr (.sarRm16Imm8 f.rm16 imm) v

/-- Opcode C6: the reg field selects the instruction (30_encoding.md R139). -/
def groupC6 (t : List Byte) : Decoded :=
  onRM t fun g f u =>
    match g.toNat with
    | 0 => imm8 u fun imm v => .instr (.movRm8Imm8 f.rm8 imm) v
    | 1 => .reserved
    | 2 => .reserved
    | 3 => .reserved
    | 4 => .reserved
    | 5 => .reserved
    | 6 => .reserved
    | _ => .reserved

/-- Opcode C7: the reg field selects the instruction (30_encoding.md R139). -/
def groupC7 (t : List Byte) : Decoded :=
  onRM t fun g f u =>
    match g.toNat with
    | 0 => imm16 u fun imm v => .instr (.movRm16Imm16 f.rm16 imm) v
    | 1 => .reserved
    | 2 => .reserved
    | 3 => .reserved
    | 4 => .reserved
    | 5 => .reserved
    | 6 => .reserved
    | _ => .reserved

/-- Opcode D0: the reg field selects the instruction (30_encoding.md R139). -/
def groupD0 (t : List Byte) : Decoded :=
  onRM t fun g f u =>
    match g.toNat with
    | 0 => .instr (.rolRm8One f.rm8) u
    | 1 => .instr (.rorRm8One f.rm8) u
    | 2 => .instr (.rclRm8One f.rm8) u
    | 3 => .instr (.rcrRm8One f.rm8) u
    | 4 => .instr (.shlRm8One f.rm8) u
    | 5 => .instr (.shrRm8One f.rm8) u
    | 6 => .reserved
    | _ => .instr (.sarRm8One f.rm8) u

/-- Opcode D1: the reg field selects the instruction (30_encoding.md R139). -/
def groupD1 (t : List Byte) : Decoded :=
  onRM t fun g f u =>
    match g.toNat with
    | 0 => .instr (.rolRm16One f.rm16) u
    | 1 => .instr (.rorRm16One f.rm16) u
    | 2 => .instr (.rclRm16One f.rm16) u
    | 3 => .instr (.rcrRm16One f.rm16) u
    | 4 => .instr (.shlRm16One f.rm16) u
    | 5 => .instr (.shrRm16One f.rm16) u
    | 6 => .reserved
    | _ => .instr (.sarRm16One f.rm16) u

/-- Opcode D2: the reg field selects the instruction (30_encoding.md R139). -/
def groupD2 (t : List Byte) : Decoded :=
  onRM t fun g f u =>
    match g.toNat with
    | 0 => .instr (.rolRm8Cl f.rm8) u
    | 1 => .instr (.rorRm8Cl f.rm8) u
    | 2 => .instr (.rclRm8Cl f.rm8) u
    | 3 => .instr (.rcrRm8Cl f.rm8) u
    | 4 => .instr (.shlRm8Cl f.rm8) u
    | 5 => .instr (.shrRm8Cl f.rm8) u
    | 6 => .reserved
    | _ => .instr (.sarRm8Cl f.rm8) u

/-- Opcode D3: the reg field selects the instruction (30_encoding.md R139). -/
def groupD3 (t : List Byte) : Decoded :=
  onRM t fun g f u =>
    match g.toNat with
    | 0 => .instr (.rolRm16Cl f.rm16) u
    | 1 => .instr (.rorRm16Cl f.rm16) u
    | 2 => .instr (.rclRm16Cl f.rm16) u
    | 3 => .instr (.rcrRm16Cl f.rm16) u
    | 4 => .instr (.shlRm16Cl f.rm16) u
    | 5 => .instr (.shrRm16Cl f.rm16) u
    | 6 => .reserved
    | _ => .instr (.sarRm16Cl f.rm16) u

/-- Opcode F6: the reg field selects the instruction (30_encoding.md R139). -/
def groupF6 (t : List Byte) : Decoded :=
  onRM t fun g f u =>
    match g.toNat with
    | 0 => imm8 u fun imm v => .instr (.testRm8Imm8 f.rm8 imm) v
    | 1 => .reserved
    | 2 => .instr (.notRm8 f.rm8) u
    | 3 => .instr (.negRm8 f.rm8) u
    | 4 => .instr (.mulRm8 f.rm8) u
    | 5 => .instr (.imulRm8 f.rm8) u
    | 6 => .instr (.divRm8 f.rm8) u
    | _ => .instr (.idivRm8 f.rm8) u

/-- Opcode F7: the reg field selects the instruction (30_encoding.md R139). -/
def groupF7 (t : List Byte) : Decoded :=
  onRM t fun g f u =>
    match g.toNat with
    | 0 => imm16 u fun imm v => .instr (.testRm16Imm16 f.rm16 imm) v
    | 1 => .reserved
    | 2 => .instr (.notRm16 f.rm16) u
    | 3 => .instr (.negRm16 f.rm16) u
    | 4 => .instr (.mulRm16 f.rm16) u
    | 5 => .instr (.imulRm16 f.rm16) u
    | 6 => .instr (.divRm16 f.rm16) u
    | _ => .instr (.idivRm16 f.rm16) u

/-- Opcode FE: the reg field selects the instruction (30_encoding.md R139). -/
def groupFE (t : List Byte) : Decoded :=
  onRM t fun g f u =>
    match g.toNat with
    | 0 => .instr (.incRm8 f.rm8) u
    | 1 => .instr (.decRm8 f.rm8) u
    | 2 => .illegal
    | 3 => .illegal
    | 4 => .illegal
    | 5 => .illegal
    | 6 => .illegal
    | _ => .illegal

/-- Opcode FF: the reg field selects the instruction (30_encoding.md R139). -/
def groupFF (t : List Byte) : Decoded :=
  onRM t fun g f u =>
    match g.toNat with
    | 0 => .instr (.incRm16 f.rm16) u
    | 1 => .instr (.decRm16 f.rm16) u
    | 2 => .instr (.callRm16 f.rm16) u
    | 3 => f.ifMem fun m => .instr (.callM16_16 m) u
    | 4 => .instr (.jmpRm16 f.rm16) u
    | 5 => f.ifMem fun m => .instr (.jmpM16_16 m) u
    | 6 => .instr (.pushRm16 f.rm16) u
    | _ => .illegal

/-- Opcode 0F 00: the reg field selects the instruction (30_encoding.md R139). -/
def group0F00 (t : List Byte) : Decoded :=
  onRM t fun g f u =>
    match g.toNat with
    | 0 => .instr (.sldt f.rm16) u
    | 1 => .instr (.str f.rm16) u
    | 2 => .instr (.lldt f.rm16) u
    | 3 => .instr (.ltr f.rm16) u
    | 4 => .instr (.verr f.rm16) u
    | 5 => .instr (.verw f.rm16) u
    | 6 => .illegal
    | _ => .illegal

/-- Opcode 0F 01: the reg field selects the instruction (30_encoding.md R139). -/
def group0F01 (t : List Byte) : Decoded :=
  onRM t fun g f u =>
    match g.toNat with
    | 0 => f.ifMem fun m => .instr (.sgdt m) u
    | 1 => f.ifMem fun m => .instr (.sidt m) u
    | 2 => f.ifMem fun m => .instr (.lgdt m) u
    | 3 => f.ifMem fun m => .instr (.lidt m) u
    | 4 => .instr (.smsw f.rm16) u
    | 5 => .illegal
    | 6 => .instr (.lmsw f.rm16) u
    | _ => .illegal

/-- The two-byte opcodes, after 0F (30_encoding.md R140, R141). -/
def decode0F (s : List Byte) : Decoded :=
  match s with
  | [] => .short
  | b :: t =>
    match b.toNat with
    | 0 => group0F00 t
    | 1 => group0F01 t
    | 2 => onRM t fun g f u => .instr (.lar (Reg16.ofNum g) f.rm16) u
    | 3 => onRM t fun g f u => .instr (.lsl (Reg16.ofNum g) f.rm16) u
    | 4 => .reserved
    | 5 => .reserved
    | 6 => .instr .cts t
    | _ => .illegal

/-- Opcodes 00 to 0F, by the low digit (30_encoding.md R138). -/
def decodeRow0 (lo : Nat) (t : List Byte) : Decoded :=
  match lo with
  | 0 => onRM t fun g f u => .instr (.addRm8R8 f.rm8 (Reg8.ofNum g)) u
  | 1 => onRM t fun g f u => .instr (.addRm16R16 f.rm16 (Reg16.ofNum g)) u
  | 2 => onRM t fun g f u => .instr (.addR8Rm8 (Reg8.ofNum g) f.rm8) u
  | 3 => onRM t fun g f u => .instr (.addR16Rm16 (Reg16.ofNum g) f.rm16) u
  | 4 => imm8 t fun imm v => .instr (.addAlImm8 imm) v
  | 5 => imm16 t fun imm v => .instr (.addAxImm16 imm) v
  | 6 => .instr .pushEs t
  | 7 => .instr .popEs t
  | 8 => onRM t fun g f u => .instr (.orRm8R8 f.rm8 (Reg8.ofNum g)) u
  | 9 => onRM t fun g f u => .instr (.orRm16R16 f.rm16 (Reg16.ofNum g)) u
  | 10 => onRM t fun g f u => .instr (.orR8Rm8 (Reg8.ofNum g) f.rm8) u
  | 11 => onRM t fun g f u => .instr (.orR16Rm16 (Reg16.ofNum g) f.rm16) u
  | 12 => imm8 t fun imm v => .instr (.orAlImm8 imm) v
  | 13 => imm16 t fun imm v => .instr (.orAxImm16 imm) v
  | 14 => .instr .pushCs t
  | _ => decode0F t

/-- Opcodes 10 to 1F, by the low digit (30_encoding.md R138). -/
def decodeRow1 (lo : Nat) (t : List Byte) : Decoded :=
  match lo with
  | 0 => onRM t fun g f u => .instr (.adcRm8R8 f.rm8 (Reg8.ofNum g)) u
  | 1 => onRM t fun g f u => .instr (.adcRm16R16 f.rm16 (Reg16.ofNum g)) u
  | 2 => onRM t fun g f u => .instr (.adcR8Rm8 (Reg8.ofNum g) f.rm8) u
  | 3 => onRM t fun g f u => .instr (.adcR16Rm16 (Reg16.ofNum g) f.rm16) u
  | 4 => imm8 t fun imm v => .instr (.adcAlImm8 imm) v
  | 5 => imm16 t fun imm v => .instr (.adcAxImm16 imm) v
  | 6 => .instr .pushSs t
  | 7 => .instr .popSs t
  | 8 => onRM t fun g f u => .instr (.sbbRm8R8 f.rm8 (Reg8.ofNum g)) u
  | 9 => onRM t fun g f u => .instr (.sbbRm16R16 f.rm16 (Reg16.ofNum g)) u
  | 10 => onRM t fun g f u => .instr (.sbbR8Rm8 (Reg8.ofNum g) f.rm8) u
  | 11 => onRM t fun g f u => .instr (.sbbR16Rm16 (Reg16.ofNum g) f.rm16) u
  | 12 => imm8 t fun imm v => .instr (.sbbAlImm8 imm) v
  | 13 => imm16 t fun imm v => .instr (.sbbAxImm16 imm) v
  | 14 => .instr .pushDs t
  | _ => .instr .popDs t

/-- Opcodes 20 to 2F, by the low digit (30_encoding.md R138). -/
def decodeRow2 (lo : Nat) (t : List Byte) : Decoded :=
  match lo with
  | 0 => onRM t fun g f u => .instr (.andRm8R8 f.rm8 (Reg8.ofNum g)) u
  | 1 => onRM t fun g f u => .instr (.andRm16R16 f.rm16 (Reg16.ofNum g)) u
  | 2 => onRM t fun g f u => .instr (.andR8Rm8 (Reg8.ofNum g) f.rm8) u
  | 3 => onRM t fun g f u => .instr (.andR16Rm16 (Reg16.ofNum g) f.rm16) u
  | 4 => imm8 t fun imm v => .instr (.andAlImm8 imm) v
  | 5 => imm16 t fun imm v => .instr (.andAxImm16 imm) v
  | 6 => .instr .segEs t
  | 7 => .instr .daa t
  | 8 => onRM t fun g f u => .instr (.subRm8R8 f.rm8 (Reg8.ofNum g)) u
  | 9 => onRM t fun g f u => .instr (.subRm16R16 f.rm16 (Reg16.ofNum g)) u
  | 10 => onRM t fun g f u => .instr (.subR8Rm8 (Reg8.ofNum g) f.rm8) u
  | 11 => onRM t fun g f u => .instr (.subR16Rm16 (Reg16.ofNum g) f.rm16) u
  | 12 => imm8 t fun imm v => .instr (.subAlImm8 imm) v
  | 13 => imm16 t fun imm v => .instr (.subAxImm16 imm) v
  | 14 => .instr .segCs t
  | _ => .instr .das t

/-- Opcodes 30 to 3F, by the low digit (30_encoding.md R138). -/
def decodeRow3 (lo : Nat) (t : List Byte) : Decoded :=
  match lo with
  | 0 => onRM t fun g f u => .instr (.xorRm8R8 f.rm8 (Reg8.ofNum g)) u
  | 1 => onRM t fun g f u => .instr (.xorRm16R16 f.rm16 (Reg16.ofNum g)) u
  | 2 => onRM t fun g f u => .instr (.xorR8Rm8 (Reg8.ofNum g) f.rm8) u
  | 3 => onRM t fun g f u => .instr (.xorR16Rm16 (Reg16.ofNum g) f.rm16) u
  | 4 => imm8 t fun imm v => .instr (.xorAlImm8 imm) v
  | 5 => imm16 t fun imm v => .instr (.xorAxImm16 imm) v
  | 6 => .instr .segSs t
  | 7 => .instr .aaa t
  | 8 => onRM t fun g f u => .instr (.cmpRm8R8 f.rm8 (Reg8.ofNum g)) u
  | 9 => onRM t fun g f u => .instr (.cmpRm16R16 f.rm16 (Reg16.ofNum g)) u
  | 10 => onRM t fun g f u => .instr (.cmpR8Rm8 (Reg8.ofNum g) f.rm8) u
  | 11 => onRM t fun g f u => .instr (.cmpR16Rm16 (Reg16.ofNum g) f.rm16) u
  | 12 => imm8 t fun imm v => .instr (.cmpAlImm8 imm) v
  | 13 => imm16 t fun imm v => .instr (.cmpAxImm16 imm) v
  | 14 => .instr .segDs t
  | _ => .instr .aas t

/-- Opcodes 40 to 4F, by the low digit (30_encoding.md R138). -/
def decodeRow4 (lo : Nat) (t : List Byte) : Decoded :=
  match lo with
  | 0 => .instr (.incR16 (Reg16.ofNum 0)) t
  | 1 => .instr (.incR16 (Reg16.ofNum 1)) t
  | 2 => .instr (.incR16 (Reg16.ofNum 2)) t
  | 3 => .instr (.incR16 (Reg16.ofNum 3)) t
  | 4 => .instr (.incR16 (Reg16.ofNum 4)) t
  | 5 => .instr (.incR16 (Reg16.ofNum 5)) t
  | 6 => .instr (.incR16 (Reg16.ofNum 6)) t
  | 7 => .instr (.incR16 (Reg16.ofNum 7)) t
  | 8 => .instr (.decR16 (Reg16.ofNum 0)) t
  | 9 => .instr (.decR16 (Reg16.ofNum 1)) t
  | 10 => .instr (.decR16 (Reg16.ofNum 2)) t
  | 11 => .instr (.decR16 (Reg16.ofNum 3)) t
  | 12 => .instr (.decR16 (Reg16.ofNum 4)) t
  | 13 => .instr (.decR16 (Reg16.ofNum 5)) t
  | 14 => .instr (.decR16 (Reg16.ofNum 6)) t
  | _ => .instr (.decR16 (Reg16.ofNum 7)) t

/-- Opcodes 50 to 5F, by the low digit (30_encoding.md R138). -/
def decodeRow5 (lo : Nat) (t : List Byte) : Decoded :=
  match lo with
  | 0 => .instr (.pushR16 (Reg16.ofNum 0)) t
  | 1 => .instr (.pushR16 (Reg16.ofNum 1)) t
  | 2 => .instr (.pushR16 (Reg16.ofNum 2)) t
  | 3 => .instr (.pushR16 (Reg16.ofNum 3)) t
  | 4 => .instr (.pushR16 (Reg16.ofNum 4)) t
  | 5 => .instr (.pushR16 (Reg16.ofNum 5)) t
  | 6 => .instr (.pushR16 (Reg16.ofNum 6)) t
  | 7 => .instr (.pushR16 (Reg16.ofNum 7)) t
  | 8 => .instr (.popR16 (Reg16.ofNum 0)) t
  | 9 => .instr (.popR16 (Reg16.ofNum 1)) t
  | 10 => .instr (.popR16 (Reg16.ofNum 2)) t
  | 11 => .instr (.popR16 (Reg16.ofNum 3)) t
  | 12 => .instr (.popR16 (Reg16.ofNum 4)) t
  | 13 => .instr (.popR16 (Reg16.ofNum 5)) t
  | 14 => .instr (.popR16 (Reg16.ofNum 6)) t
  | _ => .instr (.popR16 (Reg16.ofNum 7)) t

/-- Opcodes 60 to 6F, by the low digit (30_encoding.md R138). -/
def decodeRow6 (lo : Nat) (t : List Byte) : Decoded :=
  match lo with
  | 0 => .instr .pusha t
  | 1 => .instr .popa t
  | 2 => onMem t fun g m u => .instr (.bound (Reg16.ofNum g) m) u
  | 3 => onRM t fun g f u => .instr (.arpl f.rm16 (Reg16.ofNum g)) u
  | 4 => .illegal
  | 5 => .illegal
  | 6 => .illegal
  | 7 => .illegal
  | 8 => imm16 t fun imm v => .instr (.pushImm16 imm) v
  | 9 => onRM t fun g f u => imm16 u fun imm v => .instr (.imulR16Rm16Imm16 (Reg16.ofNum g) f.rm16 imm) v
  | 10 => imm8 t fun imm v => .instr (.pushImm8 imm) v
  | 11 => onRM t fun g f u => imm8 u fun imm v => .instr (.imulR16Rm16Imm8 (Reg16.ofNum g) f.rm16 imm) v
  | 12 => .instr .insb t
  | 13 => .instr .insw t
  | 14 => .instr .outsb t
  | _ => .instr .outsw t

/-- Opcodes 70 to 7F, by the low digit (30_encoding.md R138). -/
def decodeRow7 (lo : Nat) (t : List Byte) : Decoded :=
  match lo with
  | 0 => imm8 t fun rel v => .instr (.jo rel) v
  | 1 => imm8 t fun rel v => .instr (.jno rel) v
  | 2 => imm8 t fun rel v => .instr (.jb rel) v
  | 3 => imm8 t fun rel v => .instr (.jnb rel) v
  | 4 => imm8 t fun rel v => .instr (.je rel) v
  | 5 => imm8 t fun rel v => .instr (.jne rel) v
  | 6 => imm8 t fun rel v => .instr (.jbe rel) v
  | 7 => imm8 t fun rel v => .instr (.jnbe rel) v
  | 8 => imm8 t fun rel v => .instr (.js rel) v
  | 9 => imm8 t fun rel v => .instr (.jns rel) v
  | 10 => imm8 t fun rel v => .instr (.jp rel) v
  | 11 => imm8 t fun rel v => .instr (.jnp rel) v
  | 12 => imm8 t fun rel v => .instr (.jl rel) v
  | 13 => imm8 t fun rel v => .instr (.jnl rel) v
  | 14 => imm8 t fun rel v => .instr (.jle rel) v
  | _ => imm8 t fun rel v => .instr (.jnle rel) v

/-- Opcodes 80 to 8F, by the low digit (30_encoding.md R138). -/
def decodeRow8 (lo : Nat) (t : List Byte) : Decoded :=
  match lo with
  | 0 => group80 t
  | 1 => group81 t
  | 2 => group82 t
  | 3 => group83 t
  | 4 => onRM t fun g f u => .instr (.testRm8R8 f.rm8 (Reg8.ofNum g)) u
  | 5 => onRM t fun g f u => .instr (.testRm16R16 f.rm16 (Reg16.ofNum g)) u
  | 6 => onRM t fun g f u => .instr (.xchgRm8R8 f.rm8 (Reg8.ofNum g)) u
  | 7 => onRM t fun g f u => .instr (.xchgRm16R16 f.rm16 (Reg16.ofNum g)) u
  | 8 => onRM t fun g f u => .instr (.movRm8R8 f.rm8 (Reg8.ofNum g)) u
  | 9 => onRM t fun g f u => .instr (.movRm16R16 f.rm16 (Reg16.ofNum g)) u
  | 10 => onRM t fun g f u => .instr (.movR8Rm8 (Reg8.ofNum g) f.rm8) u
  | 11 => onRM t fun g f u => .instr (.movR16Rm16 (Reg16.ofNum g) f.rm16) u
  | 12 => onRM t fun g f u =>
      match SReg.ofNum g with
      | some sr => .instr (.movRm16Sreg f.rm16 sr) u
      | none => .reserved
  | 13 => onMem t fun g m u => .instr (.lea (Reg16.ofNum g) m) u
  | 14 => onRM t fun g f u =>
      match SReg.ofNum g with
      | some .cs => .illegal
      | some sr => .instr (.movSregRm16 sr f.rm16) u
      | none => .reserved
  | _ => group8F t

/-- Opcodes 90 to 9F, by the low digit (30_encoding.md R138). -/
def decodeRow9 (lo : Nat) (t : List Byte) : Decoded :=
  match lo with
  | 0 => .instr .nop t
  | 1 => .instr (.xchgAxR16 (Reg16.ofNum 1)) t
  | 2 => .instr (.xchgAxR16 (Reg16.ofNum 2)) t
  | 3 => .instr (.xchgAxR16 (Reg16.ofNum 3)) t
  | 4 => .instr (.xchgAxR16 (Reg16.ofNum 4)) t
  | 5 => .instr (.xchgAxR16 (Reg16.ofNum 5)) t
  | 6 => .instr (.xchgAxR16 (Reg16.ofNum 6)) t
  | 7 => .instr (.xchgAxR16 (Reg16.ofNum 7)) t
  | 8 => .instr .cbw t
  | 9 => .instr .cwd t
  | 10 => imm16 t fun off v => imm16 v fun sel w => .instr (.callPtr sel off) w
  | 11 => .instr .wait t
  | 12 => .instr .pushf t
  | 13 => .instr .popf t
  | 14 => .instr .sahf t
  | _ => .instr .lahf t

/-- Opcodes A0 to AF, by the low digit (30_encoding.md R138). -/
def decodeRowA (lo : Nat) (t : List Byte) : Decoded :=
  match lo with
  | 0 => imm16 t fun off v => .instr (.movAlMoffs off) v
  | 1 => imm16 t fun off v => .instr (.movAxMoffs off) v
  | 2 => imm16 t fun off v => .instr (.movMoffsAl off) v
  | 3 => imm16 t fun off v => .instr (.movMoffsAx off) v
  | 4 => .instr .movsb t
  | 5 => .instr .movsw t
  | 6 => .instr .cmpsb t
  | 7 => .instr .cmpsw t
  | 8 => imm8 t fun imm v => .instr (.testAlImm8 imm) v
  | 9 => imm16 t fun imm v => .instr (.testAxImm16 imm) v
  | 10 => .instr .stosb t
  | 11 => .instr .stosw t
  | 12 => .instr .lodsb t
  | 13 => .instr .lodsw t
  | 14 => .instr .scasb t
  | _ => .instr .scasw t

/-- Opcodes B0 to BF, by the low digit (30_encoding.md R138). -/
def decodeRowB (lo : Nat) (t : List Byte) : Decoded :=
  match lo with
  | 0 => imm8 t fun imm v => .instr (.movR8Imm8 (Reg8.ofNum 0) imm) v
  | 1 => imm8 t fun imm v => .instr (.movR8Imm8 (Reg8.ofNum 1) imm) v
  | 2 => imm8 t fun imm v => .instr (.movR8Imm8 (Reg8.ofNum 2) imm) v
  | 3 => imm8 t fun imm v => .instr (.movR8Imm8 (Reg8.ofNum 3) imm) v
  | 4 => imm8 t fun imm v => .instr (.movR8Imm8 (Reg8.ofNum 4) imm) v
  | 5 => imm8 t fun imm v => .instr (.movR8Imm8 (Reg8.ofNum 5) imm) v
  | 6 => imm8 t fun imm v => .instr (.movR8Imm8 (Reg8.ofNum 6) imm) v
  | 7 => imm8 t fun imm v => .instr (.movR8Imm8 (Reg8.ofNum 7) imm) v
  | 8 => imm16 t fun imm v => .instr (.movR16Imm16 (Reg16.ofNum 0) imm) v
  | 9 => imm16 t fun imm v => .instr (.movR16Imm16 (Reg16.ofNum 1) imm) v
  | 10 => imm16 t fun imm v => .instr (.movR16Imm16 (Reg16.ofNum 2) imm) v
  | 11 => imm16 t fun imm v => .instr (.movR16Imm16 (Reg16.ofNum 3) imm) v
  | 12 => imm16 t fun imm v => .instr (.movR16Imm16 (Reg16.ofNum 4) imm) v
  | 13 => imm16 t fun imm v => .instr (.movR16Imm16 (Reg16.ofNum 5) imm) v
  | 14 => imm16 t fun imm v => .instr (.movR16Imm16 (Reg16.ofNum 6) imm) v
  | _ => imm16 t fun imm v => .instr (.movR16Imm16 (Reg16.ofNum 7) imm) v

/-- Opcodes C0 to CF, by the low digit (30_encoding.md R138). -/
def decodeRowC (lo : Nat) (t : List Byte) : Decoded :=
  match lo with
  | 0 => groupC0 t
  | 1 => groupC1 t
  | 2 => imm16 t fun imm v => .instr (.retImm16 imm) v
  | 3 => .instr .ret t
  | 4 => onMem t fun g m u => .instr (.les (Reg16.ofNum g) m) u
  | 5 => onMem t fun g m u => .instr (.lds (Reg16.ofNum g) m) u
  | 6 => groupC6 t
  | 7 => groupC7 t
  | 8 => imm16 t fun imm v => imm8 v fun level w => .instr (.enter imm level) w
  | 9 => .instr .leave t
  | 10 => imm16 t fun imm v => .instr (.retfImm16 imm) v
  | 11 => .instr .retf t
  | 12 => .instr .int3 t
  | 13 => imm8 t fun imm v => .instr (.intImm8 imm) v
  | 14 => .instr .into t
  | _ => .instr .iret t

/-- Opcodes D0 to DF, by the low digit (30_encoding.md R138). -/
def decodeRowD (lo : Nat) (t : List Byte) : Decoded :=
  match lo with
  | 0 => groupD0 t
  | 1 => groupD1 t
  | 2 => groupD2 t
  | 3 => groupD3 t
  | 4 => imm8 t fun base v => .instr (.aam base) v
  | 5 => imm8 t fun base v => .instr (.aad base) v
  | 6 => .reserved
  | 7 => .instr .xlat t
  | 8 => onRM t fun g f u => .instr (.esc ((0#3 : BitVec 3) ++ g) f.rm16) u
  | 9 => onRM t fun g f u => .instr (.esc ((1#3 : BitVec 3) ++ g) f.rm16) u
  | 10 => onRM t fun g f u => .instr (.esc ((2#3 : BitVec 3) ++ g) f.rm16) u
  | 11 => onRM t fun g f u => .instr (.esc ((3#3 : BitVec 3) ++ g) f.rm16) u
  | 12 => onRM t fun g f u => .instr (.esc ((4#3 : BitVec 3) ++ g) f.rm16) u
  | 13 => onRM t fun g f u => .instr (.esc ((5#3 : BitVec 3) ++ g) f.rm16) u
  | 14 => onRM t fun g f u => .instr (.esc ((6#3 : BitVec 3) ++ g) f.rm16) u
  | _ => onRM t fun g f u => .instr (.esc ((7#3 : BitVec 3) ++ g) f.rm16) u

/-- Opcodes E0 to EF, by the low digit (30_encoding.md R138). -/
def decodeRowE (lo : Nat) (t : List Byte) : Decoded :=
  match lo with
  | 0 => imm8 t fun rel v => .instr (.loopnz rel) v
  | 1 => imm8 t fun rel v => .instr (.loopz rel) v
  | 2 => imm8 t fun rel v => .instr (.loop rel) v
  | 3 => imm8 t fun rel v => .instr (.jcxz rel) v
  | 4 => imm8 t fun imm v => .instr (.inAlImm8 imm) v
  | 5 => imm8 t fun imm v => .instr (.inAxImm8 imm) v
  | 6 => imm8 t fun imm v => .instr (.outImm8Al imm) v
  | 7 => imm8 t fun imm v => .instr (.outImm8Ax imm) v
  | 8 => imm16 t fun rel v => .instr (.callRel16 rel) v
  | 9 => imm16 t fun rel v => .instr (.jmpRel16 rel) v
  | 10 => imm16 t fun off v => imm16 v fun sel w => .instr (.jmpPtr sel off) w
  | 11 => imm8 t fun rel v => .instr (.jmpRel8 rel) v
  | 12 => .instr .inAlDx t
  | 13 => .instr .inAxDx t
  | 14 => .instr .outDxAl t
  | _ => .instr .outDxAx t

/-- Opcodes F0 to FF, by the low digit (30_encoding.md R138). -/
def decodeRowF (lo : Nat) (t : List Byte) : Decoded :=
  match lo with
  | 0 => .instr .lock t
  | 1 => .reserved
  | 2 => .instr .repne t
  | 3 => .instr .rep t
  | 4 => .instr .hlt t
  | 5 => .instr .cmc t
  | 6 => groupF6 t
  | 7 => groupF7 t
  | 8 => .instr .clc t
  | 9 => .instr .stc t
  | 10 => .instr .cli t
  | 11 => .instr .sti t
  | 12 => .instr .cld t
  | 13 => .instr .std t
  | 14 => groupFE t
  | _ => groupFF t

/-- Decodes the instruction or prefix byte that the bytes begin with (30_encoding.md R121, R138). -/
def decode (s : List Byte) : Decoded :=
  match s with
  | [] => .short
  | b :: t =>
    match b.toNat / 16 with
    | 0 => decodeRow0 (b.toNat % 16) t
    | 1 => decodeRow1 (b.toNat % 16) t
    | 2 => decodeRow2 (b.toNat % 16) t
    | 3 => decodeRow3 (b.toNat % 16) t
    | 4 => decodeRow4 (b.toNat % 16) t
    | 5 => decodeRow5 (b.toNat % 16) t
    | 6 => decodeRow6 (b.toNat % 16) t
    | 7 => decodeRow7 (b.toNat % 16) t
    | 8 => decodeRow8 (b.toNat % 16) t
    | 9 => decodeRow9 (b.toNat % 16) t
    | 10 => decodeRowA (b.toNat % 16) t
    | 11 => decodeRowB (b.toNat % 16) t
    | 12 => decodeRowC (b.toNat % 16) t
    | 13 => decodeRowD (b.toNat % 16) t
    | 14 => decodeRowE (b.toNat % 16) t
    | _ => decodeRowF (b.toNat % 16) t

/-- The instruction the decoder reads from the table's word `w` of `nbits` bits, its first byte in the lowest bits, every
later byte 0, up to the longest instruction of 10 bytes (30_encoding.md R121). -/
def tableBytes (nbits w : Nat) : List Byte :=
  (List.range 10).map fun k => BitVec.ofNat 8 ((w % 2 ^ nbits) / 256 ^ k)

/-- The instruction of a table word, or none where the decoder refuses it. -/
def decodeTableWord (nbits w : Nat) : Option Instr :=
  match decode (tableBytes nbits w) with
  | .instr i _ => some i
  | .short | .illegal | .reserved => none

/-- A ModRM byte (30_encoding.md R124). -/
def modRM (md : BitVec 2) (reg rm : BitVec 3) : Byte := md ++ reg ++ rm

/-- The ModRM byte and displacement of a memory operand (30_encoding.md R124, R130). -/
def Mem.bytes (m : Mem) (reg : BitVec 3) : List Byte :=
  match m with
  | .base b => [modRM 0 reg b.num]
  | .direct d => [modRM 0 reg 6, loByte d, hiByte d]
  | .disp8 b d => [modRM 1 reg b.num, d]
  | .disp16 b d => [modRM 2 reg b.num, loByte d, hiByte d]

/-- The ModRM byte and displacement of a byte operand. -/
def RM8.bytes (rm : RM8) (reg : BitVec 3) : List Byte :=
  match rm with
  | .reg r => [modRM 3 reg r.num]
  | .mem m => m.bytes reg

/-- The ModRM byte and displacement of a word operand. -/
def RM16.bytes (rm : RM16) (reg : BitVec 3) : List Byte :=
  match rm with
  | .reg r => [modRM 3 reg r.num]
  | .mem m => m.bytes reg

/-- The two bytes of a word, low byte first (30_encoding.md R132). -/
def wordBytes (w : Word) : List Byte := [loByte w, hiByte w]

/-- An opcode byte with a register number in bits 2:0 (30_encoding.md R123). -/
def opReg (op : Byte) (n : BitVec 3) : Byte := op ||| n.zeroExtend 8

/-- The bytes of an instruction (30_encoding.md R121 to R140). -/
def encode : Instr → List Byte
  | .addRm8R8 rm r => 0x00 :: rm.bytes r.num
  | .addRm16R16 rm r => 0x01 :: rm.bytes r.num
  | .addR8Rm8 r rm => 0x02 :: rm.bytes r.num
  | .addR16Rm16 r rm => 0x03 :: rm.bytes r.num
  | .addAlImm8 imm => [0x04, imm]
  | .addAxImm16 imm => 0x05 :: wordBytes imm
  | .orRm8R8 rm r => 0x08 :: rm.bytes r.num
  | .orRm16R16 rm r => 0x09 :: rm.bytes r.num
  | .orR8Rm8 r rm => 0x0A :: rm.bytes r.num
  | .orR16Rm16 r rm => 0x0B :: rm.bytes r.num
  | .orAlImm8 imm => [0x0C, imm]
  | .orAxImm16 imm => 0x0D :: wordBytes imm
  | .adcRm8R8 rm r => 0x10 :: rm.bytes r.num
  | .adcRm16R16 rm r => 0x11 :: rm.bytes r.num
  | .adcR8Rm8 r rm => 0x12 :: rm.bytes r.num
  | .adcR16Rm16 r rm => 0x13 :: rm.bytes r.num
  | .adcAlImm8 imm => [0x14, imm]
  | .adcAxImm16 imm => 0x15 :: wordBytes imm
  | .sbbRm8R8 rm r => 0x18 :: rm.bytes r.num
  | .sbbRm16R16 rm r => 0x19 :: rm.bytes r.num
  | .sbbR8Rm8 r rm => 0x1A :: rm.bytes r.num
  | .sbbR16Rm16 r rm => 0x1B :: rm.bytes r.num
  | .sbbAlImm8 imm => [0x1C, imm]
  | .sbbAxImm16 imm => 0x1D :: wordBytes imm
  | .andRm8R8 rm r => 0x20 :: rm.bytes r.num
  | .andRm16R16 rm r => 0x21 :: rm.bytes r.num
  | .andR8Rm8 r rm => 0x22 :: rm.bytes r.num
  | .andR16Rm16 r rm => 0x23 :: rm.bytes r.num
  | .andAlImm8 imm => [0x24, imm]
  | .andAxImm16 imm => 0x25 :: wordBytes imm
  | .subRm8R8 rm r => 0x28 :: rm.bytes r.num
  | .subRm16R16 rm r => 0x29 :: rm.bytes r.num
  | .subR8Rm8 r rm => 0x2A :: rm.bytes r.num
  | .subR16Rm16 r rm => 0x2B :: rm.bytes r.num
  | .subAlImm8 imm => [0x2C, imm]
  | .subAxImm16 imm => 0x2D :: wordBytes imm
  | .xorRm8R8 rm r => 0x30 :: rm.bytes r.num
  | .xorRm16R16 rm r => 0x31 :: rm.bytes r.num
  | .xorR8Rm8 r rm => 0x32 :: rm.bytes r.num
  | .xorR16Rm16 r rm => 0x33 :: rm.bytes r.num
  | .xorAlImm8 imm => [0x34, imm]
  | .xorAxImm16 imm => 0x35 :: wordBytes imm
  | .cmpRm8R8 rm r => 0x38 :: rm.bytes r.num
  | .cmpRm16R16 rm r => 0x39 :: rm.bytes r.num
  | .cmpR8Rm8 r rm => 0x3A :: rm.bytes r.num
  | .cmpR16Rm16 r rm => 0x3B :: rm.bytes r.num
  | .cmpAlImm8 imm => [0x3C, imm]
  | .cmpAxImm16 imm => 0x3D :: wordBytes imm
  | .incR16 r => [opReg 0x40 r.num]
  | .decR16 r => [opReg 0x48 r.num]
  | .pushR16 r => [opReg 0x50 r.num]
  | .popR16 r => [opReg 0x58 r.num]
  | .bound r m => 0x62 :: m.bytes r.num
  | .arpl rm r => 0x63 :: rm.bytes r.num
  | .pushImm16 imm => 0x68 :: wordBytes imm
  | .imulR16Rm16Imm16 r rm imm => 0x69 :: (rm.bytes r.num ++ wordBytes imm)
  | .pushImm8 imm => [0x6A, imm]
  | .imulR16Rm16Imm8 r rm imm => 0x6B :: (rm.bytes r.num ++ [imm])
  | .jo rel => [0x70, rel]
  | .jno rel => [0x71, rel]
  | .jb rel => [0x72, rel]
  | .jnb rel => [0x73, rel]
  | .je rel => [0x74, rel]
  | .jne rel => [0x75, rel]
  | .jbe rel => [0x76, rel]
  | .jnbe rel => [0x77, rel]
  | .js rel => [0x78, rel]
  | .jns rel => [0x79, rel]
  | .jp rel => [0x7A, rel]
  | .jnp rel => [0x7B, rel]
  | .jl rel => [0x7C, rel]
  | .jnl rel => [0x7D, rel]
  | .jle rel => [0x7E, rel]
  | .jnle rel => [0x7F, rel]
  | .addRm8Imm8 rm imm => 0x80 :: (rm.bytes 0 ++ [imm])
  | .orRm8Imm8 rm imm => 0x80 :: (rm.bytes 1 ++ [imm])
  | .adcRm8Imm8 rm imm => 0x80 :: (rm.bytes 2 ++ [imm])
  | .sbbRm8Imm8 rm imm => 0x80 :: (rm.bytes 3 ++ [imm])
  | .andRm8Imm8 rm imm => 0x80 :: (rm.bytes 4 ++ [imm])
  | .subRm8Imm8 rm imm => 0x80 :: (rm.bytes 5 ++ [imm])
  | .xorRm8Imm8 rm imm => 0x80 :: (rm.bytes 6 ++ [imm])
  | .cmpRm8Imm8 rm imm => 0x80 :: (rm.bytes 7 ++ [imm])
  | .addRm16Imm16 rm imm => 0x81 :: (rm.bytes 0 ++ wordBytes imm)
  | .orRm16Imm16 rm imm => 0x81 :: (rm.bytes 1 ++ wordBytes imm)
  | .adcRm16Imm16 rm imm => 0x81 :: (rm.bytes 2 ++ wordBytes imm)
  | .sbbRm16Imm16 rm imm => 0x81 :: (rm.bytes 3 ++ wordBytes imm)
  | .andRm16Imm16 rm imm => 0x81 :: (rm.bytes 4 ++ wordBytes imm)
  | .subRm16Imm16 rm imm => 0x81 :: (rm.bytes 5 ++ wordBytes imm)
  | .xorRm16Imm16 rm imm => 0x81 :: (rm.bytes 6 ++ wordBytes imm)
  | .cmpRm16Imm16 rm imm => 0x81 :: (rm.bytes 7 ++ wordBytes imm)
  | .addRm8Imm8Dup rm imm => 0x82 :: (rm.bytes 0 ++ [imm])
  | .orRm8Imm8Dup rm imm => 0x82 :: (rm.bytes 1 ++ [imm])
  | .adcRm8Imm8Dup rm imm => 0x82 :: (rm.bytes 2 ++ [imm])
  | .sbbRm8Imm8Dup rm imm => 0x82 :: (rm.bytes 3 ++ [imm])
  | .andRm8Imm8Dup rm imm => 0x82 :: (rm.bytes 4 ++ [imm])
  | .subRm8Imm8Dup rm imm => 0x82 :: (rm.bytes 5 ++ [imm])
  | .xorRm8Imm8Dup rm imm => 0x82 :: (rm.bytes 6 ++ [imm])
  | .cmpRm8Imm8Dup rm imm => 0x82 :: (rm.bytes 7 ++ [imm])
  | .addRm16Imm8 rm imm => 0x83 :: (rm.bytes 0 ++ [imm])
  | .orRm16Imm8 rm imm => 0x83 :: (rm.bytes 1 ++ [imm])
  | .adcRm16Imm8 rm imm => 0x83 :: (rm.bytes 2 ++ [imm])
  | .sbbRm16Imm8 rm imm => 0x83 :: (rm.bytes 3 ++ [imm])
  | .andRm16Imm8 rm imm => 0x83 :: (rm.bytes 4 ++ [imm])
  | .subRm16Imm8 rm imm => 0x83 :: (rm.bytes 5 ++ [imm])
  | .xorRm16Imm8 rm imm => 0x83 :: (rm.bytes 6 ++ [imm])
  | .cmpRm16Imm8 rm imm => 0x83 :: (rm.bytes 7 ++ [imm])
  | .testRm8R8 rm r => 0x84 :: rm.bytes r.num
  | .testRm16R16 rm r => 0x85 :: rm.bytes r.num
  | .xchgRm8R8 rm r => 0x86 :: rm.bytes r.num
  | .xchgRm16R16 rm r => 0x87 :: rm.bytes r.num
  | .movRm8R8 rm r => 0x88 :: rm.bytes r.num
  | .movRm16R16 rm r => 0x89 :: rm.bytes r.num
  | .movR8Rm8 r rm => 0x8A :: rm.bytes r.num
  | .movR16Rm16 r rm => 0x8B :: rm.bytes r.num
  | .movRm16Sreg rm sr => 0x8C :: rm.bytes sr.num
  | .lea r m => 0x8D :: m.bytes r.num
  | .movSregRm16 sr rm => 0x8E :: rm.bytes sr.num
  | .popRm16 rm => 0x8F :: rm.bytes 0
  | .xchgAxR16 r => [opReg 0x90 r.num]
  | .callPtr sel off => 0x9A :: (wordBytes off ++ wordBytes sel)
  | .movAlMoffs off => 0xA0 :: wordBytes off
  | .movAxMoffs off => 0xA1 :: wordBytes off
  | .movMoffsAl off => 0xA2 :: wordBytes off
  | .movMoffsAx off => 0xA3 :: wordBytes off
  | .testAlImm8 imm => [0xA8, imm]
  | .testAxImm16 imm => 0xA9 :: wordBytes imm
  | .movR8Imm8 r imm => [opReg 0xB0 r.num, imm]
  | .movR16Imm16 r imm => opReg 0xB8 r.num :: wordBytes imm
  | .rolRm8Imm8 rm imm => 0xC0 :: (rm.bytes 0 ++ [imm])
  | .rorRm8Imm8 rm imm => 0xC0 :: (rm.bytes 1 ++ [imm])
  | .rclRm8Imm8 rm imm => 0xC0 :: (rm.bytes 2 ++ [imm])
  | .rcrRm8Imm8 rm imm => 0xC0 :: (rm.bytes 3 ++ [imm])
  | .shlRm8Imm8 rm imm => 0xC0 :: (rm.bytes 4 ++ [imm])
  | .shrRm8Imm8 rm imm => 0xC0 :: (rm.bytes 5 ++ [imm])
  | .sarRm8Imm8 rm imm => 0xC0 :: (rm.bytes 7 ++ [imm])
  | .rolRm16Imm8 rm imm => 0xC1 :: (rm.bytes 0 ++ [imm])
  | .rorRm16Imm8 rm imm => 0xC1 :: (rm.bytes 1 ++ [imm])
  | .rclRm16Imm8 rm imm => 0xC1 :: (rm.bytes 2 ++ [imm])
  | .rcrRm16Imm8 rm imm => 0xC1 :: (rm.bytes 3 ++ [imm])
  | .shlRm16Imm8 rm imm => 0xC1 :: (rm.bytes 4 ++ [imm])
  | .shrRm16Imm8 rm imm => 0xC1 :: (rm.bytes 5 ++ [imm])
  | .sarRm16Imm8 rm imm => 0xC1 :: (rm.bytes 7 ++ [imm])
  | .rolRm8One rm => 0xD0 :: rm.bytes 0
  | .rorRm8One rm => 0xD0 :: rm.bytes 1
  | .rclRm8One rm => 0xD0 :: rm.bytes 2
  | .rcrRm8One rm => 0xD0 :: rm.bytes 3
  | .shlRm8One rm => 0xD0 :: rm.bytes 4
  | .shrRm8One rm => 0xD0 :: rm.bytes 5
  | .sarRm8One rm => 0xD0 :: rm.bytes 7
  | .rolRm16One rm => 0xD1 :: rm.bytes 0
  | .rorRm16One rm => 0xD1 :: rm.bytes 1
  | .rclRm16One rm => 0xD1 :: rm.bytes 2
  | .rcrRm16One rm => 0xD1 :: rm.bytes 3
  | .shlRm16One rm => 0xD1 :: rm.bytes 4
  | .shrRm16One rm => 0xD1 :: rm.bytes 5
  | .sarRm16One rm => 0xD1 :: rm.bytes 7
  | .rolRm8Cl rm => 0xD2 :: rm.bytes 0
  | .rorRm8Cl rm => 0xD2 :: rm.bytes 1
  | .rclRm8Cl rm => 0xD2 :: rm.bytes 2
  | .rcrRm8Cl rm => 0xD2 :: rm.bytes 3
  | .shlRm8Cl rm => 0xD2 :: rm.bytes 4
  | .shrRm8Cl rm => 0xD2 :: rm.bytes 5
  | .sarRm8Cl rm => 0xD2 :: rm.bytes 7
  | .rolRm16Cl rm => 0xD3 :: rm.bytes 0
  | .rorRm16Cl rm => 0xD3 :: rm.bytes 1
  | .rclRm16Cl rm => 0xD3 :: rm.bytes 2
  | .rcrRm16Cl rm => 0xD3 :: rm.bytes 3
  | .shlRm16Cl rm => 0xD3 :: rm.bytes 4
  | .shrRm16Cl rm => 0xD3 :: rm.bytes 5
  | .sarRm16Cl rm => 0xD3 :: rm.bytes 7
  | .retImm16 imm => 0xC2 :: wordBytes imm
  | .les r m => 0xC4 :: m.bytes r.num
  | .lds r m => 0xC5 :: m.bytes r.num
  | .movRm8Imm8 rm imm => 0xC6 :: (rm.bytes 0 ++ [imm])
  | .movRm16Imm16 rm imm => 0xC7 :: (rm.bytes 0 ++ wordBytes imm)
  | .enter imm level => 0xC8 :: (wordBytes imm ++ [level])
  | .retfImm16 imm => 0xCA :: wordBytes imm
  | .intImm8 imm => [0xCD, imm]
  | .aam base => [0xD4, base]
  | .aad base => [0xD5, base]
  | .esc op rm => opReg 0xD8 (op.extractLsb' 3 3) :: rm.bytes (op.extractLsb' 0 3)
  | .loopnz rel => [0xE0, rel]
  | .loopz rel => [0xE1, rel]
  | .loop rel => [0xE2, rel]
  | .jcxz rel => [0xE3, rel]
  | .inAlImm8 imm => [0xE4, imm]
  | .inAxImm8 imm => [0xE5, imm]
  | .outImm8Al imm => [0xE6, imm]
  | .outImm8Ax imm => [0xE7, imm]
  | .callRel16 rel => 0xE8 :: wordBytes rel
  | .jmpRel16 rel => 0xE9 :: wordBytes rel
  | .jmpPtr sel off => 0xEA :: (wordBytes off ++ wordBytes sel)
  | .jmpRel8 rel => [0xEB, rel]
  | .testRm8Imm8 rm imm => 0xF6 :: (rm.bytes 0 ++ [imm])
  | .notRm8 rm => 0xF6 :: rm.bytes 2
  | .negRm8 rm => 0xF6 :: rm.bytes 3
  | .mulRm8 rm => 0xF6 :: rm.bytes 4
  | .imulRm8 rm => 0xF6 :: rm.bytes 5
  | .divRm8 rm => 0xF6 :: rm.bytes 6
  | .idivRm8 rm => 0xF6 :: rm.bytes 7
  | .testRm16Imm16 rm imm => 0xF7 :: (rm.bytes 0 ++ wordBytes imm)
  | .notRm16 rm => 0xF7 :: rm.bytes 2
  | .negRm16 rm => 0xF7 :: rm.bytes 3
  | .mulRm16 rm => 0xF7 :: rm.bytes 4
  | .imulRm16 rm => 0xF7 :: rm.bytes 5
  | .divRm16 rm => 0xF7 :: rm.bytes 6
  | .idivRm16 rm => 0xF7 :: rm.bytes 7
  | .incRm8 rm => 0xFE :: rm.bytes 0
  | .decRm8 rm => 0xFE :: rm.bytes 1
  | .incRm16 rm => 0xFF :: rm.bytes 0
  | .decRm16 rm => 0xFF :: rm.bytes 1
  | .callRm16 rm => 0xFF :: rm.bytes 2
  | .callM16_16 m => 0xFF :: m.bytes 3
  | .jmpRm16 rm => 0xFF :: rm.bytes 4
  | .jmpM16_16 m => 0xFF :: m.bytes 5
  | .pushRm16 rm => 0xFF :: rm.bytes 6
  | .sldt rm => 0x0F :: 0x00 :: rm.bytes 0
  | .str rm => 0x0F :: 0x00 :: rm.bytes 1
  | .lldt rm => 0x0F :: 0x00 :: rm.bytes 2
  | .ltr rm => 0x0F :: 0x00 :: rm.bytes 3
  | .verr rm => 0x0F :: 0x00 :: rm.bytes 4
  | .verw rm => 0x0F :: 0x00 :: rm.bytes 5
  | .sgdt m => 0x0F :: 0x01 :: m.bytes 0
  | .sidt m => 0x0F :: 0x01 :: m.bytes 1
  | .lgdt m => 0x0F :: 0x01 :: m.bytes 2
  | .lidt m => 0x0F :: 0x01 :: m.bytes 3
  | .smsw rm => 0x0F :: 0x01 :: rm.bytes 4
  | .lmsw rm => 0x0F :: 0x01 :: rm.bytes 6
  | .lar r rm => 0x0F :: 0x02 :: rm.bytes r.num
  | .lsl r rm => 0x0F :: 0x03 :: rm.bytes r.num
  | .pushEs => [0x06]
  | .pushCs => [0x0E]
  | .pushSs => [0x16]
  | .pushDs => [0x1E]
  | .popEs => [0x07]
  | .popSs => [0x17]
  | .popDs => [0x1F]
  | .segEs => [0x26]
  | .segCs => [0x2E]
  | .segSs => [0x36]
  | .segDs => [0x3E]
  | .lock => [0xF0]
  | .repne => [0xF2]
  | .rep => [0xF3]
  | .daa => [0x27]
  | .das => [0x2F]
  | .aaa => [0x37]
  | .aas => [0x3F]
  | .pusha => [0x60]
  | .popa => [0x61]
  | .insb => [0x6C]
  | .insw => [0x6D]
  | .outsb => [0x6E]
  | .outsw => [0x6F]
  | .nop => [0x90]
  | .cbw => [0x98]
  | .cwd => [0x99]
  | .wait => [0x9B]
  | .pushf => [0x9C]
  | .popf => [0x9D]
  | .sahf => [0x9E]
  | .lahf => [0x9F]
  | .movsb => [0xA4]
  | .movsw => [0xA5]
  | .cmpsb => [0xA6]
  | .cmpsw => [0xA7]
  | .stosb => [0xAA]
  | .stosw => [0xAB]
  | .lodsb => [0xAC]
  | .lodsw => [0xAD]
  | .scasb => [0xAE]
  | .scasw => [0xAF]
  | .ret => [0xC3]
  | .leave => [0xC9]
  | .retf => [0xCB]
  | .int3 => [0xCC]
  | .into => [0xCE]
  | .iret => [0xCF]
  | .xlat => [0xD7]
  | .inAlDx => [0xEC]
  | .inAxDx => [0xED]
  | .outDxAl => [0xEE]
  | .outDxAx => [0xEF]
  | .hlt => [0xF4]
  | .cmc => [0xF5]
  | .clc => [0xF8]
  | .stc => [0xF9]
  | .cli => [0xFA]
  | .sti => [0xFB]
  | .cld => [0xFC]
  | .std => [0xFD]
  | .cts => [0x0F, 0x06]

/-- The number of bytes of an instruction, without prefixes. -/
def Instr.length (i : Instr) : Nat := (encode i).length

end Sys2Proof
end

