-- ==== Sys2Proof/Config.lean ====
section
/-! DEFINITION. What an implementation or a platform fixes (00_scope.md R9), and the free values: constants with no body,
of which nothing can be proved but that they are some value (92_eei_decisions.md D6). -/

namespace Sys2Proof.Config

/-- The privilege test HLT makes in Protected Mode (00_scope.md R9, 92_eei_decisions.md D12). -/
inductive HltRule where
  /-- The source's statement: HLT is controlled by IOPL. -/
  | iopl
  /-- Documentation outside the source: HLT needs CPL 0. -/
  | cpl0
  deriving DecidableEq, Repr

/-- `HLT_RULE`, at the spec's default (D12). DESIGN CHOICE, log 17. -/
def hltRule : HltRule := .iopl

/-- `ROTATE_SZP`: whether rotates write SF, ZF, PF; the spec's default (D28). DESIGN CHOICE, log 17. -/
def rotateSzp : Bool := false

/-- What answers at a physical address (20_memory.md R104, 92_eei_decisions.md D18). -/
inductive Region where
  /-- Reads return the last byte written, writes take effect. -/
  | ram
  /-- Reads return the contents, writes are ignored (D18). -/
  | rom
  /-- A memory-mapped device: reads return a free value, writes are externally visible events (R104, D18). -/
  | device
  /-- Reads return a free value, writes are ignored (D18). -/
  | absent
  deriving DecidableEq, Repr

/-- `MemoryMap`: every address holds RAM. DESIGN CHOICE, log 6: the spec leaves the map to the platform. -/
def region (_addr : Nat) : Region := .ram

/-- `A20Gate`: address bit 20 is passed in Real Address Mode (D4, default). DESIGN CHOICE, log 6. -/
def a20Passed : Bool := true

/-- FREE VALUE, log 7: an undefined flag, by the step it arises in and which flag it is
(93_implementation_defined.md U1). -/
opaque freeBit : Nat → Nat → Bool

/-- FREE VALUE, log 8: the sixth byte SGDT and SIDT store (U5), by the step. -/
opaque freeByte : Nat → Byte

/-- FREE VALUE, log 8: bits 15:4 of the word SMSW stores (U4), by the step. -/
opaque freeMswBits : Nat → BitVec 12

/-- FREE VALUE, log 9: the byte the platform supplies at a port, by the step and the port
(20_memory.md R84, D9). -/
opaque portByte : Nat → Word → Byte

/-- FREE VALUE, log 6: what a read of absent memory returns (D18), by the step and the address. -/
opaque absentByte : Nat → Nat → Byte

/-- FREE VALUE, log 6: what a memory-mapped device answers (D18), by the step and the address. -/
opaque deviceByte : Nat → Nat → Byte

/-- FREE VALUE, log 11: which of the values a code byte has had since the queue last was empty the
instruction stream sees (70_reset_and_hazards.md R490), by the step and the address; 0 is the newest. -/
opaque staleChoice : Nat → Nat → Nat

end Sys2Proof.Config
end

