-- ==== Sys2Proof/Machine/State.lean ====
section
/-! DEFINITION. The state of the 80286 as plain data (10_state.md), the state after reset (R60), and the reasons a step can
stop. -/

namespace Sys2Proof.Machine

/-- The eight word registers (10_state.md R20). -/
structure Gprs where
  ax : Word
  cx : Word
  dx : Word
  bx : Word
  sp : Word
  bp : Word
  si : Word
  di : Word
  deriving DecidableEq, Repr

/-- The fields of the flags word; its reserved bits are constants (10_state.md R25). -/
structure Flags where
  cf : Bool
  pf : Bool
  af : Bool
  zf : Bool
  sf : Bool
  tf : Bool
  ifl : Bool
  df : Bool
  of : Bool
  iopl : Level
  nt : Bool
  deriving DecidableEq, Repr

/-- A segment register: the visible selector and the cached descriptor (10_state.md R40 to R43). `valid` is false after a
null selector or where a rule marks the register invalid (20_memory.md R90, R95). -/
structure SegReg where
  sel : Word
  base : Base24
  limit : Word
  ar : Byte
  valid : Bool
  deriving DecidableEq, Repr

/-- GDTR and IDTR (10_state.md R46, R47). -/
structure TableReg where
  base : Base24
  limit : Word
  deriving DecidableEq, Repr

/-- LDTR and TR: the selector and the cached base, limit and access byte (10_state.md R48, R49, R52). `valid` is false while
LDTR names no table (47_protected_mode.md R373). -/
structure SysReg where
  sel : Word
  base : Base24
  limit : Word
  ar : Byte
  valid : Bool
  deriving DecidableEq, Repr

/-- The four flags of the machine status word (10_state.md R45); bits 15:4 hold nothing (log 8). -/
structure Msw where
  pe : Bool
  mp : Bool
  em : Bool
  ts : Bool
  deriving DecidableEq, Repr

/-- The interrupt shadow at the coming boundary (10_state.md R54, 60_exceptions.md R452). -/
inductive Shadow where
  | none
  /-- After STI that set IF. -/
  | sti
  /-- After MOV or POP into SS. -/
  | ss
  deriving DecidableEq, Repr

/-- A repeat prefix (30_encoding.md R122). -/
inductive Rep where
  /-- F3: REP, REPE, REPZ. -/
  | rep
  /-- F2: REPNE, REPNZ. -/
  | repne
  deriving DecidableEq, Repr

/-- The prefix bytes read so far of the instruction that starts at IP (30_encoding.md R122; log 1). -/
structure Prefixes where
  seg : Option SReg
  rep : Option Rep
  lock : Bool
  count : Nat
  deriving DecidableEq, Repr

/-- The fourteen string instructions, which a repeat prefix repeats (43_string.md R271 to R278). -/
inductive StringOp where
  | movsb | movsw | cmpsb | cmpsw | scasb | scasw | lodsb | lodsw | stosb | stosw | insb | insw | outsb | outsw
  deriving DecidableEq, Repr

/-- The input lines, which only the environment changes (10_state.md R54 (e); log 10), but that an accepted maskable or
overrun request is withdrawn. -/
structure Pins where
  /-- RESET (70_reset_and_hazards.md R480). -/
  reset : Bool
  /-- The maskable request with its vector (60_exceptions.md R451). -/
  intr : Option Byte
  /-- The input the source calls TEST: the extension is busy (46_processor_control.md R359). -/
  busy : Bool
  /-- The extension signals an unmasked error (60_exceptions.md R431). -/
  error : Bool
  /-- The extension's operand transfer overran its segment (60_exceptions.md R430). -/
  overrun : Bool
  deriving DecidableEq, Repr

/-- A port write, the externally visible event of 20_memory.md R84: the port, the number of bytes, the value. -/
structure PortWrite where
  port : Word
  bytes : Nat
  value : Word
  deriving DecidableEq, Repr

/-- Physical memory: the bytes that differ from what an unlisted address reads as, by rising address (20_memory.md R80). -/
abbrev Memory := List Host.Cell

/-- The machine. -/
structure State where
  /-- The general registers (10_state.md R20). -/
  regs : Gprs
  /-- The offset of the first byte, prefixes included, of the current instruction (10_state.md R23, R24). -/
  ip : Word
  /-- `ip_next` of the instruction being executed (10_state.md R24); the model's own field, log 32. -/
  ipNext : Word
  flags : Flags
  cs : SegReg
  ds : SegReg
  es : SegReg
  ss : SegReg
  msw : Msw
  gdtr : TableReg
  idtr : TableReg
  ldtr : SysReg
  tr : SysReg
  /-- The current privilege level (10_state.md R50). -/
  cpl : Level
  halted : Bool
  shutdown : Bool
  shadow : Shadow
  /-- A single-step trap is due at the coming boundary (60_exceptions.md R432). -/
  trapPending : Bool
  nmiPending : Bool
  nmiInService : Bool
  pins : Pins
  /-- The model's own field, log 1. -/
  pfx : Prefixes
  /-- The repeated string instruction that is between two elements; it and its prefixes are not fetched again
  (43_string.md R279; 20_memory.md R110); the model's own field, log 33. -/
  again : Option StringOp
  mem : Memory
  /-- The port writes so far, oldest first (92_eei_decisions.md D9). -/
  portTrace : List PortWrite
  /-- The bytes written so far to memory-mapped devices with their addresses, oldest first (20_memory.md R104; log 6). -/
  deviceTrace : List Host.Cell
  /-- No byte is prefetched: reset, or a taken transfer in this step (20_memory.md R110). -/
  queueEmpty : Bool
  /-- Earlier values of code bytes that the queue may still hold (70_reset_and_hazards.md R490; log 11). -/
  stale : List Host.Cell
  /-- Indexes the free values; the model's own field, log 7. -/
  clock : Nat
  deriving DecidableEq, Repr

/-- No step of this model ends in a fault: every violation is an exception the 80286 delivers (60_exceptions.md R420), and
every physical address exists (20_memory.md R80, R82). Having no fault is safe: nothing is stopped by one. -/
inductive Fault where
  deriving DecidableEq, Repr

/-- Why a step has no next state. Each is an input that the spec has a model refuse. -/
inductive Refusal where
  /-- Raised by an arm of exec whose instruction has no meaning yet (none is left). Safe: the run stops. -/
  | notModelled (mnemonic : String)
  /-- Raised by step on an encoding with no documented behaviour (30_encoding.md R141, U6, D22). Safe. -/
  | reservedOpcode
  /-- Raised by a prefix byte that repeats a kind of prefix already read (30_encoding.md R122, D21). Safe. -/
  | redundantPrefix
  /-- Raised by an instruction other than a string instruction under a repeat prefix (R142, D21). Safe. -/
  | repeatOfNonString
  /-- Raised by MOVS, LODS, STOS, INS, OUTS under F2 (43_string.md R278, D21). Safe. -/
  | repneOfNonCompare
  /-- Raised by ESC with EM = TS = 0: the processor extension is outside the spec (46_processor_control.md R360, D10). Safe. -/
  | noProcessorExtension
  /-- Raised by a word port access at port FFFF (93_implementation_defined.md U8). Safe. -/
  | portWordWrap
  /-- Raised by PUSHA in Real Address Mode with SP odd and below 16 (45_procedure.md R343, U7). Safe. -/
  | pushaStraddle
  deriving DecidableEq, Repr

/-- A segment register as Real Address Mode loads it (10_state.md R41). The access byte, a present writable data segment of
level 0, is a DESIGN CHOICE, log 4. -/
def realSegment (sel : Word) (base : Base24) : SegReg :=
  { sel := sel, base := base, limit := 0xFFFF, ar := 0x93, valid := true }

/-- The state right after power-up: 10_state.md R60. The values R60 leaves unspecified are logs 2, 3, 4, 5, 9, 10. -/
def State.reset : State where
  regs := { ax := 0, cx := 0, dx := 0, bx := 0, sp := 0, bp := 0, si := 0, di := 0 }
  ip := 0xFFF0
  ipNext := 0xFFF0
  flags := { cf := false, pf := false, af := false, zf := false, sf := false, tf := false, ifl := false, df := false,
             of := false, iopl := 0, nt := false }
  cs := realSegment 0xF000 0xFF0000
  ds := realSegment 0 0
  es := realSegment 0 0
  ss := realSegment 0 0
  msw := { pe := false, mp := false, em := false, ts := false }
  gdtr := { base := 0, limit := 0 }
  idtr := { base := 0, limit := 0x03FF }
  ldtr := { sel := 0, base := 0, limit := 0, ar := 0, valid := false }
  tr := { sel := 0, base := 0, limit := 0, ar := 0, valid := false }
  cpl := 0
  halted := false
  shutdown := false
  shadow := .none
  trapPending := false
  nmiPending := false
  nmiInService := false
  pins := { reset := false, intr := none, busy := false, error := false, overrun := false }
  pfx := { seg := none, rep := none, lock := false, count := 0 }
  again := none
  mem := []
  portTrace := []
  deviceTrace := []
  queueEmpty := true
  stale := []
  clock := 0

end Sys2Proof.Machine
end

