-- ==== Sys2Proof/Machine/Exceptions.lean ====
section
/-! DEFINITION. The exceptions an instruction can raise, by the names of 00_scope.md R15, and computations that either give
a value or raise one. -/

namespace Sys2Proof.Machine

/-- An exception with its error code where it has one (00_scope.md R15, 60_exceptions.md R420). -/
inductive Exc where
  | divideError
  | boundRange
  | invalidOpcode
  | noProcessorExtension
  | doubleFault
  | extensionSegmentOverrun
  | invalidTss (code : Word)
  | notPresent (code : Word)
  | stackFault (code : Word)
  | generalProtection (code : Word)
  | extensionError
  deriving DecidableEq, Repr

/-- The vector of an exception (60_exceptions.md R420). -/
def Exc.vector : Exc → Byte
  | .divideError => 0
  | .boundRange => 5
  | .invalidOpcode => 6
  | .noProcessorExtension => 7
  | .doubleFault => 8
  | .extensionSegmentOverrun => 9
  | .invalidTss _ => 10
  | .notPresent _ => 11
  | .stackFault _ => 12
  | .generalProtection _ => 13
  | .extensionError => 16

/-- The error code pushed in Protected Mode; DoubleFault's is always 0 (60_exceptions.md R420, R425). -/
def Exc.code : Exc → Option Word
  | .doubleFault => some 0
  | .invalidTss c | .notPresent c | .stackFault c | .generalProtection c => some c
  | .divideError | .boundRange | .invalidOpcode | .noProcessorExtension | .extensionSegmentOverrun
  | .extensionError => none

/-- The exceptions during whose delivery a further one is a double fault (60_exceptions.md R435). -/
def Exc.contributory : Exc → Bool
  | .divideError | .invalidTss _ | .notPresent _ | .stackFault _ | .generalProtection _ => true
  | .boundRange | .invalidOpcode | .noProcessorExtension | .doubleFault | .extensionSegmentOverrun
  | .extensionError => false

/-- A raised exception. `context` is none where the instruction leaves no trace (60_exceptions.md R454); past the commit
point of a task switch it is the incoming task's state (R424, R470). -/
structure Raise where
  exc : Exc
  context : Option State
  deriving DecidableEq, Repr

/-- A computation that gives a value or raises. -/
abbrev Res (α : Type) : Type := Except Raise α

/-- Raises `e` with no state changed (00_scope.md R15). -/
def raise {α : Type} (e : Exc) : Res α := .error { exc := e, context := none }

/-- Raises `e` unless `b`. -/
def require (b : Bool) (e : Exc) : Res Unit := if b then .ok () else raise e

/-- Raises what `m` raises, in the context of `t`: the faults of the incoming task (60_exceptions.md R470). -/
def inContext {α : Type} (t : State) (m : Res α) : Res α :=
  match m with
  | .ok a => .ok a
  | .error r => .error { r with context := some (r.context.getD t) }

end Sys2Proof.Machine
end

