-- ==== Sys2Proof/Machine/Registers.lean ====
section
/-! DEFINITION. Reading and writing the general registers, the flags word and the segment registers (00_scope.md R12,
10_state.md R20 to R25, R40), and the privilege tests (60_exceptions.md R462, R463). -/

namespace Sys2Proof.Machine

/-- `x[i]` (00_scope.md R12). -/
def State.reg16 (s : State) (r : Reg16) : Word :=
  match r with
  | .ax => s.regs.ax
  | .cx => s.regs.cx
  | .dx => s.regs.dx
  | .bx => s.regs.bx
  | .sp => s.regs.sp
  | .bp => s.regs.bp
  | .si => s.regs.si
  | .di => s.regs.di

/-- `x[i] <- v` (00_scope.md R12). -/
def State.setReg16 (s : State) (r : Reg16) (v : Word) : State :=
  match r with
  | .ax => { s with regs := { s.regs with ax := v } }
  | .cx => { s with regs := { s.regs with cx := v } }
  | .dx => { s with regs := { s.regs with dx := v } }
  | .bx => { s with regs := { s.regs with bx := v } }
  | .sp => { s with regs := { s.regs with sp := v } }
  | .bp => { s with regs := { s.regs with bp := v } }
  | .si => { s with regs := { s.regs with si := v } }
  | .di => { s with regs := { s.regs with di := v } }

/-- The word register that a byte register is half of (10_state.md R21). -/
def wholeOf : Reg8 → Reg16
  | .al | .ah => .ax
  | .cl | .ch => .cx
  | .dl | .dh => .dx
  | .bl | .bh => .bx

/-- Whether a byte register is the high half (10_state.md R21). -/
def isHigh : Reg8 → Bool
  | .al | .cl | .dl | .bl => false
  | .ah | .ch | .dh | .bh => true

/-- `xb[i]` (00_scope.md R12). -/
def State.reg8 (s : State) (r : Reg8) : Byte :=
  if isHigh r then hiByte (s.reg16 (wholeOf r)) else loByte (s.reg16 (wholeOf r))

/-- `xb[i] <- v`: the other half of the word register is unchanged (00_scope.md R12). -/
def State.setReg8 (s : State) (r : Reg8) (v : Byte) : State :=
  let w := s.reg16 (wholeOf r)
  s.setReg16 (wholeOf r) (if isHigh r then wordOf (loByte w) v else wordOf v (hiByte w))

/-- A segment register (10_state.md R40). -/
def State.seg (s : State) (r : SReg) : SegReg :=
  match r with
  | .es => s.es
  | .cs => s.cs
  | .ss => s.ss
  | .ds => s.ds

/-- Replaces a segment register, selector and cache. -/
def State.setSeg (s : State) (r : SReg) (g : SegReg) : State :=
  match r with
  | .es => { s with es := g }
  | .cs => { s with cs := g }
  | .ss => { s with ss := g }
  | .ds => { s with ds := g }

/-- The flags word: bit 1 reads 1, bits 3, 5 and 15 read 0 (10_state.md R25). -/
def flagsWord (f : Flags) : Word :=
  BitVec.ofBool false ++ BitVec.ofBool f.nt ++ f.iopl ++ BitVec.ofBool f.of ++ BitVec.ofBool f.df ++ BitVec.ofBool f.ifl ++
    BitVec.ofBool f.tf ++ BitVec.ofBool f.sf ++ BitVec.ofBool f.zf ++ BitVec.ofBool false ++ BitVec.ofBool f.af ++
    BitVec.ofBool false ++ BitVec.ofBool f.pf ++ BitVec.ofBool true ++ BitVec.ofBool f.cf

/-- The fields of a flags word, every one loaded (10_state.md R25; 60_exceptions.md R470 step 6). -/
def flagsOfWord (w : Word) : Flags where
  cf := w.getLsbD 0
  pf := w.getLsbD 2
  af := w.getLsbD 4
  zf := w.getLsbD 6
  sf := w.getLsbD 7
  tf := w.getLsbD 8
  ifl := w.getLsbD 9
  df := w.getLsbD 10
  of := w.getLsbD 11
  iopl := w.extractLsb' 12 2
  nt := w.getLsbD 14

/-- What POPF and IRET load: IF only where the level allows it, IOPL only at level 0, neither IOPL nor NT in Real Address
Mode (40_data_transfer.md R183; 60_exceptions.md R447). `cpl` is the level before the instruction. -/
def loadFlags (pe : Bool) (cpl : Level) (old : Flags) (w : Word) : Flags :=
  let f := flagsOfWord w
  { f with
    ifl := if pe && decide (old.iopl < cpl) then old.ifl else f.ifl
    iopl := if !pe then 0 else if cpl = 0 then f.iopl else old.iopl
    nt := pe && f.nt }

/-- `CPL <= IOPL`, or Real Address Mode (60_exceptions.md R462). -/
def State.trusted (s : State) : Bool := !s.msw.pe || decide (s.cpl ≤ s.flags.iopl)

/-- `CPL = 0`, or Real Address Mode (60_exceptions.md R463). -/
def State.privileged (s : State) : Bool := !s.msw.pe || decide (s.cpl = 0)

/-- No byte of a prefix has been read. -/
def noPrefixes : Prefixes := { seg := none, rep := none, lock := false, count := 0 }

/-- The offset of the last byte instructions can be fetched from (10_state.md R24; 20_memory.md R92, R93). -/
def State.codeLimit (s : State) : Nat := if s.msw.pe then s.cs.limit.toNat else 0xFFFF

/-- `IP <- ip_next` (40_data_transfer.md R160). -/
def State.advance (s : State) : State := { s with ip := s.ipNext }

/-- A near transfer: the target is checked against the code segment, and the queue is emptied
(44_control_transfer.md R290; 20_memory.md R110). -/
def State.jumpNear (s : State) (target : Word) : Res State := do
  require (decide (target.toNat ≤ s.codeLimit)) (.generalProtection 0)
  pure { s with ip := target, queueEmpty := true }

/-- A fresh undefined flag of this step (93_implementation_defined.md U1; log 7). -/
def State.free (s : State) (slot : Nat) : Bool := Config.freeBit s.clock slot

end Sys2Proof.Machine
end

