-- ==== Sys2Proof/Machine/Memory.lean ====
section
/-! DEFINITION. Physical memory (20_memory.md R80, R82, R85; 00_scope.md R13) in its canonical form, and the I/O port space
(20_memory.md R84). -/

namespace Sys2Proof.Machine

/-- The byte at an address; an unlisted address reads 0 (log 5). -/
def memRead : Memory → Nat → Byte
  | [], _ => 0
  | (k, v) :: rest, a => if k = a then v else memRead rest a

/-- Removes the entries of an address. -/
def memErase : Memory → Nat → Memory
  | [], _ => []
  | (k, v) :: rest, a => if k = a then memErase rest a else (k, v) :: memErase rest a

/-- Lists a byte at its place among rising addresses. -/
def memInsert : Memory → Nat → Byte → Memory
  | [], a, b => [(a, b)]
  | (k, v) :: rest, a, b =>
    if a < k then (a, b) :: (k, v) :: rest
    else if a = k then (a, b) :: rest
    else (k, v) :: memInsert rest a b

/-- Writes a byte: one equal to what an unlisted address reads as is not listed. -/
def memWrite (m : Memory) (a : Nat) (b : Byte) : Memory := if b = 0 then memErase m a else memInsert m a b

/-- Every address is above `a`, and addresses rise. -/
def risingFrom (a : Nat) : Memory → Bool
  | [] => true
  | (k, _) :: rest => decide (a < k) && risingFrom k rest

/-- The canonical form: addresses strictly rising and below 2^24, and no byte that an unlisted address reads as. -/
def Memory.wf (m : Memory) : Bool :=
  (match m with
    | [] => true
    | (k, _) :: rest => risingFrom k rest) &&
  m.all fun c => decide (c.1 < 2 ^ 24) && decide (c.2 ≠ 0)

/-- The 24-bit physical address of a sum of base and offset, with bit 20 forced to 0 in Real Address Mode where the platform
does not pass it (20_memory.md R82; 92_eei_decisions.md D4). -/
def physAddr (pe : Bool) (a : Nat) : Nat :=
  let p := a % 2 ^ 24
  if pe || Config.a20Passed then p else p - p / 2 ^ 20 % 2 * 2 ^ 20

/-- The byte read at a physical address of the memory map (20_memory.md R80; 92_eei_decisions.md D18). -/
def State.physByte (s : State) (p : Nat) : Byte :=
  match Config.region p with
  | .ram | .rom => memRead s.mem p
  | .device => Config.deviceByte s.clock p
  | .absent => Config.absentByte s.clock p

/-- `MemRead(a, 1)` (00_scope.md R13). -/
def State.read8 (s : State) (a : Nat) : Byte := s.physByte (physAddr s.msw.pe a)

/-- `MemRead(a, 2)`, little-endian (00_scope.md R13; 20_memory.md R85). -/
def State.read16 (s : State) (a : Nat) : Word := wordOf (s.read8 a) (s.read8 (a + 1))

/-- `MemWrite(a, 1, v)`: a device records it, ROM and absent memory ignore it (20_memory.md R104; 92_eei_decisions.md
D18). -/
def State.write8 (s : State) (a : Nat) (v : Byte) : State :=
  let p := physAddr s.msw.pe a
  match Config.region p with
  | .ram => { s with mem := memWrite s.mem p v }
  | .device => { s with deviceTrace := s.deviceTrace ++ [(p, v)] }
  | .rom | .absent => s

/-- `MemWrite(a, 2, v)`, little-endian, the low byte first (20_memory.md R85, R86). -/
def State.write16 (s : State) (a : Nat) (v : Word) : State := (s.write8 a (loByte v)).write8 (a + 1) (hiByte v)

/-- `PortRead(p, 1)`: the platform's value (20_memory.md R84; log 9). -/
def State.portIn8 (s : State) (p : Word) : Byte := Config.portByte s.clock p

/-- `PortRead(p, 2)`: ports p and p + 1, the low byte at p (20_memory.md R84). -/
def State.portIn16 (s : State) (p : Word) : Word := wordOf (Config.portByte s.clock p) (Config.portByte s.clock (p + 1))

/-- `PortWrite(p, n, v)`: an externally visible event (20_memory.md R84; 92_eei_decisions.md D9). -/
def State.portOut (s : State) (p : Word) (n : Nat) (v : Word) : State :=
  { s with portTrace := s.portTrace ++ [{ port := p, bytes := n, value := v }] }

end Sys2Proof.Machine
end

