-- ==== Sys2Proof/Machine/Flags.lean ====
section
/-! DEFINITION. Every result and flag computation of the arithmetic, logic, shift and decimal instructions (00_scope.md R16;
41_arithmetic.md; 42_logic_shift_rotate.md). An operation gives the result and the whole flags after it. -/

namespace Sys2Proof.Machine

/-- `parity8`: bits 7:0 hold an even number of ones (00_scope.md R11). -/
def parity8 {n : Nat} (r : BitVec n) : Bool :=
  !(r.getLsbD 0 ^^ r.getLsbD 1 ^^ r.getLsbD 2 ^^ r.getLsbD 3 ^^ r.getLsbD 4 ^^ r.getLsbD 5 ^^ r.getLsbD 6 ^^ r.getLsbD 7)

/-- `SetSZP_N(r)` (00_scope.md R16). -/
def setSzp {n : Nat} (f : Flags) (r : BitVec n) : Flags := { f with sf := r.msb, zf := decide (r = 0), pf := parity8 r }

/-- Outside the signed range of n bits (00_scope.md R16). -/
def signedOut (n : Nat) (x : Int) : Bool := decide (x < -(2 ^ (n - 1) : Int)) || decide ((2 ^ (n - 1) : Int) ≤ x)

/-- `AddFlags_N(a, b, c)` (00_scope.md R16). -/
def addFlags {n : Nat} (f : Flags) (a b : BitVec n) (c : Bool) : Flags :=
  { setSzp f (a + b + BitVec.ofNat n c.toNat) with
    cf := decide (2 ^ n ≤ a.toNat + b.toNat + c.toNat)
    af := decide (16 ≤ a.toNat % 16 + b.toNat % 16 + c.toNat)
    of := signedOut n (a.toInt + b.toInt + c.toNat) }

/-- `SubFlags_N(a, b, c)` (00_scope.md R16). -/
def subFlags {n : Nat} (f : Flags) (a b : BitVec n) (c : Bool) : Flags :=
  { setSzp f (a - b - BitVec.ofNat n c.toNat) with
    cf := decide (a.toNat < b.toNat + c.toNat)
    af := decide (a.toNat % 16 < b.toNat % 16 + c.toNat)
    of := signedOut n (a.toInt - b.toInt - c.toNat) }

/-- ADD (41_arithmetic.md R201). -/
def addOp {n : Nat} (s : State) (a b : BitVec n) : BitVec n × Flags := (a + b, addFlags s.flags a b false)

/-- ADC (41_arithmetic.md R202). -/
def adcOp {n : Nat} (s : State) (a b : BitVec n) : BitVec n × Flags :=
  (a + b + BitVec.ofNat n s.flags.cf.toNat, addFlags s.flags a b s.flags.cf)

/-- SUB and CMP (41_arithmetic.md R206, R210). -/
def subOp {n : Nat} (s : State) (a b : BitVec n) : BitVec n × Flags := (a - b, subFlags s.flags a b false)

/-- SBB (41_arithmetic.md R207). -/
def sbbOp {n : Nat} (s : State) (a b : BitVec n) : BitVec n × Flags :=
  (a - b - BitVec.ofNat n s.flags.cf.toNat, subFlags s.flags a b s.flags.cf)

/-- The flags of AND, OR, XOR, TEST: AF is a free value (42_logic_shift_rotate.md R240). -/
def logicFlags {n : Nat} (s : State) (r : BitVec n) : Flags :=
  { setSzp s.flags r with cf := false, of := false, af := s.free 0 }

/-- AND and TEST (42_logic_shift_rotate.md R242, R245). -/
def andOp {n : Nat} (s : State) (a b : BitVec n) : BitVec n × Flags := (a &&& b, logicFlags s (a &&& b))

/-- OR (42_logic_shift_rotate.md R243). -/
def orOp {n : Nat} (s : State) (a b : BitVec n) : BitVec n × Flags := (a ||| b, logicFlags s (a ||| b))

/-- XOR (42_logic_shift_rotate.md R244). -/
def xorOp {n : Nat} (s : State) (a b : BitVec n) : BitVec n × Flags := (a ^^^ b, logicFlags s (a ^^^ b))

/-- INC: CF is not written (41_arithmetic.md R203). -/
def incOp {n : Nat} (s : State) (a : BitVec n) : BitVec n × Flags :=
  (a + 1, { addFlags s.flags a (BitVec.ofNat n 1) false with cf := s.flags.cf })

/-- DEC: CF is not written (41_arithmetic.md R208). -/
def decOp {n : Nat} (s : State) (a : BitVec n) : BitVec n × Flags :=
  (a - 1, { subFlags s.flags a (BitVec.ofNat n 1) false with cf := s.flags.cf })

/-- NEG (41_arithmetic.md R209). -/
def negOp {n : Nat} (s : State) (a : BitVec n) : BitVec n × Flags := (0 - a, subFlags s.flags 0 a false)

/-- NOT: no flag (42_logic_shift_rotate.md R241). -/
def notOp {n : Nat} (s : State) (a : BitVec n) : BitVec n × Flags := (~~~a, s.flags)

/-- `c` repetitions of a one-bit step on CF and the operand (42_logic_shift_rotate.md R246). -/
def times {n : Nat} (step : Bool → BitVec n → Bool × BitVec n) : Nat → Bool → BitVec n → Bool × BitVec n
  | 0, cf, a => (cf, a)
  | c + 1, cf, a => times step c (step cf a).1 (step cf a).2

/-- One bit of SHL (42_logic_shift_rotate.md R247). -/
def shlStep {n : Nat} (_cf : Bool) (a : BitVec n) : Bool × BitVec n := (a.msb, a <<< 1)

/-- One bit of SHR (42_logic_shift_rotate.md R248). -/
def shrStep {n : Nat} (_cf : Bool) (a : BitVec n) : Bool × BitVec n := (a.getLsbD 0, a >>> 1)

/-- One bit of SAR (42_logic_shift_rotate.md R249). -/
def sarStep {n : Nat} (_cf : Bool) (a : BitVec n) : Bool × BitVec n := (a.getLsbD 0, a.sshiftRight 1)

/-- One bit of ROL (42_logic_shift_rotate.md R250). -/
def rolStep {n : Nat} (_cf : Bool) (a : BitVec n) : Bool × BitVec n :=
  (a.msb, a <<< 1 ||| BitVec.ofNat n a.msb.toNat)

/-- One bit of ROR (42_logic_shift_rotate.md R251). -/
def rorStep {n : Nat} (_cf : Bool) (a : BitVec n) : Bool × BitVec n :=
  (a.getLsbD 0, a >>> 1 ||| BitVec.ofNat n ((a.getLsbD 0).toNat * 2 ^ (n - 1)))

/-- One bit of RCL (42_logic_shift_rotate.md R252). -/
def rclStep {n : Nat} (cf : Bool) (a : BitVec n) : Bool × BitVec n := (a.msb, a <<< 1 ||| BitVec.ofNat n cf.toNat)

/-- One bit of RCR (42_logic_shift_rotate.md R253). -/
def rcrStep {n : Nat} (cf : Bool) (a : BitVec n) : Bool × BitVec n :=
  (a.getLsbD 0, a >>> 1 ||| BitVec.ofNat n (cf.toNat * 2 ^ (n - 1)))

/-- The flags of a shift by `c`, c not 0: OF is `ofOne` when c is 1 and free otherwise, AF is free
(42_logic_shift_rotate.md R246 to R249). -/
def shiftFlags {n : Nat} (s : State) (c : Nat) (cf ofOne : Bool) (r : BitVec n) : Flags :=
  { setSzp s.flags r with cf := cf, of := if c = 1 then ofOne else s.free 1, af := s.free 0 }

/-- The flags of a rotate by `c`, c not 0 (42_logic_shift_rotate.md R250 to R253; 92_eei_decisions.md D28). -/
def rotateFlags {n : Nat} (s : State) (c : Nat) (cf ofOne : Bool) (r : BitVec n) : Flags :=
  { (if Config.rotateSzp then setSzp s.flags r else s.flags) with cf := cf, of := if c = 1 then ofOne else s.free 1 }

/-- SHL, SAL (42_logic_shift_rotate.md R247). -/
def shlOp {n : Nat} (s : State) (a : BitVec n) (c : Nat) : BitVec n × Flags :=
  let x := times shlStep c s.flags.cf a
  (x.2, shiftFlags s c x.1 (x.2.msb ^^ x.1) x.2)

/-- SHR (42_logic_shift_rotate.md R248). -/
def shrOp {n : Nat} (s : State) (a : BitVec n) (c : Nat) : BitVec n × Flags :=
  let x := times shrStep c s.flags.cf a
  (x.2, shiftFlags s c x.1 a.msb x.2)

/-- SAR (42_logic_shift_rotate.md R249). -/
def sarOp {n : Nat} (s : State) (a : BitVec n) (c : Nat) : BitVec n × Flags :=
  let x := times sarStep c s.flags.cf a
  (x.2, shiftFlags s c x.1 false x.2)

/-- ROL (42_logic_shift_rotate.md R250). -/
def rolOp {n : Nat} (s : State) (a : BitVec n) (c : Nat) : BitVec n × Flags :=
  let x := times rolStep c s.flags.cf a
  (x.2, rotateFlags s c x.1 (x.2.msb ^^ x.1) x.2)

/-- ROR (42_logic_shift_rotate.md R251). -/
def rorOp {n : Nat} (s : State) (a : BitVec n) (c : Nat) : BitVec n × Flags :=
  let x := times rorStep c s.flags.cf a
  (x.2, rotateFlags s c x.1 (x.2.msb ^^ x.2.getLsbD (n - 2)) x.2)

/-- RCL (42_logic_shift_rotate.md R252). -/
def rclOp {n : Nat} (s : State) (a : BitVec n) (c : Nat) : BitVec n × Flags :=
  let x := times rclStep c s.flags.cf a
  (x.2, rotateFlags s c x.1 (x.2.msb ^^ x.1) x.2)

/-- RCR (42_logic_shift_rotate.md R253). -/
def rcrOp {n : Nat} (s : State) (a : BitVec n) (c : Nat) : BitVec n × Flags :=
  let x := times rcrStep c s.flags.cf a
  (x.2, rotateFlags s c x.1 (x.2.msb ^^ x.2.getLsbD (n - 2)) x.2)

/-- AL, AH and the flags after AAA: OF, SF, ZF, PF are free (41_arithmetic.md R204). -/
def aaaOp (s : State) (al ah : Byte) : Byte × Byte × Flags :=
  let adjust := decide (9 < al.toNat % 16) || s.flags.af
  let f := { s.flags with af := adjust, cf := adjust, of := s.free 1, sf := s.free 2, zf := s.free 3, pf := s.free 4 }
  if adjust then ((al + 6) &&& 0x0F, ah + 1, f) else (al &&& 0x0F, ah, f)

/-- AL, AH and the flags after AAS: OF, SF, ZF, PF are free (41_arithmetic.md R211). -/
def aasOp (s : State) (al ah : Byte) : Byte × Byte × Flags :=
  let adjust := decide (9 < al.toNat % 16) || s.flags.af
  let f := { s.flags with af := adjust, cf := adjust, of := s.free 1, sf := s.free 2, zf := s.free 3, pf := s.free 4 }
  if adjust then ((al - 6) &&& 0x0F, ah - 1, f) else (al &&& 0x0F, ah, f)

/-- AL and the flags after DAA: OF is free (41_arithmetic.md R205). -/
def daaOp (s : State) (al : Byte) : Byte × Flags :=
  let low := decide (9 < al.toNat % 16) || s.flags.af
  let high := decide (0x99 < al.toNat) || s.flags.cf
  let al1 := if low then al + 6 else al
  let al2 := if high then al1 + 0x60 else al1
  (al2, { setSzp s.flags al2 with af := low, cf := high, of := s.free 1 })

/-- AL and the flags after DAS: OF is free (41_arithmetic.md R212). -/
def dasOp (s : State) (al : Byte) : Byte × Flags :=
  let low := decide (9 < al.toNat % 16) || s.flags.af
  let high := decide (0x99 < al.toNat) || s.flags.cf
  let al1 := if low then al - 6 else al
  let al2 := if high then al1 - 0x60 else al1
  (al2, { setSzp s.flags al2 with
    af := low
    cf := high || (low && (s.flags.cf || decide (al.toNat < 6)))
    of := s.free 1 })

/-- The flags of MUL and IMUL: SF, ZF, AF, PF are free (41_arithmetic.md R213 to R215). -/
def mulFlags (s : State) (wide : Bool) : Flags :=
  { s.flags with cf := wide, of := wide, af := s.free 0, sf := s.free 2, zf := s.free 3, pf := s.free 4 }

/-- The flags of DIV and IDIV: all six are free (41_arithmetic.md R217, R218). -/
def divFlags (s : State) : Flags :=
  { s.flags with
    af := s.free 0, of := s.free 1, sf := s.free 2, zf := s.free 3, pf := s.free 4, cf := s.free 5 }

/-- The flags of AAM and AAD: OF, AF, CF are free (41_arithmetic.md R216, R219). -/
def adjustFlags (s : State) (al : Byte) : Flags :=
  { setSzp s.flags al with af := s.free 0, of := s.free 1, cf := s.free 5 }

end Sys2Proof.Machine
end

