-- ==== Sys2Proof/Machine/Segments.lean ====
section
/-! DEFINITION. Segmentation: the checks on every access (20_memory.md R88 to R93), descriptors and their tables (R98 to R102),
the loads of segment registers (R94 to R97), and the stack (00_scope.md R14). -/

namespace Sys2Proof.Machine

/-- P, bit 7 of the access-rights byte (20_memory.md R99). -/
def arPresent (ar : Byte) : Bool := ar.getLsbD 7

/-- DPL, bits 6:5 (20_memory.md R99). -/
def arDpl (ar : Byte) : Level := ar.extractLsb' 5 2

/-- S: a code or data segment (20_memory.md R99). -/
def arSegment (ar : Byte) : Bool := ar.getLsbD 4

/-- S = 1, E = 1 (20_memory.md R99). -/
def arCode (ar : Byte) : Bool := ar.getLsbD 4 && ar.getLsbD 3

/-- S = 1, E = 0 (20_memory.md R99). -/
def arData (ar : Byte) : Bool := ar.getLsbD 4 && !ar.getLsbD 3

/-- C of a code segment (20_memory.md R99). -/
def arConforming (ar : Byte) : Bool := arCode ar && ar.getLsbD 2

/-- ED of a data segment (20_memory.md R99). -/
def arExpandDown (ar : Byte) : Bool := arData ar && ar.getLsbD 2

/-- Every segment but an execute-only one can be read (20_memory.md R89). -/
def arReadable (ar : Byte) : Bool := arData ar || (arCode ar && ar.getLsbD 1)

/-- Only a read and write data segment can be written (20_memory.md R89). -/
def arWritable (ar : Byte) : Bool := arData ar && ar.getLsbD 1

/-- The type of a control descriptor (20_memory.md R100). -/
def arControl (ar : Byte) (type : BitVec 4) : Bool := !ar.getLsbD 4 && decide (ar.extractLsb' 0 4 = type)

/-- StackFault through SS, GeneralProtection through the others (20_memory.md R90, R93). -/
def segFault (r : SReg) (code : Word) : Exc := if r = .ss then .stackFault code else .generalProtection code

/-- The limit check of n bytes, n not 0, without wrap (20_memory.md R83, R92). -/
def insideLimit (g : SegReg) (off n : Nat) : Bool :=
  if arExpandDown g.ar then decide (g.limit.toNat < off) && decide (off + n ≤ 0x10000)
  else decide (off + n ≤ g.limit.toNat + 1)

/-- The check of an access of n bytes at `off` (20_memory.md R90 to R93): in Protected Mode validity, then the type, then the
limit. CS is never written (R91; log 19). `code` is the error code, 0 but for the pushes of an interrupt sequence. -/
def State.check (s : State) (r : SReg) (off n : Nat) (write : Bool) (code : Word) : Res Unit :=
  if s.msw.pe then do
    require (s.seg r).valid (.generalProtection code)
    require (if write then decide (r ≠ .cs) && arWritable (s.seg r).ar else arReadable (s.seg r).ar)
      (.generalProtection code)
    require (insideLimit (s.seg r) off n) (segFault r code)
  else require (decide (off + n ≤ 0x10000)) (segFault r code)

/-- The address of an offset in a segment, before its reduction to 24 bits (20_memory.md R82). -/
def State.linear (s : State) (r : SReg) (off : Nat) : Nat := (s.seg r).base.toNat + off

/-- `LRead(r, off, 1)` (20_memory.md R90). -/
def State.lread8 (s : State) (r : SReg) (off : Word) : Res Byte := do
  s.check r off.toNat 1 false 0
  pure (s.read8 (s.linear r off.toNat))

/-- `LRead(r, off, 2)` (20_memory.md R90). -/
def State.lread16 (s : State) (r : SReg) (off : Word) : Res Word := do
  s.check r off.toNat 2 false 0
  pure (s.read16 (s.linear r off.toNat))

/-- `LWrite(r, off, 1, v)` (20_memory.md R91). -/
def State.lwrite8 (s : State) (r : SReg) (off : Word) (v : Byte) : Res State := do
  s.check r off.toNat 1 true 0
  pure (s.write8 (s.linear r off.toNat) v)

/-- `LWrite(r, off, 2, v)` (20_memory.md R91). -/
def State.lwrite16 (s : State) (r : SReg) (off : Word) (v : Word) : Res State := do
  s.check r off.toNat 2 true 0
  pure (s.write16 (s.linear r off.toNat) v)

/-- `Push16(v)` with the error code of its faults (00_scope.md R14). -/
def State.push (s : State) (code v : Word) : Res State := do
  let sp := s.regs.sp - 2
  s.check .ss sp.toNat 2 true code
  pure { s.write16 (s.linear .ss sp.toNat) v with regs := { s.regs with sp := sp } }

/-- `Push16` of each word in turn. -/
def State.pushAll (s : State) (code : Word) : List Word → Res State
  | [] => .ok s
  | v :: vs =>
    match s.push code v with
    | .ok t => t.pushAll code vs
    | .error r => .error r

/-- `Pop16()` (00_scope.md R14). -/
def State.pop (s : State) : Res (Word × State) := do
  let v ← s.lread16 .ss s.regs.sp
  pure (v, { s with regs := { s.regs with sp := s.regs.sp + 2 } })

/-- The stack word `2 * k` above SP, SP not changed; the offset wraps as SP does (log 39). -/
def State.stackWord (s : State) (k : Nat) : Res Word := s.lread16 .ss (s.regs.sp + BitVec.ofNat 16 (2 * k))

/-- A descriptor read from a table, with the address it was read at (20_memory.md R98). -/
structure Desc where
  addr : Nat
  limit : Word
  base : Base24
  ar : Byte
  deriving DecidableEq, Repr

/-- The destination offset, when the descriptor is a gate (20_memory.md R100). -/
def Desc.gateOffset (d : Desc) : Word := d.limit

/-- The destination selector, when the descriptor is a gate (20_memory.md R100). -/
def Desc.gateSel (d : Desc) : Word := d.base.extractLsb' 0 16

/-- The word count of a call gate (20_memory.md R100). -/
def Desc.gateCount (d : Desc) : Nat := (d.base.extractLsb' 16 5 : BitVec 5).toNat

/-- The descriptor at a physical address (20_memory.md R98). -/
def State.descAt (s : State) (a : Nat) : Desc where
  addr := a
  limit := s.read16 a
  base := s.read8 (a + 4) ++ s.read16 (a + 2)
  ar := s.read8 (a + 5)

/-- RPL of a selector (10_state.md R42). -/
def selRpl (sel : Word) : Level := sel.extractLsb' 0 2

/-- TI of a selector (10_state.md R42). -/
def selLocal (sel : Word) : Bool := sel.getLsbD 2

/-- The null selectors 0 to 3 (10_state.md R42). -/
def selNull (sel : Word) : Bool := decide (sel.extractLsb' 2 14 = (0 : BitVec 14))

/-- The error code of a selector (60_exceptions.md R425). -/
def selCode (sel : Word) : Word := sel &&& 0xFFFC

/-- `FetchDescriptor(sel)`, none outside the table; LDTR without a table has none (20_memory.md R102). -/
def State.fetchDesc (s : State) (sel : Word) : Option Desc :=
  let o := (sel &&& 0xFFF8).toNat
  if selLocal sel then
    if s.ldtr.valid && decide (o + 7 ≤ s.ldtr.limit.toNat) then some (s.descAt (s.ldtr.base.toNat + o)) else none
  else if o + 7 ≤ s.gdtr.limit.toNat then some (s.descAt (s.gdtr.base.toNat + o)) else none

/-- `FetchDescriptor(sel)`, raising `e` outside the table. -/
def State.fetchOr (s : State) (sel : Word) (e : Exc) : Res Desc :=
  match s.fetchDesc sel with
  | some d => .ok d
  | none => raise e

/-- Sets the Accessed bit in the table where it is still 0: a read-modify-write of the access byte as it stands when the segment
register is loaded (20_memory.md R97; 92_eei_decisions.md D23). -/
def State.markAccessed (s : State) (d : Desc) : State :=
  if (s.read8 (d.addr + 5)).getLsbD 0 then s else s.write8 (d.addr + 5) (s.read8 (d.addr + 5) ||| 1)

/-- Marks the descriptor of an available task state segment busy: type 1 becomes 3 in the access byte as it stands
(20_memory.md R100; 47_protected_mode.md R375; 60_exceptions.md R470 step 4). -/
def State.markBusy (s : State) (d : Desc) : State := s.write8 (d.addr + 5) (s.read8 (d.addr + 5) ||| 2)

/-- The register that a descriptor makes (20_memory.md R95); the cached byte is the one read (log 31). -/
def Desc.toSeg (d : Desc) (sel : Word) : SegReg :=
  { sel := sel, base := d.base, limit := d.limit, ar := d.ar, valid := true }

/-- LDTR or TR as a descriptor makes it (47_protected_mode.md R373, R375; 10_state.md R52). -/
def Desc.toSys (d : Desc) (sel : Word) : SysReg :=
  { sel := sel, base := d.base, limit := d.limit, ar := d.ar, valid := true }

/-- The larger of two levels, the less privileged. -/
def lvlMax (a b : Level) : Level := if a ≤ b then b else a

/-- The type and privilege checks of LoadDataSeg, with the exceptions its callers say (20_memory.md R95;
60_exceptions.md R470 step 8). -/
def checkDataDesc (cpl : Level) (sel : Word) (d : Desc) (bad absent : Exc) : Res Unit := do
  require (arSegment d.ar) bad
  require (arReadable d.ar) bad
  require (arConforming d.ar || decide (lvlMax cpl (selRpl sel) ≤ arDpl d.ar)) bad
  require (arPresent d.ar) absent

/-- `LoadDataSeg(r, sel)` in Protected Mode (20_memory.md R95). -/
def State.loadDataSeg (s : State) (r : SReg) (sel : Word) : Res State :=
  if selNull sel then .ok (s.setSeg r { s.seg r with sel := sel, valid := false })
  else do
    let d ← s.fetchOr sel (.generalProtection (selCode sel))
    checkDataDesc s.cpl sel d (.generalProtection (selCode sel)) (.notPresent (selCode sel))
    pure ((s.markAccessed d).setSeg r (d.toSeg sel))

/-- `LoadSS(sel)` in Protected Mode (20_memory.md R96). -/
def State.loadSs (s : State) (sel : Word) : Res State := do
  require (!selNull sel) (.generalProtection 0)
  let d ← s.fetchOr sel (.generalProtection (selCode sel))
  require (decide (selRpl sel = s.cpl)) (.generalProtection (selCode sel))
  require (arWritable d.ar) (.generalProtection (selCode sel))
  require (decide (arDpl d.ar = s.cpl)) (.generalProtection (selCode sel))
  require (arPresent d.ar) (.stackFault (selCode sel))
  pure ((s.markAccessed d).setSeg .ss (d.toSeg sel))

/-- A segment register as Real Address Mode loads it: base 16 times the value (10_state.md R41). -/
def realLoad (v : Word) : SegReg := realSegment v (BitVec.ofNat 24 (v.toNat * 16))

/-- The load of DS, ES or SS by MOV, POP, LDS, LES (40_data_transfer.md R163). CS has no such load: InvalidOpcode
(30_encoding.md R141). -/
def State.loadSeg (s : State) (r : SReg) (v : Word) : Res State :=
  if r = .cs then raise .invalidOpcode
  else if s.msw.pe then if r = .ss then s.loadSs v else s.loadDataSeg r v
  else .ok (s.setSeg r (realLoad v))

end Sys2Proof.Machine
end

