-- ==== Sys2Proof/Machine/Tasks.lean ====
section
/-! DEFINITION. Task state segments and the task switch (60_exceptions.md R461, R470 to R472). -/

namespace Sys2Proof.Machine

/-- What causes a task switch; an interrupt or exception through a task gate is `nested` (60_exceptions.md R470). -/
inductive SwitchKind where
  | jmp | call | nested | iret
  deriving DecidableEq, Repr

/-- CALL and interrupts link the new task to the old one (60_exceptions.md R472). -/
def SwitchKind.links : SwitchKind → Bool
  | .call | .nested => true
  | .jmp | .iret => false

/-- Writes the outgoing task state segment at `a` (60_exceptions.md R470 step 2, R471). -/
def State.saveTask (s : State) (a : Nat) (returnIp : Word) (flags : Flags) : State :=
  let s := s.write16 (a + 14) returnIp
  let s := s.write16 (a + 16) (flagsWord flags)
  let s := s.write16 (a + 18) s.regs.ax
  let s := s.write16 (a + 20) s.regs.cx
  let s := s.write16 (a + 22) s.regs.dx
  let s := s.write16 (a + 24) s.regs.bx
  let s := s.write16 (a + 26) s.regs.sp
  let s := s.write16 (a + 28) s.regs.bp
  let s := s.write16 (a + 30) s.regs.si
  let s := s.write16 (a + 32) s.regs.di
  let s := s.write16 (a + 34) s.es.sel
  let s := s.write16 (a + 36) s.cs.sel
  let s := s.write16 (a + 38) s.ss.sel
  s.write16 (a + 40) s.ds.sel

/-- A segment register after its selector is loaded and before its descriptor is (60_exceptions.md R470 step 6). -/
def unloaded (g : SegReg) (sel : Word) : SegReg := { g with sel := sel, valid := false }

/-- The state loaded from the incoming task state segment at `a` (60_exceptions.md R470 step 6, R471): every register and
selector, no descriptor yet. NT is set where the switch links and cleared where it does not (10_state.md R36; log 20). -/
def State.loadTask (s : State) (a : Nat) (links : Bool) : State :=
  { s with
    ip := s.read16 (a + 14)
    flags := { flagsOfWord (s.read16 (a + 16)) with nt := links }
    regs :=
      { ax := s.read16 (a + 18), cx := s.read16 (a + 20), dx := s.read16 (a + 22), bx := s.read16 (a + 24)
        sp := s.read16 (a + 26), bp := s.read16 (a + 28), si := s.read16 (a + 30), di := s.read16 (a + 32) }
    es := unloaded s.es (s.read16 (a + 34))
    cs := unloaded s.cs (s.read16 (a + 36))
    ss := unloaded s.ss (s.read16 (a + 38))
    ds := unloaded s.ds (s.read16 (a + 40))
    ldtr := { s.ldtr with sel := s.read16 (a + 42), valid := false } }

/-- The descriptor of the incoming task's LDT (60_exceptions.md R470 step 7). -/
def State.switchLdt (s : State) (ext : Word) : Res State :=
  let sel := s.ldtr.sel
  if selNull sel then .ok s
  else do
    let bad := Exc.invalidTss (selCode sel ||| ext)
    require (!selLocal sel) bad
    let d ← s.fetchOr sel bad
    require (arControl d.ar 2) bad
    require (arPresent d.ar) bad
    pure { s with ldtr := d.toSys sel }

/-- The incoming task's code segment, which sets the level (60_exceptions.md R470 step 8). -/
def State.switchCs (s : State) (ext : Word) : Res State := do
  let sel := s.cs.sel
  let bad := Exc.invalidTss (selCode sel ||| ext)
  require (!selNull sel) bad
  let d ← s.fetchOr sel bad
  require (arCode d.ar) bad
  require (if arConforming d.ar then decide (arDpl d.ar ≤ s.cpl) else decide (arDpl d.ar = s.cpl)) bad
  require (arPresent d.ar) (.notPresent (selCode sel ||| ext))
  pure ((s.markAccessed d).setSeg .cs (d.toSeg sel))

/-- The incoming task's stack segment (60_exceptions.md R470 step 8). -/
def State.switchSs (s : State) (ext : Word) : Res State := do
  let sel := s.ss.sel
  let bad := Exc.invalidTss (selCode sel ||| ext)
  require (!selNull sel) bad
  let d ← s.fetchOr sel bad
  require (arWritable d.ar) bad
  require (decide (selRpl sel = s.cpl)) bad
  require (decide (arDpl d.ar = s.cpl)) bad
  require (arPresent d.ar) (.stackFault (selCode sel ||| ext))
  pure ((s.markAccessed d).setSeg .ss (d.toSeg sel))

/-- The incoming task's DS or ES: null is allowed, outside its table raises GeneralProtection as LoadDataSeg does, and the
violations of type and privilege raise InvalidTSS (60_exceptions.md R470 step 8; 20_memory.md R95, R102). -/
def State.switchData (s : State) (r : SReg) (ext : Word) : Res State :=
  let sel := (s.seg r).sel
  if selNull sel then .ok s
  else do
    let d ← s.fetchOr sel (.generalProtection (selCode sel ||| ext))
    checkDataDesc s.cpl sel d (.invalidTss (selCode sel ||| ext)) (.notPresent (selCode sel ||| ext))
    pure ((s.markAccessed d).setSeg r (d.toSeg sel))

/-- Steps 7 to 9 of the task switch, in the incoming task's context: each exception is raised in the state reached so far
(60_exceptions.md R470; log 26). -/
def State.enterTask (s : State) (ext : Word) : Res State := do
  let s ← inContext s (s.switchLdt ext)
  let s := { s with cpl := selRpl s.cs.sel }
  let s ← inContext s (s.switchCs ext)
  let s ← inContext s (s.switchSs ext)
  let s ← inContext s (s.switchData .ds ext)
  let s ← inContext s (s.switchData .es ext)
  inContext s (require (decide (s.ip.toNat ≤ s.cs.limit.toNat)) (.generalProtection ext))
  pure { s with queueEmpty := true }

/-- Steps 2 to 6 of the task switch to the task state segment with descriptor `d` (60_exceptions.md R470). A TR that names no
segment has no busy mark to clear: entry 0 of the GDT is never used (20_memory.md R101; log 42). -/
def State.leaveTask (s : State) (sel : Word) (d : Desc) (kind : SwitchKind) (returnIp : Word) : State :=
  let old := s.tr
  let image := if kind = .iret then { s.flags with nt := false } else s.flags
  let oldAr := s.gdtr.base.toNat + (old.sel &&& 0xFFF8).toNat + 5
  let s := s.saveTask old.base.toNat returnIp image
  let s := if kind.links || selNull old.sel then s else s.write8 oldAr (s.read8 oldAr &&& 0xFD)
  let s := if kind.links then s.write16 d.base.toNat old.sel else s
  let s := if kind = .iret then s else s.markBusy d
  let s := { s with
    tr := d.toSys sel
    msw := { s.msw with ts := true } }
  s.loadTask d.base.toNat kind.links

/-- `TaskSwitch(sel, kind)` (60_exceptions.md R470), `d` the descriptor the caller has checked, `ext` the EXT bit of its error
codes. -/
def State.taskSwitch (s : State) (sel : Word) (d : Desc) (kind : SwitchKind) (returnIp ext : Word) : Res State := do
  require (decide (43 ≤ d.limit.toNat)) (.invalidTss (selCode sel ||| ext))
  (s.leaveTask sel d kind returnIp).enterTask ext

/-- The descriptor of a task state segment that a selector names in the GDT, of the given type and present
(44_control_transfer.md R321; 60_exceptions.md R446, R448). A null selector names none: entry 0 of the GDT is never used
(20_memory.md R101; 10_state.md R42; log 45). -/
def State.tssDesc (s : State) (sel : Word) (type : BitVec 4) (bad absent : Exc) : Res Desc := do
  require (!selNull sel) bad
  require (!selLocal sel) bad
  let d ← s.fetchOr sel bad
  require (arControl d.ar type) bad
  require (arPresent d.ar) absent
  pure d

/-- The stack pointer and stack selector that the current task state segment gives for a level (60_exceptions.md R461). -/
def State.innerStack (s : State) (lvl : Level) (ext : Word) : Res (Word × Word) := do
  let o := 4 * lvl.toNat
  require (decide (4 + o + 1 ≤ s.tr.limit.toNat)) (.invalidTss (selCode s.tr.sel ||| ext))
  pure (s.read16 (s.tr.base.toNat + 2 + o), s.read16 (s.tr.base.toNat + 4 + o))

/-- The checks of an inner stack's selector (44_control_transfer.md R319; 60_exceptions.md R445; log 21). -/
def State.innerSs (s : State) (lvl : Level) (nss ext : Word) : Res Desc := do
  require (!selNull nss) (.invalidTss ext)
  let bad := Exc.invalidTss (selCode nss ||| ext)
  let d ← s.fetchOr nss bad
  require (decide (selRpl nss = lvl) && decide (arDpl d.ar = lvl) && arWritable d.ar) bad
  require (arPresent d.ar) (.stackFault (selCode nss ||| ext))
  pure d

/-- The state at another level, its stack selected and nothing pushed (44_control_transfer.md R319, R320; 60_exceptions.md
R445). -/
def State.switchStack (s : State) (lvl : Level) (nsp nss : Word) (d : Desc) : State :=
  let t := (s.markAccessed d).setSeg .ss (d.toSeg nss)
  { t with cpl := lvl, regs := { t.regs with sp := nsp } }

/-- Loads CS with a checked code descriptor and goes to `off` (44_control_transfer.md R318). -/
def State.enterCode (s : State) (sel : Word) (d : Desc) (off : Word) : State :=
  { (s.markAccessed d).setSeg .cs (d.toSeg sel) with ip := off, queueEmpty := true }

/-- A selector with its RPL replaced (44_control_transfer.md R318). -/
def withRpl (sel : Word) (lvl : Level) : Word := sel.extractLsb' 2 14 ++ lvl

end Sys2Proof.Machine
end

