-- ==== Sys2Proof/Machine/Transfers.lean ====
section
/-! DEFINITION. Far transfers: real and protected JMP and CALL, call gates, returns to the same and to an outer level
(44_control_transfer.md R294 to R301, R318 to R321). -/

namespace Sys2Proof.Machine

/-- Loads CS:IP in Real Address Mode (44_control_transfer.md R300). -/
def State.realFar (s : State) (sel off : Word) : State := { s with cs := realLoad sel, ip := off, queueEmpty := true }

/-- The `n` words from SP upward, lowest first (44_control_transfer.md R319). -/
def State.stackWords (s : State) : Nat → Res (List Word)
  | 0 => .ok []
  | n + 1 =>
    match s.stackWords n, s.stackWord n with
    | .ok ws, .ok w => .ok (ws ++ [w])
    | .error r, _ => .error r
    | .ok _, .error r => .error r

/-- There is room for `n` words below SS:SP, each checked as its push would be (44_control_transfer.md R318, R319). -/
def State.roomFor (s : State) (code : Word) : Nat → Res Unit
  | 0 => .ok ()
  | n + 1 =>
    match s.roomFor code n with
    | .ok () => s.check .ss (s.regs.sp - BitVec.ofNat 16 (2 * (n + 1))).toNat 2 true code
    | .error r => .error r

/-- A call through a gate to a more privileged level (44_control_transfer.md R319). -/
def State.callInner (s : State) (g t : Desc) : Res State := do
  let lvl := arDpl t.ar
  let (nsp, nss) ← s.innerStack lvl 0
  let d ← s.innerSs lvl nss 0
  let inner := s.switchStack lvl nsp nss d
  inner.roomFor 0 (4 + g.gateCount)
  let params ← s.stackWords g.gateCount
  let inner ← inner.pushAll 0 ([s.ss.sel, s.regs.sp] ++ params.reverse ++ [s.cs.sel, s.ipNext])
  pure (inner.enterCode (withRpl g.gateSel lvl) t g.gateOffset)

/-- A transfer through a call gate `g` (44_control_transfer.md R319). -/
def State.gateTransfer (s : State) (sel : Word) (g : Desc) (call : Bool) : Res State := do
  require (decide (lvlMax s.cpl (selRpl sel) ≤ arDpl g.ar)) (.generalProtection (selCode sel))
  require (arPresent g.ar) (.notPresent (selCode sel))
  let tsel := g.gateSel
  let tec := selCode tsel
  require (!selNull tsel) (.generalProtection 0)
  let t ← s.fetchOr tsel (.generalProtection tec)
  require (arCode t.ar && decide (arDpl t.ar ≤ s.cpl)) (.generalProtection tec)
  require (arPresent t.ar) (.notPresent tec)
  require (decide (g.gateOffset.toNat ≤ t.limit.toNat)) (.generalProtection 0)
  if call && !arConforming t.ar && decide (arDpl t.ar < s.cpl) then s.callInner g t
  else do
    require (call || arConforming t.ar || decide (arDpl t.ar = s.cpl)) (.generalProtection tec)
    let s1 ← if call then s.pushAll 0 [s.cs.sel, s.ipNext] else pure s
    pure (s1.enterCode (withRpl tsel s.cpl) t g.gateOffset)

/-- A far pointer that names a task state segment or a task gate (44_control_transfer.md R321; log 22). -/
def State.taskTransfer (s : State) (sel : Word) (d : Desc) (call : Bool) : Res State := do
  let kind := if call then SwitchKind.call else SwitchKind.jmp
  require (decide (lvlMax s.cpl (selRpl sel) ≤ arDpl d.ar)) (.generalProtection (selCode sel))
  require (arPresent d.ar) (.notPresent (selCode sel))
  if arControl d.ar 5 then do
    let tss := d.gateSel
    let t ← s.tssDesc tss 1 (.generalProtection (selCode tss)) (.notPresent (selCode tss))
    s.taskSwitch tss t kind s.ipNext 0
  else do
    require (!selLocal sel) (.generalProtection (selCode sel))
    s.taskSwitch sel d kind s.ipNext 0

/-- A direct transfer to a code segment (44_control_transfer.md R318). -/
def State.codeTransfer (s : State) (sel off : Word) (d : Desc) (call : Bool) : Res State := do
  let ec := selCode sel
  require (if arConforming d.ar then decide (arDpl d.ar ≤ s.cpl)
      else decide (selRpl sel ≤ s.cpl) && decide (arDpl d.ar = s.cpl)) (.generalProtection ec)
  require (arPresent d.ar) (.notPresent ec)
  require (decide (off.toNat ≤ d.limit.toNat)) (.generalProtection 0)
  let s1 ← if call then s.pushAll 0 [s.cs.sel, s.ipNext] else pure s
  pure (s1.enterCode (withRpl sel s.cpl) d off)

/-- `FarTransfer(sel, off, kind)` in Protected Mode (44_control_transfer.md R318). -/
def State.farTransfer (s : State) (sel off : Word) (call : Bool) : Res State := do
  let ec := selCode sel
  require (!selNull sel) (.generalProtection 0)
  let d ← s.fetchOr sel (.generalProtection ec)
  if arCode d.ar then s.codeTransfer sel off d call
  else if arControl d.ar 4 then s.gateTransfer sel d call
  else if arControl d.ar 5 || arControl d.ar 1 then s.taskTransfer sel d call
  else raise (.generalProtection ec)

/-- Far JMP in either mode (44_control_transfer.md R300). -/
def State.farJump (s : State) (sel off : Word) : Res State :=
  if s.msw.pe then s.farTransfer sel off false else .ok (s.realFar sel off)

/-- Far CALL in either mode (44_control_transfer.md R294). -/
def State.farCall (s : State) (sel off : Word) : Res State :=
  if s.msw.pe then s.farTransfer sel off true
  else do
    let t ← s.pushAll 0 [s.cs.sel, s.ipNext]
    pure (t.realFar sel off)

/-- A return to the same level: `size` bytes leave the stack (44_control_transfer.md R297; 60_exceptions.md R447). -/
def State.returnSame (s : State) (rsel off size : Word) : Res State := do
  let rc := selCode rsel
  require (!selNull rsel) (.generalProtection 0)
  let d ← s.fetchOr rsel (.generalProtection rc)
  require (arCode d.ar) (.generalProtection rc)
  require (if arConforming d.ar then decide (arDpl d.ar ≤ s.cpl) else decide (arDpl d.ar = s.cpl))
    (.generalProtection rc)
  require (arPresent d.ar) (.notPresent rc)
  require (decide (off.toNat ≤ d.limit.toNat)) (.generalProtection 0)
  let t := s.enterCode rsel d off
  pure { t with regs := { t.regs with sp := t.regs.sp + size } }

/-- DS or ES after a return to an outer level: a segment the new level may not use is dropped (44_control_transfer.md
R320). -/
def dropInner (cpl : Level) (g : SegReg) : SegReg :=
  if g.valid && !arConforming g.ar && decide (arDpl g.ar < cpl) then { g with sel := 0, valid := false } else g

/-- A return to an outer level: `n` bytes stand between CS and the outer SP, `release` are released there
(44_control_transfer.md R320; log 37). -/
def State.returnOuter (s : State) (rsel off n release : Word) : Res State := do
  let rc := selCode rsel
  let sp := s.regs.sp.toNat
  s.check .ss sp (8 + n.toNat) false 0
  require (!selNull rsel) (.generalProtection 0)
  let d ← s.fetchOr rsel (.generalProtection rc)
  require (arCode d.ar) (.generalProtection rc)
  require (if arConforming d.ar then decide (arDpl d.ar ≤ selRpl rsel) else decide (arDpl d.ar = selRpl rsel))
    (.generalProtection rc)
  require (arPresent d.ar) (.notPresent rc)
  require (decide (off.toNat ≤ d.limit.toNat)) (.generalProtection 0)
  let nsp := s.read16 (s.linear .ss (sp + 4 + n.toNat))
  let nss := s.read16 (s.linear .ss (sp + 6 + n.toNat))
  require (!selNull nss) (.generalProtection 0)
  let d2 ← s.fetchOr nss (.generalProtection (selCode nss))
  require (decide (selRpl nss = selRpl rsel) && decide (arDpl d2.ar = selRpl rsel) && arWritable d2.ar)
    (.generalProtection (selCode nss))
  require (arPresent d2.ar) (.stackFault (selCode nss))
  let t := (s.enterCode rsel d off).switchStack (selRpl rsel) (nsp + release) nss d2
  pure { t with ds := dropInner t.cpl t.ds, es := dropInner t.cpl t.es }

/-- RETF: `imm` bytes of parameters are released (44_control_transfer.md R297). -/
def State.farReturn (s : State) (imm : Word) : Res State := do
  let off ← s.stackWord 0
  let sel ← s.stackWord 1
  if s.msw.pe then
    if selRpl sel < s.cpl then raise (.generalProtection (selCode sel))
    else if selRpl sel = s.cpl then s.returnSame sel off (4 + imm)
    else s.returnOuter sel off imm imm
  else
    let t := s.realFar sel off
    pure { t with regs := { t.regs with sp := t.regs.sp + 4 + imm } }

end Sys2Proof.Machine
end

