-- ==== Sys2Proof/Machine/Ops.lean ====
section
/-! DEFINITION. Taking an interrupt or exception and returning from one (60_exceptions.md R435, R436, R440 to R448), and how a
meaning becomes the outcome of a step. -/

namespace Sys2Proof.Machine

/-- Nothing of the interrupted instruction is left over: `halted <- false`, no shadow, no pending trap, no prefix read, no
repetition in progress (60_exceptions.md R440, R452; 43_string.md R279). That a shadow which covers the boundary, or the instruction
that faults, ends with the entry is the model's choice, log 47. -/
def State.interrupted (s : State) : State :=
  { s with
    halted := false, shutdown := false, shadow := .none, trapPending := false, pfx := noPrefixes, again := none
    queueEmpty := true }

/-- `TF <- 0`, and IF and NT as the entry says (60_exceptions.md R441). -/
def entryFlags (f : Flags) (clearIf clearNt : Bool) : Flags :=
  { f with tf := false, ifl := f.ifl && !clearIf, nt := f.nt && !clearNt }

/-- Real Address Mode entry (60_exceptions.md R442). -/
def State.enterReal (s : State) (n : Byte) (returnIp : Word) : Res State := do
  require (decide (4 * n.toNat + 3 ≤ s.idtr.limit.toNat)) .doubleFault
  let a := s.idtr.base.toNat + 4 * n.toNat
  let t ← s.pushAll 0 [flagsWord s.flags, s.cs.sel, returnIp]
  pure { t.realFar (t.read16 (a + 2)) (t.read16 a) with flags := entryFlags s.flags true false }

/-- The words an entry pushes after the old stack, if any: FLAGS, CS, return IP and the error code
(60_exceptions.md R444, R445). -/
def frameWords (s : State) (returnIp : Word) (ec : Option Word) : List Word :=
  [flagsWord s.flags, s.cs.sel, returnIp] ++ ec.toList

/-- Entry at the same level (60_exceptions.md R444). -/
def State.enterSame (s : State) (g t : Desc) (returnIp : Word) (ec : Option Word) (ext : Word) : Res State := do
  let s1 ← s.pushAll ext (frameWords s returnIp ec)
  require (decide (g.gateOffset.toNat ≤ t.limit.toNat)) (.generalProtection ext)
  pure { s1.enterCode (withRpl g.gateSel s.cpl) t g.gateOffset with
    flags := entryFlags s.flags (arControl g.ar 6) true }

/-- Entry to a more privileged level (60_exceptions.md R445). -/
def State.enterInner (s : State) (g t : Desc) (returnIp : Word) (ec : Option Word) (ext : Word) : Res State := do
  let lvl := arDpl t.ar
  let (nsp, nss) ← s.innerStack lvl ext
  let d ← s.innerSs lvl nss ext
  let s1 ← (s.switchStack lvl nsp nss d).pushAll ext ([s.ss.sel, s.regs.sp] ++ frameWords s returnIp ec)
  require (decide (g.gateOffset.toNat ≤ t.limit.toNat)) (.generalProtection ext)
  pure { s1.enterCode (withRpl g.gateSel lvl) t g.gateOffset with
    flags := entryFlags s.flags (arControl g.ar 6) true }

/-- Entry through a task gate; the error code goes on the new task's stack (60_exceptions.md R446). -/
def State.enterTaskGate (s : State) (g : Desc) (returnIp : Word) (ec : Option Word) (ext : Word) : Res State := do
  let tss := g.gateSel
  let d ← s.tssDesc tss 1 (.generalProtection (selCode tss ||| ext)) (.notPresent (selCode tss ||| ext))
  let t ← s.taskSwitch tss d .nested returnIp ext
  inContext t (t.pushAll ext ec.toList)

/-- Protected Mode entry (60_exceptions.md R443). `soft` is an INT instruction, whose EXT is 0 (R450; log 23). -/
def State.enterProtected (s : State) (n : Byte) (soft : Bool) (returnIp : Word) (ec : Option Word) : Res State := do
  let ext : Word := if soft then 0 else 1
  let slot : Word := BitVec.ofNat 16 (8 * n.toNat + 2)
  require (decide (8 * n.toNat + 7 ≤ s.idtr.limit.toNat)) (.generalProtection (slot ||| ext))
  let g := s.descAt (s.idtr.base.toNat + 8 * n.toNat)
  require (arControl g.ar 5 || arControl g.ar 6 || arControl g.ar 7) (.generalProtection (slot ||| ext))
  require (!soft || decide (s.cpl ≤ arDpl g.ar)) (.generalProtection slot)
  require (arPresent g.ar) (.notPresent (slot ||| ext))
  if arControl g.ar 5 then s.enterTaskGate g returnIp ec ext
  else do
    let tsel := g.gateSel
    let tec := selCode tsel ||| ext
    require (!selNull tsel) (.generalProtection ext)
    let t ← s.fetchOr tsel (.generalProtection tec)
    require (arCode t.ar && decide (arDpl t.ar ≤ s.cpl)) (.generalProtection tec)
    require (arPresent t.ar) (.notPresent tec)
    if !arConforming t.ar && decide (arDpl t.ar < s.cpl) then s.enterInner g t returnIp ec ext
    else s.enterSame g t returnIp ec ext

/-- `InterruptSequence(n, kind, return_ip, ec)`: the one mechanism for all events (60_exceptions.md R440). No error code is
pushed in Real Address Mode (R425). -/
def State.interrupt (s : State) (n : Byte) (soft : Bool) (returnIp : Word) (ec : Option Word) : Res State := do
  let t ← if s.msw.pe then s.enterProtected n soft returnIp ec else s.enterReal n returnIp
  pure t.interrupted

/-- The sequence for an exception: the saved IP is that of the failing instruction (60_exceptions.md R424). -/
def State.enterExc (s : State) (e : Exc) : Res State := s.interrupt e.vector false s.ip e.code

/-- Shutdown: as halted, and only NMI or RESET ends it (60_exceptions.md R436). -/
def State.shutDown (s : State) : State := { s.interrupted with shutdown := true }

/-- Delivers DoubleFault; a further exception is shutdown (60_exceptions.md R435, R436). -/
def State.doubleFault (s : State) : State :=
  match s.enterExc .doubleFault with
  | .ok t => t
  | .error r => (r.context.getD s).shutDown

/-- Delivers a second exception, raised while one that does not escalate was delivered (60_exceptions.md R435). -/
def State.deliverSecond (s : State) (e : Exc) : State :=
  match s.enterExc e with
  | .ok t => t
  | .error r => (r.context.getD s).doubleFault

/-- TAKING AN EXCEPTION: the state at the first instruction of its handler. One raised while it is delivered is a double
fault where the first is 0 or 10 to 13, and else is delivered as itself (60_exceptions.md R435, R440; log 29). -/
def State.deliver (s : State) (r : Raise) : State :=
  let s1 := r.context.getD s
  if r.exc = .doubleFault then s1.doubleFault
  else
    match s1.enterExc r.exc with
    | .ok t => t
    | .error r2 =>
      let s2 := r2.context.getD s1
      if r.exc.contributory || decide (r2.exc = .doubleFault) then s2.doubleFault else s2.deliverSecond r2.exc

/-- `InterruptSequence` for an event between instructions, with the exceptions of its delivery (60_exceptions.md R422,
R435). -/
def State.takeEvent (s : State) (n : Byte) : State :=
  match s.interrupt n false s.ip none with
  | .ok t => t
  | .error r => s.deliver r

/-- IRET to the same level or outward, NT = 0 (60_exceptions.md R447). -/
def State.returnTask (s : State) : Res State := do
  let off ← s.stackWord 0
  let rsel ← s.stackWord 1
  let f ← s.stackWord 2
  require (!selNull rsel) (.generalProtection 0)
  let t ← if selRpl rsel < s.cpl then raise (.generalProtection (selCode rsel))
    else if selRpl rsel = s.cpl then s.returnSame rsel off 6
    else s.returnOuter rsel off 2 0
  pure { t with flags := loadFlags true s.cpl s.flags f }

/-- IRET with NT = 1: the task that the back link names (60_exceptions.md R448). -/
def State.returnLinked (s : State) : Res State := do
  let link := s.read16 s.tr.base.toNat
  let d ← s.tssDesc link 3 (.invalidTss (selCode link)) (.notPresent (selCode link))
  s.taskSwitch link d .iret s.ipNext 0

/-- IRET in Real Address Mode (44_control_transfer.md R309). -/
def State.returnReal (s : State) : Res State := do
  let off ← s.stackWord 0
  let sel ← s.stackWord 1
  let f ← s.stackWord 2
  let t := s.realFar sel off
  pure { t with regs := { t.regs with sp := t.regs.sp + 6 }, flags := loadFlags false s.cpl s.flags f }

/-- RETURNING FROM AN INTERRUPT OR EXCEPTION; an NMI is no longer in service (44_control_transfer.md R309; 60_exceptions.md
R447, R448, R453; log 43). -/
def State.interruptReturn (s : State) : Res State := do
  let t ← if !s.msw.pe then s.returnReal else if s.flags.nt then s.returnLinked else s.returnTask
  pure { t with nmiInService := false }

/-- The state an instruction's operation runs on: the boundary before it is passed, with its shadow and its trap
(60_exceptions.md R452, R432). Where the instruction is not completed by this step its shadow is put back (`State.between`,
`State.idle`). -/
def State.begin (s : State) : State := { s with shadow := .none, trapPending := false }

/-- The state after a completed instruction: no prefix is left and no repetition, and a trap is due where TF was 1 at its start and no shadow
holds it off (60_exceptions.md R432, R452; log 25). -/
def State.completed (s t : State) : State :=
  { t with pfx := noPrefixes, again := none, trapPending := s.flags.tf && decide (t.shadow = .none) }

/-- The outcome of an instruction that started in `s`: completed, or its exception taken. -/
def settle (s : State) (m : Res State) : Host.Outcome State Fault Refusal :=
  match m with
  | .ok t => .next (s.completed t)
  | .error r => .next (s.begin.deliver r)

/-- An instruction that sets IP itself. A repeat prefix before it is refused (30_encoding.md R142; log 13). -/
def transfer (s : State) (f : State → Res State) : Host.Outcome State Fault Refusal :=
  if s.pfx.rep.isSome then .refused .repeatOfNonString else settle s (f s.begin)

/-- An instruction after which execution goes on at `ip_next` (40_data_transfer.md R160). -/
def plain (s : State) (f : State → Res State) : Host.Outcome State Fault Refusal :=
  transfer s fun t => do
    let u ← f t
    pure u.advance

/-- CMPS and SCAS, which alone end on ZF and alone take F2 (43_string.md R278). -/
def StringOp.compares : StringOp → Bool
  | .cmpsb | .cmpsw | .scasb | .scasw => true
  | .movsb | .movsw | .lodsb | .lodsw | .stosb | .stosw | .insb | .insw | .outsb | .outsw => false

/-- The state between two elements of a repeated string instruction that started its element in `s`: IP is at the first prefix
and the prefixes still apply; a single-step trap is due where TF is 1 (43_string.md R279). The instruction has not completed, so
a shadow that STI, MOV SS or POP SS opened before it lasts on, and no event that it holds off is taken here: 46_processor_control.md
R356 and 60_exceptions.md R452 over 43_string.md R279, the model's choice, log 27. -/
def State.between (s t : State) (op : StringOp) : State :=
  { t with
    pfx := s.pfx, again := some op, shadow := s.shadow, trapPending := s.flags.tf && decide (s.shadow = .none) }

/-- Whether the repetition is done after an element: CX is 0, or a comparison went against the prefix (43_string.md R278). -/
def repeatDone (p : Rep) (compares : Bool) (t : State) : Bool :=
  decide (t.regs.cx = 0) || (compares && (t.flags.zf != decide (p = .rep)))

/-- One turn of the loop of a repeated string instruction: with CX = 0 it is completed, else one element is done and it is
completed or goes on (43_string.md R278, R279; log 33). -/
def repeatTurn (s : State) (op : StringOp) (p : Rep) (f : State → Res State) : Res State :=
  if s.regs.cx = 0 then .ok (s.completed s.begin.advance)
  else do
    let u ← f s.begin
    let v := { u with regs := { u.regs with cx := u.regs.cx - 1 } }
    pure (if repeatDone p op.compares v then s.completed v.advance else s.between v op)

/-- A string instruction, its element `f`; F2 before one that does not compare is refused (43_string.md R278; log 13). -/
def stringInstr (s : State) (op : StringOp) (f : State → Res State) : Host.Outcome State Fault Refusal :=
  match s.pfx.rep with
  | none => plain s f
  | some p =>
    if decide (p = .repne) && !op.compares then .refused .repneOfNonCompare
    else
      match repeatTurn s op p f with
      | .ok t => .next t
      | .error r => .next (s.begin.deliver r)

end Sys2Proof.Machine
end

