-- ==== Sys2Proof/Machine/Operands.lean ====
section
/-! DEFINITION. Operand forms: effective addresses and segments (30_encoding.md R130, R131), register-or-memory operands
(40_data_transfer.md R160), and the shapes of reading, computing and writing that instructions share. -/

namespace Sys2Proof.Machine

/-- The sum of base registers (30_encoding.md R130). -/
def State.baseSum (s : State) (b : Base) : Word :=
  match b with
  | .bxsi => s.regs.bx + s.regs.si
  | .bxdi => s.regs.bx + s.regs.di
  | .bpsi => s.regs.bp + s.regs.si
  | .bpdi => s.regs.bp + s.regs.di
  | .si => s.regs.si
  | .di => s.regs.di
  | .bp => s.regs.bp
  | .bx => s.regs.bx

/-- The effective address (30_encoding.md R130). -/
def State.ea (s : State) (m : Mem) : Word :=
  match m with
  | .base b => s.baseSum b
  | .direct d => d
  | .disp8 b d => s.baseSum b + d.signExtend 16
  | .disp16 b d => s.baseSum b + d

/-- The default segment of a base form (30_encoding.md R130). -/
def baseSegment : Base → SReg
  | .bpsi | .bpdi | .bp => .ss
  | .bxsi | .bxdi | .si | .di | .bx => .ds

/-- The default segment of a memory operand (30_encoding.md R130). -/
def memSegment : Mem → SReg
  | .base b => baseSegment b
  | .direct _ => .ds
  | .disp8 b _ => baseSegment b
  | .disp16 b _ => baseSegment b

/-- The segment an access uses: the override if there is one (30_encoding.md R131). -/
def State.segOr (s : State) (dflt : SReg) : SReg := s.pfx.seg.getD dflt

/-- The segment of a memory operand (30_encoding.md R131). -/
def State.segOf (s : State) (m : Mem) : SReg := s.segOr (memSegment m)

/-- `ReadRM_8()` (40_data_transfer.md R160). -/
def State.readRm8 (s : State) (rm : RM8) : Res Byte :=
  match rm with
  | .reg r => .ok (s.reg8 r)
  | .mem m => s.lread8 (s.segOf m) (s.ea m)

/-- `ReadRM_16()` (40_data_transfer.md R160). -/
def State.readRm16 (s : State) (rm : RM16) : Res Word :=
  match rm with
  | .reg r => .ok (s.reg16 r)
  | .mem m => s.lread16 (s.segOf m) (s.ea m)

/-- `WriteRM_8(v)` (40_data_transfer.md R160). -/
def State.writeRm8 (s : State) (rm : RM8) (v : Byte) : Res State :=
  match rm with
  | .reg r => .ok (s.setReg8 r v)
  | .mem m => s.lwrite8 (s.segOf m) (s.ea m) v

/-- `WriteRM_16(v)` (40_data_transfer.md R160). -/
def State.writeRm16 (s : State) (rm : RM16) (v : Word) : Res State :=
  match rm with
  | .reg r => .ok (s.setReg16 r v)
  | .mem m => s.lwrite16 (s.segOf m) (s.ea m) v

/-- The write check of a byte operand, nothing written (42_logic_shift_rotate.md R246). -/
def State.checkRm8 (s : State) (rm : RM8) : Res Unit :=
  match rm with
  | .reg _ => .ok ()
  | .mem m => s.check (s.segOf m) (s.ea m).toNat 1 true 0

/-- The write check of a word operand, nothing written (42_logic_shift_rotate.md R246; 47_protected_mode.md R391). -/
def State.checkRm16 (s : State) (rm : RM16) : Res Unit :=
  match rm with
  | .reg _ => .ok ()
  | .mem m => s.check (s.segOf m) (s.ea m).toNat 2 true 0

/-- `dest <- op dest` with its flags, a byte operand. -/
def State.updRm8 (s : State) (rm : RM8) (op : Byte → Byte × Flags) : Res State := do
  let a ← s.readRm8 rm
  let t ← s.writeRm8 rm (op a).1
  pure { t with flags := (op a).2 }

/-- `dest <- op dest` with its flags, a word operand. -/
def State.updRm16 (s : State) (rm : RM16) (op : Word → Word × Flags) : Res State := do
  let a ← s.readRm16 rm
  let t ← s.writeRm16 rm (op a).1
  pure { t with flags := (op a).2 }

/-- `reg <- op reg (r/m)` with its flags, bytes. -/
def State.updReg8 (s : State) (r : Reg8) (rm : RM8) (op : Byte → Byte → Byte × Flags) : Res State := do
  let b ← s.readRm8 rm
  s.updRm8 (.reg r) fun a => op a b

/-- `reg <- op reg (r/m)` with its flags, words. -/
def State.updReg16 (s : State) (r : Reg16) (rm : RM16) (op : Word → Word → Word × Flags) : Res State := do
  let b ← s.readRm16 rm
  s.updRm16 (.reg r) fun a => op a b

/-- Only the flags of `op dest` are written: CMP and TEST, bytes. -/
def State.flagsRm8 (s : State) (rm : RM8) (op : Byte → Byte × Flags) : Res State := do
  let a ← s.readRm8 rm
  pure { s with flags := (op a).2 }

/-- Only the flags of `op dest` are written: CMP and TEST, words. -/
def State.flagsRm16 (s : State) (rm : RM16) (op : Word → Word × Flags) : Res State := do
  let a ← s.readRm16 rm
  pure { s with flags := (op a).2 }

/-- A shift or rotate of a byte operand by the low five bits of the count; a count of 0 changes nothing
(42_logic_shift_rotate.md R246). -/
def State.shiftRm8 (s : State) (rm : RM8) (count : Byte) (op : Byte → Nat → Byte × Flags) : Res State := do
  let a ← s.readRm8 rm
  s.checkRm8 rm
  if count.toNat % 32 = 0 then pure s else s.updRm8 rm fun _ => op a (count.toNat % 32)

/-- A shift or rotate of a word operand (42_logic_shift_rotate.md R246). -/
def State.shiftRm16 (s : State) (rm : RM16) (count : Byte) (op : Word → Nat → Word × Flags) : Res State := do
  let a ← s.readRm16 rm
  s.checkRm16 rm
  if count.toNat % 32 = 0 then pure s else s.updRm16 rm fun _ => op a (count.toNat % 32)

/-- A far pointer in memory: offset, then selector (30_encoding.md R134; log 28). -/
def State.readPointer (s : State) (m : Mem) : Res (Word × Word) := do
  let off := (s.ea m).toNat
  s.check (s.segOf m) off 4 false 0
  pure (s.read16 (s.linear (s.segOf m) off), s.read16 (s.linear (s.segOf m) (off + 2)))

/-- The target of a short relative transfer (30_encoding.md R133). -/
def State.rel8 (s : State) (rel : Byte) : Word := s.ipNext + rel.signExtend 16

/-- The target of a near relative transfer (30_encoding.md R133). -/
def State.rel16 (s : State) (rel : Word) : Word := s.ipNext + rel

/-- A short transfer if `cond`, else the next instruction (44_control_transfer.md R291). -/
def State.branch (s : State) (cond : Bool) (rel : Byte) : Res State :=
  if cond then s.jumpNear (s.rel8 rel) else .ok s.advance

/-- The step of a string pointer of n bytes by DF (43_string.md R270). -/
def State.delta (s : State) (n : Nat) : Word := if s.flags.df then -BitVec.ofNat 16 n else BitVec.ofNat 16 n

/-- SI after an element of n bytes (43_string.md R270). -/
def State.stepSi (s : State) (n : Nat) : State := { s with regs := { s.regs with si := s.regs.si + s.delta n } }

/-- DI after an element of n bytes (43_string.md R270). -/
def State.stepDi (s : State) (n : Nat) : State := { s with regs := { s.regs with di := s.regs.di + s.delta n } }

end Sys2Proof.Machine
end

