-- ==== Sys2Proof/Machine/Arithmetic.lean ====
section
/-! DEFINITION. ADD, ADC, SUB, SBB, CMP, INC, DEC, NEG (41_arithmetic.md R200 to R210). -/

namespace Sys2Proof.Machine

/-- ADD r/m8, r8 (41_arithmetic.md R201). -/
def execAddRm8R8 (rm : RM8) (r : Reg8) (s : State) : Host.Outcome State Fault Refusal :=
  plain s fun s => s.updRm8 rm fun a => addOp s a (s.reg8 r)

/-- ADD r/m16, r16 (41_arithmetic.md R201). -/
def execAddRm16R16 (rm : RM16) (r : Reg16) (s : State) : Host.Outcome State Fault Refusal :=
  plain s fun s => s.updRm16 rm fun a => addOp s a (s.reg16 r)

/-- ADD r8, r/m8 (41_arithmetic.md R201). -/
def execAddR8Rm8 (r : Reg8) (rm : RM8) (s : State) : Host.Outcome State Fault Refusal :=
  plain s fun s => s.updReg8 r rm (addOp s)

/-- ADD r16, r/m16 (41_arithmetic.md R201). -/
def execAddR16Rm16 (r : Reg16) (rm : RM16) (s : State) : Host.Outcome State Fault Refusal :=
  plain s fun s => s.updReg16 r rm (addOp s)

/-- ADD AL, imm8 (41_arithmetic.md R201). -/
def execAddAlImm8 (imm : Byte) (s : State) : Host.Outcome State Fault Refusal :=
  plain s fun s => s.updRm8 (.reg .al) fun a => addOp s a imm

/-- ADD AX, imm16 (41_arithmetic.md R201). -/
def execAddAxImm16 (imm : Word) (s : State) : Host.Outcome State Fault Refusal :=
  plain s fun s => s.updRm16 (.reg .ax) fun a => addOp s a imm

/-- ADD r/m8, imm8 (41_arithmetic.md R201). -/
def execAddRm8Imm8 (rm : RM8) (imm : Byte) (s : State) : Host.Outcome State Fault Refusal :=
  plain s fun s => s.updRm8 rm fun a => addOp s a imm

/-- ADD r/m16, imm16 (41_arithmetic.md R201). -/
def execAddRm16Imm16 (rm : RM16) (imm : Word) (s : State) : Host.Outcome State Fault Refusal :=
  plain s fun s => s.updRm16 rm fun a => addOp s a imm

/-- ADD r/m8, imm8 (duplicate of opcode 80) (41_arithmetic.md R201). -/
def execAddRm8Imm8Dup (rm : RM8) (imm : Byte) (s : State) : Host.Outcome State Fault Refusal :=
  plain s fun s => s.updRm8 rm fun a => addOp s a imm

/-- ADD r/m16, imm8 (sign-extended) (41_arithmetic.md R201). -/
def execAddRm16Imm8 (rm : RM16) (imm : Byte) (s : State) : Host.Outcome State Fault Refusal :=
  plain s fun s => s.updRm16 rm fun a => addOp s a (imm.signExtend 16)

/-- ADC r/m8, r8 (41_arithmetic.md R202). -/
def execAdcRm8R8 (rm : RM8) (r : Reg8) (s : State) : Host.Outcome State Fault Refusal :=
  plain s fun s => s.updRm8 rm fun a => adcOp s a (s.reg8 r)

/-- ADC r/m16, r16 (41_arithmetic.md R202). -/
def execAdcRm16R16 (rm : RM16) (r : Reg16) (s : State) : Host.Outcome State Fault Refusal :=
  plain s fun s => s.updRm16 rm fun a => adcOp s a (s.reg16 r)

/-- ADC r8, r/m8 (41_arithmetic.md R202). -/
def execAdcR8Rm8 (r : Reg8) (rm : RM8) (s : State) : Host.Outcome State Fault Refusal :=
  plain s fun s => s.updReg8 r rm (adcOp s)

/-- ADC r16, r/m16 (41_arithmetic.md R202). -/
def execAdcR16Rm16 (r : Reg16) (rm : RM16) (s : State) : Host.Outcome State Fault Refusal :=
  plain s fun s => s.updReg16 r rm (adcOp s)

/-- ADC AL, imm8 (41_arithmetic.md R202). -/
def execAdcAlImm8 (imm : Byte) (s : State) : Host.Outcome State Fault Refusal :=
  plain s fun s => s.updRm8 (.reg .al) fun a => adcOp s a imm

/-- ADC AX, imm16 (41_arithmetic.md R202). -/
def execAdcAxImm16 (imm : Word) (s : State) : Host.Outcome State Fault Refusal :=
  plain s fun s => s.updRm16 (.reg .ax) fun a => adcOp s a imm

/-- ADC r/m8, imm8 (41_arithmetic.md R202). -/
def execAdcRm8Imm8 (rm : RM8) (imm : Byte) (s : State) : Host.Outcome State Fault Refusal :=
  plain s fun s => s.updRm8 rm fun a => adcOp s a imm

/-- ADC r/m16, imm16 (41_arithmetic.md R202). -/
def execAdcRm16Imm16 (rm : RM16) (imm : Word) (s : State) : Host.Outcome State Fault Refusal :=
  plain s fun s => s.updRm16 rm fun a => adcOp s a imm

/-- ADC r/m8, imm8 (duplicate of opcode 80) (41_arithmetic.md R202). -/
def execAdcRm8Imm8Dup (rm : RM8) (imm : Byte) (s : State) : Host.Outcome State Fault Refusal :=
  plain s fun s => s.updRm8 rm fun a => adcOp s a imm

/-- ADC r/m16, imm8 (sign-extended) (41_arithmetic.md R202). -/
def execAdcRm16Imm8 (rm : RM16) (imm : Byte) (s : State) : Host.Outcome State Fault Refusal :=
  plain s fun s => s.updRm16 rm fun a => adcOp s a (imm.signExtend 16)

/-- SUB r/m8, r8 (41_arithmetic.md R206). -/
def execSubRm8R8 (rm : RM8) (r : Reg8) (s : State) : Host.Outcome State Fault Refusal :=
  plain s fun s => s.updRm8 rm fun a => subOp s a (s.reg8 r)

/-- SUB r/m16, r16 (41_arithmetic.md R206). -/
def execSubRm16R16 (rm : RM16) (r : Reg16) (s : State) : Host.Outcome State Fault Refusal :=
  plain s fun s => s.updRm16 rm fun a => subOp s a (s.reg16 r)

/-- SUB r8, r/m8 (41_arithmetic.md R206). -/
def execSubR8Rm8 (r : Reg8) (rm : RM8) (s : State) : Host.Outcome State Fault Refusal :=
  plain s fun s => s.updReg8 r rm (subOp s)

/-- SUB r16, r/m16 (41_arithmetic.md R206). -/
def execSubR16Rm16 (r : Reg16) (rm : RM16) (s : State) : Host.Outcome State Fault Refusal :=
  plain s fun s => s.updReg16 r rm (subOp s)

/-- SUB AL, imm8 (41_arithmetic.md R206). -/
def execSubAlImm8 (imm : Byte) (s : State) : Host.Outcome State Fault Refusal :=
  plain s fun s => s.updRm8 (.reg .al) fun a => subOp s a imm

/-- SUB AX, imm16 (41_arithmetic.md R206). -/
def execSubAxImm16 (imm : Word) (s : State) : Host.Outcome State Fault Refusal :=
  plain s fun s => s.updRm16 (.reg .ax) fun a => subOp s a imm

/-- SUB r/m8, imm8 (41_arithmetic.md R206). -/
def execSubRm8Imm8 (rm : RM8) (imm : Byte) (s : State) : Host.Outcome State Fault Refusal :=
  plain s fun s => s.updRm8 rm fun a => subOp s a imm

/-- SUB r/m16, imm16 (41_arithmetic.md R206). -/
def execSubRm16Imm16 (rm : RM16) (imm : Word) (s : State) : Host.Outcome State Fault Refusal :=
  plain s fun s => s.updRm16 rm fun a => subOp s a imm

/-- SUB r/m8, imm8 (duplicate of opcode 80) (41_arithmetic.md R206). -/
def execSubRm8Imm8Dup (rm : RM8) (imm : Byte) (s : State) : Host.Outcome State Fault Refusal :=
  plain s fun s => s.updRm8 rm fun a => subOp s a imm

/-- SUB r/m16, imm8 (sign-extended) (41_arithmetic.md R206). -/
def execSubRm16Imm8 (rm : RM16) (imm : Byte) (s : State) : Host.Outcome State Fault Refusal :=
  plain s fun s => s.updRm16 rm fun a => subOp s a (imm.signExtend 16)

/-- SBB r/m8, r8 (41_arithmetic.md R207). -/
def execSbbRm8R8 (rm : RM8) (r : Reg8) (s : State) : Host.Outcome State Fault Refusal :=
  plain s fun s => s.updRm8 rm fun a => sbbOp s a (s.reg8 r)

/-- SBB r/m16, r16 (41_arithmetic.md R207). -/
def execSbbRm16R16 (rm : RM16) (r : Reg16) (s : State) : Host.Outcome State Fault Refusal :=
  plain s fun s => s.updRm16 rm fun a => sbbOp s a (s.reg16 r)

/-- SBB r8, r/m8 (41_arithmetic.md R207). -/
def execSbbR8Rm8 (r : Reg8) (rm : RM8) (s : State) : Host.Outcome State Fault Refusal :=
  plain s fun s => s.updReg8 r rm (sbbOp s)

/-- SBB r16, r/m16 (41_arithmetic.md R207). -/
def execSbbR16Rm16 (r : Reg16) (rm : RM16) (s : State) : Host.Outcome State Fault Refusal :=
  plain s fun s => s.updReg16 r rm (sbbOp s)

/-- SBB AL, imm8 (41_arithmetic.md R207). -/
def execSbbAlImm8 (imm : Byte) (s : State) : Host.Outcome State Fault Refusal :=
  plain s fun s => s.updRm8 (.reg .al) fun a => sbbOp s a imm

/-- SBB AX, imm16 (41_arithmetic.md R207). -/
def execSbbAxImm16 (imm : Word) (s : State) : Host.Outcome State Fault Refusal :=
  plain s fun s => s.updRm16 (.reg .ax) fun a => sbbOp s a imm

/-- SBB r/m8, imm8 (41_arithmetic.md R207). -/
def execSbbRm8Imm8 (rm : RM8) (imm : Byte) (s : State) : Host.Outcome State Fault Refusal :=
  plain s fun s => s.updRm8 rm fun a => sbbOp s a imm

/-- SBB r/m16, imm16 (41_arithmetic.md R207). -/
def execSbbRm16Imm16 (rm : RM16) (imm : Word) (s : State) : Host.Outcome State Fault Refusal :=
  plain s fun s => s.updRm16 rm fun a => sbbOp s a imm

/-- SBB r/m8, imm8 (duplicate of opcode 80) (41_arithmetic.md R207). -/
def execSbbRm8Imm8Dup (rm : RM8) (imm : Byte) (s : State) : Host.Outcome State Fault Refusal :=
  plain s fun s => s.updRm8 rm fun a => sbbOp s a imm

/-- SBB r/m16, imm8 (sign-extended) (41_arithmetic.md R207). -/
def execSbbRm16Imm8 (rm : RM16) (imm : Byte) (s : State) : Host.Outcome State Fault Refusal :=
  plain s fun s => s.updRm16 rm fun a => sbbOp s a (imm.signExtend 16)

/-- CMP r/m8, r8 (41_arithmetic.md R210). -/
def execCmpRm8R8 (rm : RM8) (r : Reg8) (s : State) : Host.Outcome State Fault Refusal :=
  plain s fun s => s.flagsRm8 rm fun a => subOp s a (s.reg8 r)

/-- CMP r/m16, r16 (41_arithmetic.md R210). -/
def execCmpRm16R16 (rm : RM16) (r : Reg16) (s : State) : Host.Outcome State Fault Refusal :=
  plain s fun s => s.flagsRm16 rm fun a => subOp s a (s.reg16 r)

/-- CMP r8, r/m8 (41_arithmetic.md R210). -/
def execCmpR8Rm8 (r : Reg8) (rm : RM8) (s : State) : Host.Outcome State Fault Refusal :=
  plain s fun s => s.flagsRm8 rm fun b => subOp s (s.reg8 r) b

/-- CMP r16, r/m16 (41_arithmetic.md R210). -/
def execCmpR16Rm16 (r : Reg16) (rm : RM16) (s : State) : Host.Outcome State Fault Refusal :=
  plain s fun s => s.flagsRm16 rm fun b => subOp s (s.reg16 r) b

/-- CMP AL, imm8 (41_arithmetic.md R210). -/
def execCmpAlImm8 (imm : Byte) (s : State) : Host.Outcome State Fault Refusal :=
  plain s fun s => s.flagsRm8 (.reg .al) fun a => subOp s a imm

/-- CMP AX, imm16 (41_arithmetic.md R210). -/
def execCmpAxImm16 (imm : Word) (s : State) : Host.Outcome State Fault Refusal :=
  plain s fun s => s.flagsRm16 (.reg .ax) fun a => subOp s a imm

/-- CMP r/m8, imm8 (41_arithmetic.md R210). -/
def execCmpRm8Imm8 (rm : RM8) (imm : Byte) (s : State) : Host.Outcome State Fault Refusal :=
  plain s fun s => s.flagsRm8 rm fun a => subOp s a imm

/-- CMP r/m16, imm16 (41_arithmetic.md R210). -/
def execCmpRm16Imm16 (rm : RM16) (imm : Word) (s : State) : Host.Outcome State Fault Refusal :=
  plain s fun s => s.flagsRm16 rm fun a => subOp s a imm

/-- CMP r/m8, imm8 (duplicate of opcode 80) (41_arithmetic.md R210). -/
def execCmpRm8Imm8Dup (rm : RM8) (imm : Byte) (s : State) : Host.Outcome State Fault Refusal :=
  plain s fun s => s.flagsRm8 rm fun a => subOp s a imm

/-- CMP r/m16, imm8 (sign-extended) (41_arithmetic.md R210). -/
def execCmpRm16Imm8 (rm : RM16) (imm : Byte) (s : State) : Host.Outcome State Fault Refusal :=
  plain s fun s => s.flagsRm16 rm fun a => subOp s a (imm.signExtend 16)

/-- INC r16 (41_arithmetic.md R203). -/
def execIncR16 (r : Reg16) (s : State) : Host.Outcome State Fault Refusal :=
  plain s fun s => s.updRm16 (.reg r) (incOp s)

/-- INC r/m8 (41_arithmetic.md R203). -/
def execIncRm8 (rm : RM8) (s : State) : Host.Outcome State Fault Refusal :=
  plain s fun s => s.updRm8 rm (incOp s)

/-- INC r/m16 (41_arithmetic.md R203). -/
def execIncRm16 (rm : RM16) (s : State) : Host.Outcome State Fault Refusal :=
  plain s fun s => s.updRm16 rm (incOp s)

/-- DEC r16 (41_arithmetic.md R208). -/
def execDecR16 (r : Reg16) (s : State) : Host.Outcome State Fault Refusal :=
  plain s fun s => s.updRm16 (.reg r) (decOp s)

/-- DEC r/m8 (41_arithmetic.md R208). -/
def execDecRm8 (rm : RM8) (s : State) : Host.Outcome State Fault Refusal :=
  plain s fun s => s.updRm8 rm (decOp s)

/-- DEC r/m16 (41_arithmetic.md R208). -/
def execDecRm16 (rm : RM16) (s : State) : Host.Outcome State Fault Refusal :=
  plain s fun s => s.updRm16 rm (decOp s)

/-- NEG r/m8 (41_arithmetic.md R209). -/
def execNegRm8 (rm : RM8) (s : State) : Host.Outcome State Fault Refusal :=
  plain s fun s => s.updRm8 rm (negOp s)

/-- NEG r/m16 (41_arithmetic.md R209). -/
def execNegRm16 (rm : RM16) (s : State) : Host.Outcome State Fault Refusal :=
  plain s fun s => s.updRm16 rm (negOp s)

end Sys2Proof.Machine
end

