-- ==== Sys2Proof/Machine/Control.lean ====
section
/-! DEFINITION. Jumps, calls, returns, loops, INT, INTO, IRET (44_control_transfer.md R290 to R309). -/

namespace Sys2Proof.Machine

/-- JO rel8 (44_control_transfer.md R291). -/
def execJo (rel : Byte) (s : State) : Host.Outcome State Fault Refusal :=
  transfer s fun s => s.branch s.flags.of rel

/-- JNO rel8 (44_control_transfer.md R291). -/
def execJno (rel : Byte) (s : State) : Host.Outcome State Fault Refusal :=
  transfer s fun s => s.branch (!s.flags.of) rel

/-- JB rel8 (aliases JNAE, JC) (44_control_transfer.md R291). -/
def execJb (rel : Byte) (s : State) : Host.Outcome State Fault Refusal :=
  transfer s fun s => s.branch s.flags.cf rel

/-- JNB rel8 (aliases JAE, JNC) (44_control_transfer.md R291). -/
def execJnb (rel : Byte) (s : State) : Host.Outcome State Fault Refusal :=
  transfer s fun s => s.branch (!s.flags.cf) rel

/-- JE rel8 (aliases JZ) (44_control_transfer.md R291). -/
def execJe (rel : Byte) (s : State) : Host.Outcome State Fault Refusal :=
  transfer s fun s => s.branch s.flags.zf rel

/-- JNE rel8 (aliases JNZ) (44_control_transfer.md R291). -/
def execJne (rel : Byte) (s : State) : Host.Outcome State Fault Refusal :=
  transfer s fun s => s.branch (!s.flags.zf) rel

/-- JBE rel8 (aliases JNA) (44_control_transfer.md R291). -/
def execJbe (rel : Byte) (s : State) : Host.Outcome State Fault Refusal :=
  transfer s fun s => s.branch (s.flags.cf || s.flags.zf) rel

/-- JNBE rel8 (aliases JA) (44_control_transfer.md R291). -/
def execJnbe (rel : Byte) (s : State) : Host.Outcome State Fault Refusal :=
  transfer s fun s => s.branch (!(s.flags.cf || s.flags.zf)) rel

/-- JS rel8 (44_control_transfer.md R291). -/
def execJs (rel : Byte) (s : State) : Host.Outcome State Fault Refusal :=
  transfer s fun s => s.branch s.flags.sf rel

/-- JNS rel8 (44_control_transfer.md R291). -/
def execJns (rel : Byte) (s : State) : Host.Outcome State Fault Refusal :=
  transfer s fun s => s.branch (!s.flags.sf) rel

/-- JP rel8 (aliases JPE) (44_control_transfer.md R291). -/
def execJp (rel : Byte) (s : State) : Host.Outcome State Fault Refusal :=
  transfer s fun s => s.branch s.flags.pf rel

/-- JNP rel8 (aliases JPO) (44_control_transfer.md R291). -/
def execJnp (rel : Byte) (s : State) : Host.Outcome State Fault Refusal :=
  transfer s fun s => s.branch (!s.flags.pf) rel

/-- JL rel8 (aliases JNGE) (44_control_transfer.md R291). -/
def execJl (rel : Byte) (s : State) : Host.Outcome State Fault Refusal :=
  transfer s fun s => s.branch (s.flags.sf != s.flags.of) rel

/-- JNL rel8 (aliases JGE) (44_control_transfer.md R291). -/
def execJnl (rel : Byte) (s : State) : Host.Outcome State Fault Refusal :=
  transfer s fun s => s.branch (!(s.flags.sf != s.flags.of)) rel

/-- JLE rel8 (aliases JNG) (44_control_transfer.md R291). -/
def execJle (rel : Byte) (s : State) : Host.Outcome State Fault Refusal :=
  transfer s fun s => s.branch ((s.flags.sf != s.flags.of) || s.flags.zf) rel

/-- JNLE rel8 (aliases JG) (44_control_transfer.md R291). -/
def execJnle (rel : Byte) (s : State) : Host.Outcome State Fault Refusal :=
  transfer s fun s => s.branch (!((s.flags.sf != s.flags.of) || s.flags.zf)) rel

/-- A near CALL: the target is checked, then the return address is pushed (44_control_transfer.md R292). -/
def State.callNear (s : State) (target : Word) : Res State := do
  require (decide (target.toNat ≤ s.codeLimit)) (.generalProtection 0)
  let t ← s.push 0 s.ipNext
  t.jumpNear target

/-- A near RET that releases `imm` bytes (44_control_transfer.md R296). -/
def State.retNear (s : State) (imm : Word) : Res State := do
  let off ← s.stackWord 0
  let t ← s.jumpNear off
  pure { t with regs := { t.regs with sp := t.regs.sp + 2 + imm } }

/-- CX counted down by one (44_control_transfer.md R302). -/
def State.countCx (s : State) : State := { s with regs := { s.regs with cx := s.regs.cx - 1 } }

/-- CALL rel16 (44_control_transfer.md R292). -/
def execCallRel16 (rel : Word) (s : State) : Host.Outcome State Fault Refusal :=
  transfer s fun s => s.callNear (s.rel16 rel)

/-- CALL r/m16 (near indirect) (44_control_transfer.md R293). -/
def execCallRm16 (rm : RM16) (s : State) : Host.Outcome State Fault Refusal :=
  transfer s fun s => do
    let t ← s.readRm16 rm
    s.callNear t

/-- CALL ptr16:16 (44_control_transfer.md R294). -/
def execCallPtr (sel : Word) (off : Word) (s : State) : Host.Outcome State Fault Refusal :=
  transfer s fun s => s.farCall sel off

/-- CALL m16:16 (far indirect) (44_control_transfer.md R295). -/
def execCallM16_16 (m : Mem) (s : State) : Host.Outcome State Fault Refusal :=
  transfer s fun s => do
    let p ← s.readPointer m
    s.farCall p.2 p.1

/-- RET (near) (44_control_transfer.md R296). -/
def execRet (s : State) : Host.Outcome State Fault Refusal :=
  transfer s fun s => s.retNear 0

/-- RET imm16 (near) (44_control_transfer.md R296). -/
def execRetImm16 (imm : Word) (s : State) : Host.Outcome State Fault Refusal :=
  transfer s fun s => s.retNear imm

/-- RET (far; written RETF) (44_control_transfer.md R297). -/
def execRetf (s : State) : Host.Outcome State Fault Refusal :=
  transfer s fun s => s.farReturn 0

/-- RET imm16 (far; written RETF) (44_control_transfer.md R297). -/
def execRetfImm16 (imm : Word) (s : State) : Host.Outcome State Fault Refusal :=
  transfer s fun s => s.farReturn imm

/-- JMP rel8 (short) (44_control_transfer.md R298). -/
def execJmpRel8 (rel : Byte) (s : State) : Host.Outcome State Fault Refusal :=
  transfer s fun s => s.jumpNear (s.rel8 rel)

/-- JMP rel16 (44_control_transfer.md R298). -/
def execJmpRel16 (rel : Word) (s : State) : Host.Outcome State Fault Refusal :=
  transfer s fun s => s.jumpNear (s.rel16 rel)

/-- JMP r/m16 (near indirect) (44_control_transfer.md R299). -/
def execJmpRm16 (rm : RM16) (s : State) : Host.Outcome State Fault Refusal :=
  transfer s fun s => do
    let t ← s.readRm16 rm
    s.jumpNear t

/-- JMP ptr16:16 (44_control_transfer.md R300). -/
def execJmpPtr (sel : Word) (off : Word) (s : State) : Host.Outcome State Fault Refusal :=
  transfer s fun s => s.farJump sel off

/-- JMP m16:16 (far indirect) (44_control_transfer.md R301). -/
def execJmpM16_16 (m : Mem) (s : State) : Host.Outcome State Fault Refusal :=
  transfer s fun s => do
    let p ← s.readPointer m
    s.farJump p.2 p.1

/-- LOOP rel8 (44_control_transfer.md R302). -/
def execLoop (rel : Byte) (s : State) : Host.Outcome State Fault Refusal :=
  transfer s fun s => s.countCx.branch (decide (s.countCx.regs.cx ≠ 0)) rel

/-- LOOPZ rel8 (alias LOOPE) (44_control_transfer.md R303). -/
def execLoopz (rel : Byte) (s : State) : Host.Outcome State Fault Refusal :=
  transfer s fun s => s.countCx.branch (decide (s.countCx.regs.cx ≠ 0) && s.flags.zf) rel

/-- LOOPNZ rel8 (alias LOOPNE) (44_control_transfer.md R304). -/
def execLoopnz (rel : Byte) (s : State) : Host.Outcome State Fault Refusal :=
  transfer s fun s => s.countCx.branch (decide (s.countCx.regs.cx ≠ 0) && !s.flags.zf) rel

/-- JCXZ rel8 (44_control_transfer.md R305). -/
def execJcxz (rel : Byte) (s : State) : Host.Outcome State Fault Refusal :=
  transfer s fun s => s.branch (decide (s.regs.cx = 0)) rel

/-- INT imm8 (44_control_transfer.md R306). -/
def execIntImm8 (imm : Byte) (s : State) : Host.Outcome State Fault Refusal :=
  transfer s fun s => s.interrupt imm true s.ipNext none

/-- INT 3 (one-byte breakpoint form) (44_control_transfer.md R307). -/
def execInt3 (s : State) : Host.Outcome State Fault Refusal :=
  transfer s fun s => s.interrupt 3 true s.ipNext none

/-- INTO (44_control_transfer.md R308). -/
def execInto (s : State) : Host.Outcome State Fault Refusal :=
  transfer s fun s => if s.flags.of then s.interrupt 4 true s.ipNext none else pure s.advance

/-- IRET (44_control_transfer.md R309). -/
def execIret (s : State) : Host.Outcome State Fault Refusal :=
  transfer s fun s => s.interruptReturn

end Sys2Proof.Machine
end

