-- ==== Sys2Proof/Machine/DataTransfer.lean ====
section
/-! DEFINITION. MOV, PUSH, POP, XCHG, NOP, IN, OUT, XLAT, LEA, LDS, LES and the flag transfers (40_data_transfer.md R160 to R183). -/

namespace Sys2Proof.Machine

/-- MOV r/m8, r8 (40_data_transfer.md R161). -/
def execMovRm8R8 (rm : RM8) (r : Reg8) (s : State) : Host.Outcome State Fault Refusal :=
  plain s fun s => s.writeRm8 rm (s.reg8 r)

/-- MOV r/m16, r16 (40_data_transfer.md R161). -/
def execMovRm16R16 (rm : RM16) (r : Reg16) (s : State) : Host.Outcome State Fault Refusal :=
  plain s fun s => s.writeRm16 rm (s.reg16 r)

/-- MOV r8, r/m8 (40_data_transfer.md R161). -/
def execMovR8Rm8 (r : Reg8) (rm : RM8) (s : State) : Host.Outcome State Fault Refusal :=
  plain s fun s => do
    let v ← s.readRm8 rm
    pure (s.setReg8 r v)

/-- MOV r16, r/m16 (40_data_transfer.md R161). -/
def execMovR16Rm16 (r : Reg16) (rm : RM16) (s : State) : Host.Outcome State Fault Refusal :=
  plain s fun s => do
    let v ← s.readRm16 rm
    pure (s.setReg16 r v)

/-- MOV r/m8, imm8 (40_data_transfer.md R161). -/
def execMovRm8Imm8 (rm : RM8) (imm : Byte) (s : State) : Host.Outcome State Fault Refusal :=
  plain s fun s => s.writeRm8 rm imm

/-- MOV r/m16, imm16 (40_data_transfer.md R161). -/
def execMovRm16Imm16 (rm : RM16) (imm : Word) (s : State) : Host.Outcome State Fault Refusal :=
  plain s fun s => s.writeRm16 rm imm

/-- MOV r8, imm8 (40_data_transfer.md R161). -/
def execMovR8Imm8 (r : Reg8) (imm : Byte) (s : State) : Host.Outcome State Fault Refusal :=
  plain s fun s => pure (s.setReg8 r imm)

/-- MOV r16, imm16 (40_data_transfer.md R161). -/
def execMovR16Imm16 (r : Reg16) (imm : Word) (s : State) : Host.Outcome State Fault Refusal :=
  plain s fun s => pure (s.setReg16 r imm)

/-- MOV AL, moffs8 (40_data_transfer.md R161). -/
def execMovAlMoffs (off : Word) (s : State) : Host.Outcome State Fault Refusal :=
  plain s fun s => do
    let v ← s.lread8 (s.segOr .ds) off
    pure (s.setReg8 .al v)

/-- MOV AX, moffs16 (40_data_transfer.md R161). -/
def execMovAxMoffs (off : Word) (s : State) : Host.Outcome State Fault Refusal :=
  plain s fun s => do
    let v ← s.lread16 (s.segOr .ds) off
    pure (s.setReg16 .ax v)

/-- MOV moffs8, AL (40_data_transfer.md R161). -/
def execMovMoffsAl (off : Word) (s : State) : Host.Outcome State Fault Refusal :=
  plain s fun s => s.lwrite8 (s.segOr .ds) off (s.reg8 .al)

/-- MOV moffs16, AX (40_data_transfer.md R161). -/
def execMovMoffsAx (off : Word) (s : State) : Host.Outcome State Fault Refusal :=
  plain s fun s => s.lwrite16 (s.segOr .ds) off (s.reg16 .ax)

/-- MOV r/m16, Sreg (40_data_transfer.md R162). -/
def execMovRm16Sreg (rm : RM16) (sr : SReg) (s : State) : Host.Outcome State Fault Refusal :=
  plain s fun s => s.writeRm16 rm (s.seg sr).sel

/-- The load of a segment register, with the shadow after a load of SS (40_data_transfer.md R163; 60_exceptions.md
R452). -/
def State.loadSegShadow (s : State) (r : SReg) (v : Word) : Res State := do
  let t ← s.loadSeg r v
  pure (if r = .ss then { t with shadow := .ss } else t)

/-- MOV Sreg, r/m16 (40_data_transfer.md R163). -/
def execMovSregRm16 (sr : SReg) (rm : RM16) (s : State) : Host.Outcome State Fault Refusal :=
  plain s fun s => do
    require (decide (sr ≠ .cs)) .invalidOpcode
    let v ← s.readRm16 rm
    s.loadSegShadow sr v

/-- PUSH r16 (40_data_transfer.md R164). -/
def execPushR16 (r : Reg16) (s : State) : Host.Outcome State Fault Refusal :=
  plain s fun s => s.push 0 (s.reg16 r)

/-- PUSH r/m16 (40_data_transfer.md R164). -/
def execPushRm16 (rm : RM16) (s : State) : Host.Outcome State Fault Refusal :=
  plain s fun s => do
    let v ← s.readRm16 rm
    s.push 0 v

/-- PUSH imm16 (40_data_transfer.md R164). -/
def execPushImm16 (imm : Word) (s : State) : Host.Outcome State Fault Refusal :=
  plain s fun s => s.push 0 imm

/-- PUSH imm8 (sign-extended) (40_data_transfer.md R164). -/
def execPushImm8 (imm : Byte) (s : State) : Host.Outcome State Fault Refusal :=
  plain s fun s => s.push 0 (imm.signExtend 16)

/-- PUSH ES (40_data_transfer.md R165). -/
def execPushEs (s : State) : Host.Outcome State Fault Refusal :=
  plain s fun s => s.push 0 s.es.sel

/-- PUSH CS (40_data_transfer.md R165). -/
def execPushCs (s : State) : Host.Outcome State Fault Refusal :=
  plain s fun s => s.push 0 s.cs.sel

/-- PUSH SS (40_data_transfer.md R165). -/
def execPushSs (s : State) : Host.Outcome State Fault Refusal :=
  plain s fun s => s.push 0 s.ss.sel

/-- PUSH DS (40_data_transfer.md R165). -/
def execPushDs (s : State) : Host.Outcome State Fault Refusal :=
  plain s fun s => s.push 0 s.ds.sel

/-- POP r16 (40_data_transfer.md R166). -/
def execPopR16 (r : Reg16) (s : State) : Host.Outcome State Fault Refusal :=
  plain s fun s => do
    let x ← s.pop
    pure (x.2.setReg16 r x.1)

/-- POP r/m16 (40_data_transfer.md R166). -/
def execPopRm16 (rm : RM16) (s : State) : Host.Outcome State Fault Refusal :=
  plain s fun s => do
    let x ← s.pop
    x.2.writeRm16 rm x.1

/-- POP into a segment register: SP moves only if the load succeeds (40_data_transfer.md R167). -/
def State.popSeg (s : State) (r : SReg) : Res State := do
  let v ← s.lread16 .ss s.regs.sp
  let t ← s.loadSegShadow r v
  pure { t with regs := { t.regs with sp := s.regs.sp + 2 } }

/-- POP ES (40_data_transfer.md R167). -/
def execPopEs (s : State) : Host.Outcome State Fault Refusal :=
  plain s fun s => s.popSeg .es

/-- POP SS (40_data_transfer.md R167). -/
def execPopSs (s : State) : Host.Outcome State Fault Refusal :=
  plain s fun s => s.popSeg .ss

/-- POP DS (40_data_transfer.md R167). -/
def execPopDs (s : State) : Host.Outcome State Fault Refusal :=
  plain s fun s => s.popSeg .ds

/-- XCHG r/m8, r8 (40_data_transfer.md R168). -/
def execXchgRm8R8 (rm : RM8) (r : Reg8) (s : State) : Host.Outcome State Fault Refusal :=
  plain s fun s => do
    let v ← s.readRm8 rm
    let t ← s.writeRm8 rm (s.reg8 r)
    pure (t.setReg8 r v)

/-- XCHG r/m16, r16 (40_data_transfer.md R168). -/
def execXchgRm16R16 (rm : RM16) (r : Reg16) (s : State) : Host.Outcome State Fault Refusal :=
  plain s fun s => do
    let v ← s.readRm16 rm
    let t ← s.writeRm16 rm (s.reg16 r)
    pure (t.setReg16 r v)

/-- XCHG AX, r16 (r = 1..7) (40_data_transfer.md R168). -/
def execXchgAxR16 (r : Reg16) (s : State) : Host.Outcome State Fault Refusal :=
  plain s fun s => pure ((s.setReg16 .ax (s.reg16 r)).setReg16 r (s.reg16 .ax))

/-- NOP (XCHG AX, AX) (40_data_transfer.md R169). -/
def execNop (s : State) : Host.Outcome State Fault Refusal :=
  plain s fun s => pure s

/-- A word access at port FFFF by an instruction that may use the ports: its second port is undefined, so it is refused
(93_implementation_defined.md U8; log 16). -/
def State.wrapsPort (s : State) : Bool := s.trusted && decide (s.regs.dx = 0xFFFF)

/-- IN to AL (40_data_transfer.md R170). -/
def State.inByte (s : State) (p : Word) : Res State := do
  require s.trusted (.generalProtection 0)
  pure (s.setReg8 .al (s.portIn8 p))

/-- IN to AX (40_data_transfer.md R170). -/
def State.inWord (s : State) (p : Word) : Res State := do
  require s.trusted (.generalProtection 0)
  pure (s.setReg16 .ax (s.portIn16 p))

/-- OUT of n bytes (40_data_transfer.md R171). -/
def State.outPort (s : State) (p : Word) (n : Nat) (v : Word) : Res State := do
  require s.trusted (.generalProtection 0)
  pure (s.portOut p n v)

/-- IN AL, imm8 (40_data_transfer.md R170). -/
def execInAlImm8 (imm : Byte) (s : State) : Host.Outcome State Fault Refusal :=
  plain s fun s => s.inByte (imm.setWidth 16)

/-- IN AX, imm8 (40_data_transfer.md R170). -/
def execInAxImm8 (imm : Byte) (s : State) : Host.Outcome State Fault Refusal :=
  plain s fun s => s.inWord (imm.setWidth 16)

/-- IN AL, DX (40_data_transfer.md R170). -/
def execInAlDx (s : State) : Host.Outcome State Fault Refusal :=
  plain s fun s => s.inByte s.regs.dx

/-- IN AX, DX (40_data_transfer.md R170). -/
def execInAxDx (s : State) : Host.Outcome State Fault Refusal :=
  if s.wrapsPort then .refused .portWordWrap else plain s fun s => s.inWord s.regs.dx

/-- OUT imm8, AL (40_data_transfer.md R171). -/
def execOutImm8Al (imm : Byte) (s : State) : Host.Outcome State Fault Refusal :=
  plain s fun s => s.outPort (imm.setWidth 16) 1 ((s.reg8 .al).setWidth 16)

/-- OUT imm8, AX (40_data_transfer.md R171). -/
def execOutImm8Ax (imm : Byte) (s : State) : Host.Outcome State Fault Refusal :=
  plain s fun s => s.outPort (imm.setWidth 16) 2 s.regs.ax

/-- OUT DX, AL (40_data_transfer.md R171). -/
def execOutDxAl (s : State) : Host.Outcome State Fault Refusal :=
  plain s fun s => s.outPort s.regs.dx 1 ((s.reg8 .al).setWidth 16)

/-- OUT DX, AX (40_data_transfer.md R171). -/
def execOutDxAx (s : State) : Host.Outcome State Fault Refusal :=
  if s.wrapsPort then .refused .portWordWrap else plain s fun s => s.outPort s.regs.dx 2 s.regs.ax

/-- XLAT (40_data_transfer.md R172). -/
def execXlat (s : State) : Host.Outcome State Fault Refusal :=
  plain s fun s => do
    let v ← s.lread8 (s.segOr .ds) (s.regs.bx + (s.reg8 .al).setWidth 16)
    pure (s.setReg8 .al v)

/-- LEA r16, m (40_data_transfer.md R173). -/
def execLea (r : Reg16) (m : Mem) (s : State) : Host.Outcome State Fault Refusal :=
  plain s fun s => pure (s.setReg16 r (s.ea m))

/-- LDS r16, m16:16 (40_data_transfer.md R178). -/
def execLds (r : Reg16) (m : Mem) (s : State) : Host.Outcome State Fault Refusal :=
  plain s fun s => do
    let p ← s.readPointer m
    let t ← s.loadSeg .ds p.2
    pure (t.setReg16 r p.1)

/-- LES r16, m16:16 (40_data_transfer.md R179). -/
def execLes (r : Reg16) (m : Mem) (s : State) : Host.Outcome State Fault Refusal :=
  plain s fun s => do
    let p ← s.readPointer m
    let t ← s.loadSeg .es p.2
    pure (t.setReg16 r p.1)

/-- LAHF (40_data_transfer.md R180). -/
def execLahf (s : State) : Host.Outcome State Fault Refusal :=
  plain s fun s => pure (s.setReg8 .ah (loByte (flagsWord s.flags)))

/-- SAHF (40_data_transfer.md R181). -/
def execSahf (s : State) : Host.Outcome State Fault Refusal :=
  plain s fun s => do
    let f := flagsOfWord (wordOf (s.reg8 .ah) 0)
    pure { s with flags := { s.flags with sf := f.sf, zf := f.zf, af := f.af, pf := f.pf, cf := f.cf } }

/-- PUSHF (40_data_transfer.md R182). -/
def execPushf (s : State) : Host.Outcome State Fault Refusal :=
  plain s fun s => s.push 0 (flagsWord s.flags)

/-- POPF (40_data_transfer.md R183). -/
def execPopf (s : State) : Host.Outcome State Fault Refusal :=
  plain s fun s => do
    let x ← s.pop
    pure { x.2 with flags := loadFlags s.msw.pe s.cpl s.flags x.1 }

end Sys2Proof.Machine
end

