-- ==== Sys2Proof/Machine/Logic.lean ====
section
/-! DEFINITION. AND, OR, XOR, TEST, NOT (42_logic_shift_rotate.md R240 to R245). -/

namespace Sys2Proof.Machine

/-- AND r/m8, r8 (42_logic_shift_rotate.md R242). -/
def execAndRm8R8 (rm : RM8) (r : Reg8) (s : State) : Host.Outcome State Fault Refusal :=
  plain s fun s => s.updRm8 rm fun a => andOp s a (s.reg8 r)

/-- AND r/m16, r16 (42_logic_shift_rotate.md R242). -/
def execAndRm16R16 (rm : RM16) (r : Reg16) (s : State) : Host.Outcome State Fault Refusal :=
  plain s fun s => s.updRm16 rm fun a => andOp s a (s.reg16 r)

/-- AND r8, r/m8 (42_logic_shift_rotate.md R242). -/
def execAndR8Rm8 (r : Reg8) (rm : RM8) (s : State) : Host.Outcome State Fault Refusal :=
  plain s fun s => s.updReg8 r rm (andOp s)

/-- AND r16, r/m16 (42_logic_shift_rotate.md R242). -/
def execAndR16Rm16 (r : Reg16) (rm : RM16) (s : State) : Host.Outcome State Fault Refusal :=
  plain s fun s => s.updReg16 r rm (andOp s)

/-- AND AL, imm8 (42_logic_shift_rotate.md R242). -/
def execAndAlImm8 (imm : Byte) (s : State) : Host.Outcome State Fault Refusal :=
  plain s fun s => s.updRm8 (.reg .al) fun a => andOp s a imm

/-- AND AX, imm16 (42_logic_shift_rotate.md R242). -/
def execAndAxImm16 (imm : Word) (s : State) : Host.Outcome State Fault Refusal :=
  plain s fun s => s.updRm16 (.reg .ax) fun a => andOp s a imm

/-- AND r/m8, imm8 (42_logic_shift_rotate.md R242). -/
def execAndRm8Imm8 (rm : RM8) (imm : Byte) (s : State) : Host.Outcome State Fault Refusal :=
  plain s fun s => s.updRm8 rm fun a => andOp s a imm

/-- AND r/m16, imm16 (42_logic_shift_rotate.md R242). -/
def execAndRm16Imm16 (rm : RM16) (imm : Word) (s : State) : Host.Outcome State Fault Refusal :=
  plain s fun s => s.updRm16 rm fun a => andOp s a imm

/-- AND r/m8, imm8 (duplicate of opcode 80) (42_logic_shift_rotate.md R242). -/
def execAndRm8Imm8Dup (rm : RM8) (imm : Byte) (s : State) : Host.Outcome State Fault Refusal :=
  plain s fun s => s.updRm8 rm fun a => andOp s a imm

/-- AND r/m16, imm8 (sign-extended) (42_logic_shift_rotate.md R242). -/
def execAndRm16Imm8 (rm : RM16) (imm : Byte) (s : State) : Host.Outcome State Fault Refusal :=
  plain s fun s => s.updRm16 rm fun a => andOp s a (imm.signExtend 16)

/-- OR r/m8, r8 (42_logic_shift_rotate.md R243). -/
def execOrRm8R8 (rm : RM8) (r : Reg8) (s : State) : Host.Outcome State Fault Refusal :=
  plain s fun s => s.updRm8 rm fun a => orOp s a (s.reg8 r)

/-- OR r/m16, r16 (42_logic_shift_rotate.md R243). -/
def execOrRm16R16 (rm : RM16) (r : Reg16) (s : State) : Host.Outcome State Fault Refusal :=
  plain s fun s => s.updRm16 rm fun a => orOp s a (s.reg16 r)

/-- OR r8, r/m8 (42_logic_shift_rotate.md R243). -/
def execOrR8Rm8 (r : Reg8) (rm : RM8) (s : State) : Host.Outcome State Fault Refusal :=
  plain s fun s => s.updReg8 r rm (orOp s)

/-- OR r16, r/m16 (42_logic_shift_rotate.md R243). -/
def execOrR16Rm16 (r : Reg16) (rm : RM16) (s : State) : Host.Outcome State Fault Refusal :=
  plain s fun s => s.updReg16 r rm (orOp s)

/-- OR AL, imm8 (42_logic_shift_rotate.md R243). -/
def execOrAlImm8 (imm : Byte) (s : State) : Host.Outcome State Fault Refusal :=
  plain s fun s => s.updRm8 (.reg .al) fun a => orOp s a imm

/-- OR AX, imm16 (42_logic_shift_rotate.md R243). -/
def execOrAxImm16 (imm : Word) (s : State) : Host.Outcome State Fault Refusal :=
  plain s fun s => s.updRm16 (.reg .ax) fun a => orOp s a imm

/-- OR r/m8, imm8 (42_logic_shift_rotate.md R243). -/
def execOrRm8Imm8 (rm : RM8) (imm : Byte) (s : State) : Host.Outcome State Fault Refusal :=
  plain s fun s => s.updRm8 rm fun a => orOp s a imm

/-- OR r/m16, imm16 (42_logic_shift_rotate.md R243). -/
def execOrRm16Imm16 (rm : RM16) (imm : Word) (s : State) : Host.Outcome State Fault Refusal :=
  plain s fun s => s.updRm16 rm fun a => orOp s a imm

/-- OR r/m8, imm8 (duplicate of opcode 80) (42_logic_shift_rotate.md R243). -/
def execOrRm8Imm8Dup (rm : RM8) (imm : Byte) (s : State) : Host.Outcome State Fault Refusal :=
  plain s fun s => s.updRm8 rm fun a => orOp s a imm

/-- OR r/m16, imm8 (sign-extended) (42_logic_shift_rotate.md R243). -/
def execOrRm16Imm8 (rm : RM16) (imm : Byte) (s : State) : Host.Outcome State Fault Refusal :=
  plain s fun s => s.updRm16 rm fun a => orOp s a (imm.signExtend 16)

/-- XOR r/m8, r8 (42_logic_shift_rotate.md R244). -/
def execXorRm8R8 (rm : RM8) (r : Reg8) (s : State) : Host.Outcome State Fault Refusal :=
  plain s fun s => s.updRm8 rm fun a => xorOp s a (s.reg8 r)

/-- XOR r/m16, r16 (42_logic_shift_rotate.md R244). -/
def execXorRm16R16 (rm : RM16) (r : Reg16) (s : State) : Host.Outcome State Fault Refusal :=
  plain s fun s => s.updRm16 rm fun a => xorOp s a (s.reg16 r)

/-- XOR r8, r/m8 (42_logic_shift_rotate.md R244). -/
def execXorR8Rm8 (r : Reg8) (rm : RM8) (s : State) : Host.Outcome State Fault Refusal :=
  plain s fun s => s.updReg8 r rm (xorOp s)

/-- XOR r16, r/m16 (42_logic_shift_rotate.md R244). -/
def execXorR16Rm16 (r : Reg16) (rm : RM16) (s : State) : Host.Outcome State Fault Refusal :=
  plain s fun s => s.updReg16 r rm (xorOp s)

/-- XOR AL, imm8 (42_logic_shift_rotate.md R244). -/
def execXorAlImm8 (imm : Byte) (s : State) : Host.Outcome State Fault Refusal :=
  plain s fun s => s.updRm8 (.reg .al) fun a => xorOp s a imm

/-- XOR AX, imm16 (42_logic_shift_rotate.md R244). -/
def execXorAxImm16 (imm : Word) (s : State) : Host.Outcome State Fault Refusal :=
  plain s fun s => s.updRm16 (.reg .ax) fun a => xorOp s a imm

/-- XOR r/m8, imm8 (42_logic_shift_rotate.md R244). -/
def execXorRm8Imm8 (rm : RM8) (imm : Byte) (s : State) : Host.Outcome State Fault Refusal :=
  plain s fun s => s.updRm8 rm fun a => xorOp s a imm

/-- XOR r/m16, imm16 (42_logic_shift_rotate.md R244). -/
def execXorRm16Imm16 (rm : RM16) (imm : Word) (s : State) : Host.Outcome State Fault Refusal :=
  plain s fun s => s.updRm16 rm fun a => xorOp s a imm

/-- XOR r/m8, imm8 (duplicate of opcode 80) (42_logic_shift_rotate.md R244). -/
def execXorRm8Imm8Dup (rm : RM8) (imm : Byte) (s : State) : Host.Outcome State Fault Refusal :=
  plain s fun s => s.updRm8 rm fun a => xorOp s a imm

/-- XOR r/m16, imm8 (sign-extended) (42_logic_shift_rotate.md R244). -/
def execXorRm16Imm8 (rm : RM16) (imm : Byte) (s : State) : Host.Outcome State Fault Refusal :=
  plain s fun s => s.updRm16 rm fun a => xorOp s a (imm.signExtend 16)

/-- TEST r/m8, r8 (42_logic_shift_rotate.md R245). -/
def execTestRm8R8 (rm : RM8) (r : Reg8) (s : State) : Host.Outcome State Fault Refusal :=
  plain s fun s => s.flagsRm8 rm fun a => andOp s a (s.reg8 r)

/-- TEST r/m16, r16 (42_logic_shift_rotate.md R245). -/
def execTestRm16R16 (rm : RM16) (r : Reg16) (s : State) : Host.Outcome State Fault Refusal :=
  plain s fun s => s.flagsRm16 rm fun a => andOp s a (s.reg16 r)

/-- TEST AL, imm8 (42_logic_shift_rotate.md R245). -/
def execTestAlImm8 (imm : Byte) (s : State) : Host.Outcome State Fault Refusal :=
  plain s fun s => s.flagsRm8 (.reg .al) fun a => andOp s a imm

/-- TEST AX, imm16 (42_logic_shift_rotate.md R245). -/
def execTestAxImm16 (imm : Word) (s : State) : Host.Outcome State Fault Refusal :=
  plain s fun s => s.flagsRm16 (.reg .ax) fun a => andOp s a imm

/-- TEST r/m8, imm8 (42_logic_shift_rotate.md R245). -/
def execTestRm8Imm8 (rm : RM8) (imm : Byte) (s : State) : Host.Outcome State Fault Refusal :=
  plain s fun s => s.flagsRm8 rm fun a => andOp s a imm

/-- TEST r/m16, imm16 (42_logic_shift_rotate.md R245). -/
def execTestRm16Imm16 (rm : RM16) (imm : Word) (s : State) : Host.Outcome State Fault Refusal :=
  plain s fun s => s.flagsRm16 rm fun a => andOp s a imm

/-- NOT r/m8 (42_logic_shift_rotate.md R241). -/
def execNotRm8 (rm : RM8) (s : State) : Host.Outcome State Fault Refusal :=
  plain s fun s => s.updRm8 rm (notOp s)

/-- NOT r/m16 (42_logic_shift_rotate.md R241). -/
def execNotRm16 (rm : RM16) (s : State) : Host.Outcome State Fault Refusal :=
  plain s fun s => s.updRm16 rm (notOp s)

end Sys2Proof.Machine
end

