-- ==== Sys2Proof/Machine/Multiply.lean ====
section
/-! DEFINITION. MUL, IMUL, DIV, IDIV, the decimal and ASCII adjustments, CBW, CWD (41_arithmetic.md R204, R205, R211 to R221). -/

namespace Sys2Proof.Machine

/-- The products of MUL: the accumulator, and whether the upper half is not zero (41_arithmetic.md R213). -/
def State.mulByte (s : State) (b : Byte) : State :=
  let p : Nat := (s.reg8 .al).toNat * b.toNat
  { s.setReg16 .ax (BitVec.ofNat 16 p) with flags := mulFlags s (decide (0x100 ≤ p)) }

/-- The word product of MUL in DX:AX (41_arithmetic.md R213). -/
def State.mulWord (s : State) (b : Word) : State :=
  let p : Nat := (s.reg16 .ax).toNat * b.toNat
  { (s.setReg16 .ax (BitVec.ofNat 16 p)).setReg16 .dx (BitVec.ofNat 16 (p / 0x10000)) with
    flags := mulFlags s (decide (0x10000 ≤ p)) }

/-- The signed byte product in AX (41_arithmetic.md R214). -/
def State.imulByte (s : State) (b : Byte) : State :=
  let p : Int := (s.reg8 .al).toInt * b.toInt
  { s.setReg16 .ax (BitVec.ofInt 16 p) with flags := mulFlags s (signedOut 8 p) }

/-- The signed word product in DX:AX (41_arithmetic.md R214). -/
def State.imulWord (s : State) (b : Word) : State :=
  let p : Int := (s.reg16 .ax).toInt * b.toInt
  let w : BitVec 32 := BitVec.ofInt 32 p
  { (s.setReg16 .ax (w.extractLsb' 0 16)).setReg16 .dx (w.extractLsb' 16 16) with flags := mulFlags s (signedOut 16 p) }

/-- The signed product of a word and an immediate, in a register (41_arithmetic.md R215). -/
def State.imulInto (s : State) (r : Reg16) (a b : Word) : State :=
  let p : Int := a.toInt * b.toInt
  { s.setReg16 r (BitVec.ofInt 16 p) with flags := mulFlags s (signedOut 16 p) }

/-- AX divided by a byte: quotient in AL, remainder in AH (41_arithmetic.md R217). -/
def State.divByte (s : State) (b : Byte) : Res State := do
  let n := (s.reg16 .ax).toNat
  require (decide (b.toNat ≠ 0)) .divideError
  require (decide (n / b.toNat ≤ 0xFF)) .divideError
  pure { s.setReg16 .ax (wordOf (BitVec.ofNat 8 (n / b.toNat)) (BitVec.ofNat 8 (n % b.toNat))) with flags := divFlags s }

/-- DX:AX divided by a word: quotient in AX, remainder in DX (41_arithmetic.md R217). -/
def State.divWord (s : State) (b : Word) : Res State := do
  let n := (s.reg16 .dx).toNat * 0x10000 + (s.reg16 .ax).toNat
  require (decide (b.toNat ≠ 0)) .divideError
  require (decide (n / b.toNat ≤ 0xFFFF)) .divideError
  pure { (s.setReg16 .ax (BitVec.ofNat 16 (n / b.toNat))).setReg16 .dx (BitVec.ofNat 16 (n % b.toNat)) with
    flags := divFlags s }

/-- AX divided by a byte, signed, truncating toward zero (41_arithmetic.md R218). -/
def State.idivByte (s : State) (b : Byte) : Res State := do
  let n := (s.reg16 .ax).toInt
  require (decide (b.toInt ≠ 0)) .divideError
  require (!signedOut 8 (n.tdiv b.toInt)) .divideError
  pure { s.setReg16 .ax (wordOf (BitVec.ofInt 8 (n.tdiv b.toInt)) (BitVec.ofInt 8 (n.tmod b.toInt))) with
    flags := divFlags s }

/-- DX:AX divided by a word, signed, truncating toward zero (41_arithmetic.md R218). -/
def State.idivWord (s : State) (b : Word) : Res State := do
  let n := (s.reg16 .dx ++ s.reg16 .ax : BitVec 32).toInt
  require (decide (b.toInt ≠ 0)) .divideError
  require (!signedOut 16 (n.tdiv b.toInt)) .divideError
  pure { (s.setReg16 .ax (BitVec.ofInt 16 (n.tdiv b.toInt))).setReg16 .dx (BitVec.ofInt 16 (n.tmod b.toInt)) with
    flags := divFlags s }

/-- MUL r/m8 (41_arithmetic.md R213). -/
def execMulRm8 (rm : RM8) (s : State) : Host.Outcome State Fault Refusal :=
  plain s fun s => do
    let b ← s.readRm8 rm
    pure (s.mulByte b)

/-- IMUL r/m8 (41_arithmetic.md R214). -/
def execImulRm8 (rm : RM8) (s : State) : Host.Outcome State Fault Refusal :=
  plain s fun s => do
    let b ← s.readRm8 rm
    pure (s.imulByte b)

/-- DIV r/m8 (41_arithmetic.md R217). -/
def execDivRm8 (rm : RM8) (s : State) : Host.Outcome State Fault Refusal :=
  plain s fun s => do
    let b ← s.readRm8 rm
    s.divByte b

/-- IDIV r/m8 (41_arithmetic.md R218). -/
def execIdivRm8 (rm : RM8) (s : State) : Host.Outcome State Fault Refusal :=
  plain s fun s => do
    let b ← s.readRm8 rm
    s.idivByte b

/-- MUL r/m16 (41_arithmetic.md R213). -/
def execMulRm16 (rm : RM16) (s : State) : Host.Outcome State Fault Refusal :=
  plain s fun s => do
    let b ← s.readRm16 rm
    pure (s.mulWord b)

/-- IMUL r/m16 (41_arithmetic.md R214). -/
def execImulRm16 (rm : RM16) (s : State) : Host.Outcome State Fault Refusal :=
  plain s fun s => do
    let b ← s.readRm16 rm
    pure (s.imulWord b)

/-- DIV r/m16 (41_arithmetic.md R217). -/
def execDivRm16 (rm : RM16) (s : State) : Host.Outcome State Fault Refusal :=
  plain s fun s => do
    let b ← s.readRm16 rm
    s.divWord b

/-- IDIV r/m16 (41_arithmetic.md R218). -/
def execIdivRm16 (rm : RM16) (s : State) : Host.Outcome State Fault Refusal :=
  plain s fun s => do
    let b ← s.readRm16 rm
    s.idivWord b

/-- IMUL r16, r/m16, imm16 (41_arithmetic.md R215). -/
def execImulR16Rm16Imm16 (r : Reg16) (rm : RM16) (imm : Word) (s : State) : Host.Outcome State Fault Refusal :=
  plain s fun s => do
    let a ← s.readRm16 rm
    pure (s.imulInto r a imm)

/-- IMUL r16, r/m16, imm8 (sign-extended) (41_arithmetic.md R215). -/
def execImulR16Rm16Imm8 (r : Reg16) (rm : RM16) (imm : Byte) (s : State) : Host.Outcome State Fault Refusal :=
  plain s fun s => do
    let a ← s.readRm16 rm
    pure (s.imulInto r a (imm.signExtend 16))

/-- AAA (41_arithmetic.md R204). -/
def execAaa (s : State) : Host.Outcome State Fault Refusal :=
  plain s fun s => do
    let x := aaaOp s (s.reg8 .al) (s.reg8 .ah)
    pure { s.setReg16 .ax (wordOf x.1 x.2.1) with flags := x.2.2 }

/-- AAS (41_arithmetic.md R211). -/
def execAas (s : State) : Host.Outcome State Fault Refusal :=
  plain s fun s => do
    let x := aasOp s (s.reg8 .al) (s.reg8 .ah)
    pure { s.setReg16 .ax (wordOf x.1 x.2.1) with flags := x.2.2 }

/-- DAA (41_arithmetic.md R205). -/
def execDaa (s : State) : Host.Outcome State Fault Refusal :=
  plain s fun s => do
    let x := daaOp s (s.reg8 .al)
    pure { s.setReg8 .al x.1 with flags := x.2 }

/-- DAS (41_arithmetic.md R212). -/
def execDas (s : State) : Host.Outcome State Fault Refusal :=
  plain s fun s => do
    let x := dasOp s (s.reg8 .al)
    pure { s.setReg8 .al x.1 with flags := x.2 }

/-- AAM (41_arithmetic.md R216). -/
def execAam (base : Byte) (s : State) : Host.Outcome State Fault Refusal :=
  plain s fun s => do
    let al := (s.reg8 .al).toNat
    require (decide (base.toNat ≠ 0)) .divideError
    let lo : Byte := BitVec.ofNat 8 (al % base.toNat)
    pure { s.setReg16 .ax (wordOf lo (BitVec.ofNat 8 (al / base.toNat))) with flags := adjustFlags s lo }

/-- AAD (41_arithmetic.md R219). -/
def execAad (base : Byte) (s : State) : Host.Outcome State Fault Refusal :=
  plain s fun s => do
    let lo : Byte := s.reg8 .al + s.reg8 .ah * base
    pure { s.setReg16 .ax (wordOf lo 0) with flags := adjustFlags s lo }

/-- CBW (41_arithmetic.md R220). -/
def execCbw (s : State) : Host.Outcome State Fault Refusal :=
  plain s fun s => pure (s.setReg16 .ax ((s.reg8 .al).signExtend 16))

/-- CWD (41_arithmetic.md R221). -/
def execCwd (s : State) : Host.Outcome State Fault Refusal :=
  plain s fun s => pure (s.setReg16 .dx (if (s.reg16 .ax).msb then 0xFFFF else 0))

end Sys2Proof.Machine
end

