-- ==== Sys2Proof/Machine/Procedure.lean ====
section
/-! DEFINITION. ENTER, LEAVE, PUSHA, POPA (45_procedure.md R340 to R344). -/

namespace Sys2Proof.Machine

/-- The display words ENTER copies: `k` times BP moves down a word and the word there is pushed (45_procedure.md R341). -/
def State.copyDisplay (s : State) : Nat → Res State
  | 0 => .ok s
  | k + 1 => do
    let bp := s.regs.bp - 2
    let v ← s.lread16 .ss bp
    let t ← { s with regs := { s.regs with bp := bp } }.push 0 v
    t.copyDisplay k

/-- ENTER (45_procedure.md R341). -/
def State.enterFrame (s : State) (size : Word) (level : Nat) : Res State := do
  let t ← s.push 0 s.regs.bp
  let frame := t.regs.sp
  let u ← if level = 0 then pure t
    else do
      let v ← t.copyDisplay (level - 1)
      v.push 0 frame
  pure { u with regs := { u.regs with bp := frame, sp := u.regs.sp - size } }

/-- PUSHA where a word would straddle the end of the segment in Real Address Mode (93_implementation_defined.md U7;
log 16). -/
def State.straddles (s : State) : Bool :=
  !s.msw.pe && s.regs.sp.getLsbD 0 && decide (s.regs.sp.toNat < 16)

/-- POPA (45_procedure.md R344). -/
def State.popAllRegs (s : State) : Res State := do
  let di ← s.stackWord 0
  let si ← s.stackWord 1
  let bp ← s.stackWord 2
  let _ ← s.stackWord 3
  let bx ← s.stackWord 4
  let dx ← s.stackWord 5
  let cx ← s.stackWord 6
  let ax ← s.stackWord 7
  pure { s with regs := { ax := ax, cx := cx, dx := dx, bx := bx, sp := s.regs.sp + 16, bp := bp, si := si, di := di } }

/-- ENTER imm16, imm8 (45_procedure.md R341). -/
def execEnter (imm : Word) (level : Byte) (s : State) : Host.Outcome State Fault Refusal :=
  plain s fun s => s.enterFrame imm (level.toNat % 32)

/-- LEAVE (45_procedure.md R342). -/
def execLeave (s : State) : Host.Outcome State Fault Refusal :=
  plain s fun s => do
    let t ← s.lread16 .ss s.regs.bp
    pure { s with regs := { s.regs with sp := s.regs.bp + 2, bp := t } }

/-- PUSHA (45_procedure.md R343). -/
def execPusha (s : State) : Host.Outcome State Fault Refusal :=
  if s.straddles then .refused .pushaStraddle
  else plain s fun s =>
    s.pushAll 0 [s.regs.ax, s.regs.cx, s.regs.dx, s.regs.bx, s.regs.sp, s.regs.bp, s.regs.si, s.regs.di]

/-- POPA (45_procedure.md R344). -/
def execPopa (s : State) : Host.Outcome State Fault Refusal :=
  plain s fun s => s.popAllRegs

end Sys2Proof.Machine
end

