-- ==== Sys2Proof/Machine/Processor.lean ====
section
/-! DEFINITION. Flag instructions, HLT, WAIT, ESC and the prefix bytes (46_processor_control.md R350 to R361; 30_encoding.md R122). -/

namespace Sys2Proof.Machine

/-- One flag instruction (46_processor_control.md R350). -/
def flagInstr (s : State) (f : Flags → Flags) : Host.Outcome State Fault Refusal :=
  plain s fun s => pure { s with flags := f s.flags }

/-- HLT's privilege (46_processor_control.md R358; 00_scope.md R9). -/
def State.mayHalt (s : State) : Bool :=
  match Config.hltRule with
  | .iopl => s.trusted
  | .cpl0 => s.privileged

/-- WAIT that goes on idling: nothing changes but that its prefixes are read again (46_processor_control.md R359). It has not
completed, so a shadow opened before it lasts on and holds events off while it idles: 46_processor_control.md R356 and
60_exceptions.md R452 over R359, the model's choice, log 27. -/
def State.idle (s : State) : State := { s.begin with pfx := noPrefixes, again := none, shadow := s.shadow }

/-- CLC (46_processor_control.md R352). -/
def execClc (s : State) : Host.Outcome State Fault Refusal :=
  flagInstr s fun f => { f with cf := false }

/-- STC (46_processor_control.md R351). -/
def execStc (s : State) : Host.Outcome State Fault Refusal :=
  flagInstr s fun f => { f with cf := true }

/-- CMC (46_processor_control.md R353). -/
def execCmc (s : State) : Host.Outcome State Fault Refusal :=
  flagInstr s fun f => { f with cf := !f.cf }

/-- CLD (46_processor_control.md R355). -/
def execCld (s : State) : Host.Outcome State Fault Refusal :=
  flagInstr s fun f => { f with df := false }

/-- STD (46_processor_control.md R354). -/
def execStd (s : State) : Host.Outcome State Fault Refusal :=
  flagInstr s fun f => { f with df := true }

/-- CLI (46_processor_control.md R357). -/
def execCli (s : State) : Host.Outcome State Fault Refusal :=
  plain s fun s => do
    require s.trusted (.generalProtection 0)
    pure { s with flags := { s.flags with ifl := false } }

/-- STI (46_processor_control.md R356). -/
def execSti (s : State) : Host.Outcome State Fault Refusal :=
  plain s fun s => do
    require s.trusted (.generalProtection 0)
    pure { s with flags := { s.flags with ifl := true }, shadow := if s.flags.ifl then .none else .sti }

/-- HLT (46_processor_control.md R358). -/
def execHlt (s : State) : Host.Outcome State Fault Refusal :=
  plain s fun s => do
    require s.mayHalt (.generalProtection 0)
    pure { s with halted := true }

/-- WAIT (46_processor_control.md R359). -/
def execWait (s : State) : Host.Outcome State Fault Refusal :=
  if s.pins.busy && !(s.msw.mp && s.msw.ts) && s.pfx.rep.isNone then .next s.idle
  else plain s fun s => do
    require (!(s.msw.mp && s.msw.ts)) .noProcessorExtension
    require (!s.pins.error) .extensionError
    pure s

/-- What ESC raises before the extension is given the instruction (46_processor_control.md R360; 60_exceptions.md R431). -/
def State.escCheck (s : State) : Res Unit := do
  require (!(s.msw.em || s.msw.ts)) .noProcessorExtension
  require (!s.pins.error) .extensionError

/-- ESC: the exceptions the CPU raises; the operation itself is the extension's, which the spec leaves out
(46_processor_control.md R360; 92_eei_decisions.md D10; log 15). -/
def escInstr (s : State) : Host.Outcome State Fault Refusal :=
  match s.escCheck with
  | .ok () => .refused .noProcessorExtension
  | .error r => transfer s fun _ => .error r

/-- ESC opcode-number, r/m (46_processor_control.md R360). -/
def execEsc (_op : BitVec 6) (_rm : RM16) (s : State) : Host.Outcome State Fault Refusal :=
  escInstr s

/-- A prefix byte has been read: one more byte, and what it says (30_encoding.md R122; log 1). -/
def State.readPrefix (s : State) (p : Prefixes) : State := { s with pfx := { p with count := s.pfx.count + 1 } }

/-- A segment override; a second one is refused (30_encoding.md R122, R131; log 13). -/
def overrideInstr (s : State) (r : SReg) : Host.Outcome State Fault Refusal :=
  if s.pfx.seg.isSome then .refused .redundantPrefix else .next (s.readPrefix { s.pfx with seg := some r })

/-- A repeat prefix; a second one is refused (30_encoding.md R122; log 13). -/
def repeatInstr (s : State) (p : Rep) : Host.Outcome State Fault Refusal :=
  if s.pfx.rep.isSome then .refused .redundantPrefix else .next (s.readPrefix { s.pfx with rep := some p })

/-- ES: (segment override prefix) (30_encoding.md R122). -/
def execSegEs (s : State) : Host.Outcome State Fault Refusal :=
  overrideInstr s .es

/-- CS: (segment override prefix) (30_encoding.md R122). -/
def execSegCs (s : State) : Host.Outcome State Fault Refusal :=
  overrideInstr s .cs

/-- SS: (segment override prefix) (30_encoding.md R122). -/
def execSegSs (s : State) : Host.Outcome State Fault Refusal :=
  overrideInstr s .ss

/-- DS: (segment override prefix) (30_encoding.md R122). -/
def execSegDs (s : State) : Host.Outcome State Fault Refusal :=
  overrideInstr s .ds

/-- REP (prefix; aliases REPE, REPZ) (43_string.md R278). -/
def execRep (s : State) : Host.Outcome State Fault Refusal :=
  repeatInstr s .rep

/-- REPNE (prefix; alias REPNZ) (43_string.md R278). -/
def execRepne (s : State) : Host.Outcome State Fault Refusal :=
  repeatInstr s .repne

/-- LOCK (prefix) (46_processor_control.md R361). -/
def execLock (s : State) : Host.Outcome State Fault Refusal :=
  if s.pfx.lock then .refused .redundantPrefix
  else if s.trusted then .next (s.readPrefix { s.pfx with lock := true })
  else .next (s.deliver { exc := .generalProtection 0, context := none })

end Sys2Proof.Machine
end

