-- ==== Sys2Proof/Machine/Protection.lean ====
section
/-! DEFINITION. The Protected Mode instructions (47_protected_mode.md R370 to R398). -/

namespace Sys2Proof.Machine

/-- An instruction that exists only in Protected Mode (47_protected_mode.md R370; 30_encoding.md R141). -/
def State.needsProtected (s : State) : Res Unit := require s.msw.pe .invalidOpcode

/-- A privileged instruction (47_protected_mode.md R370; 60_exceptions.md R463). -/
def State.needsKernel (s : State) : Res Unit := require s.privileged (.generalProtection 0)

/-- The six bytes of LGDT and LIDT: limit, base; the sixth byte is read and ignored (47_protected_mode.md R371; log 28). -/
def State.readTable (s : State) (m : Mem) : Res TableReg := do
  let off := (s.ea m).toNat
  s.check (s.segOf m) off 6 false 0
  let a := s.linear (s.segOf m) off
  pure { limit := s.read16 a, base := s.read8 (a + 4) ++ s.read16 (a + 2) }

/-- The six bytes of SGDT and SIDT; the sixth is a free value (47_protected_mode.md R376; log 8). -/
def State.writeTable (s : State) (m : Mem) (t : TableReg) : Res State := do
  let off := (s.ea m).toNat
  s.check (s.segOf m) off 6 true 0
  let a := s.linear (s.segOf m) off
  let u := (s.write16 a t.limit).write16 (a + 2) (t.base.extractLsb' 0 16)
  pure ((u.write8 (a + 4) (t.base.extractLsb' 16 8)).write8 (a + 5) (Config.freeByte s.clock))

/-- The word SMSW stores; bits 15:4 are a free value (47_protected_mode.md R379; log 8). -/
def State.mswWord (s : State) : Word :=
  Config.freeMswBits s.clock ++ BitVec.ofBool s.msw.ts ++ BitVec.ofBool s.msw.em ++ BitVec.ofBool s.msw.mp ++
    BitVec.ofBool s.msw.pe

/-- What LMSW loads: PE is never cleared (47_protected_mode.md R374). -/
def loadMsw (m : Msw) (v : Word) : Msw :=
  { pe := m.pe || v.getLsbD 0, mp := v.getLsbD 1, em := v.getLsbD 2, ts := v.getLsbD 3 }

/-- LLDT with a selector (47_protected_mode.md R373). -/
def State.loadLdt (s : State) (sel : Word) : Res State :=
  let ec := selCode sel
  if selNull sel then .ok { s with ldtr := { s.ldtr with sel := sel, valid := false } }
  else do
    require (!selLocal sel) (.generalProtection ec)
    let d ← s.fetchOr sel (.generalProtection ec)
    require (arControl d.ar 2) (.generalProtection ec)
    require (arPresent d.ar) (.notPresent ec)
    pure { s with ldtr := d.toSys sel }

/-- LTR with a selector: the task state segment becomes busy (47_protected_mode.md R375). -/
def State.loadTr (s : State) (sel : Word) : Res State := do
  let ec := selCode sel
  require (!selNull sel) (.generalProtection 0)
  require (!selLocal sel) (.generalProtection ec)
  let d ← s.fetchOr sel (.generalProtection ec)
  require (arControl d.ar 1) (.generalProtection ec)
  require (arPresent d.ar) (.notPresent ec)
  pure { s.markBusy d with tr := d.toSys sel }

/-- The uses of `Visible` (47_protected_mode.md R398). -/
inductive Probe where
  | lar | lsl | verr | verw
  deriving DecidableEq, Repr

/-- The type test of `Visible` (47_protected_mode.md R398). -/
def probeType (use : Probe) (ar : Byte) : Bool :=
  let control := (ar.extractLsb' 0 4 : BitVec 4).toNat
  match use with
  | .lar => arSegment ar || (decide (1 ≤ control) && decide (control ≤ 5))
  | .lsl => arSegment ar || (decide (1 ≤ control) && decide (control ≤ 3))
  | .verr => arReadable ar
  | .verw => arWritable ar

/-- `Visible(sel, use)`: the descriptor, if it is visible (47_protected_mode.md R398). -/
def State.visible (s : State) (sel : Word) (use : Probe) : Option Desc :=
  if selNull sel then none
  else
    match s.fetchDesc sel with
    | none => none
    | some d =>
      if probeType use d.ar && (arConforming d.ar || decide (lvlMax s.cpl (selRpl sel) ≤ arDpl d.ar)) then some d
      else none

/-- ZF alone (47_protected_mode.md R394 to R397). -/
def State.setZf (s : State) (z : Bool) : State := { s with flags := { s.flags with zf := z } }

/-- LGDT m16&24 (47_protected_mode.md R371). -/
def execLgdt (m : Mem) (s : State) : Host.Outcome State Fault Refusal :=
  plain s fun s => do
    s.needsKernel
    let t ← s.readTable m
    pure { s with gdtr := t }

/-- LIDT m16&24 (47_protected_mode.md R372). -/
def execLidt (m : Mem) (s : State) : Host.Outcome State Fault Refusal :=
  plain s fun s => do
    s.needsKernel
    let t ← s.readTable m
    pure { s with idtr := t }

/-- LLDT r/m16 (47_protected_mode.md R373). -/
def execLldt (rm : RM16) (s : State) : Host.Outcome State Fault Refusal :=
  plain s fun s => do
    s.needsProtected
    s.needsKernel
    let sel ← s.readRm16 rm
    s.loadLdt sel

/-- LMSW r/m16 (47_protected_mode.md R374). -/
def execLmsw (rm : RM16) (s : State) : Host.Outcome State Fault Refusal :=
  plain s fun s => do
    s.needsKernel
    let v ← s.readRm16 rm
    pure { s with msw := loadMsw s.msw v, cpl := if s.msw.pe then s.cpl else 0 }

/-- LTR r/m16 (47_protected_mode.md R375). -/
def execLtr (rm : RM16) (s : State) : Host.Outcome State Fault Refusal :=
  plain s fun s => do
    s.needsProtected
    s.needsKernel
    let sel ← s.readRm16 rm
    s.loadTr sel

/-- SGDT m16&24 (47_protected_mode.md R376). -/
def execSgdt (m : Mem) (s : State) : Host.Outcome State Fault Refusal :=
  plain s fun s => s.writeTable m s.gdtr

/-- SIDT m16&24 (47_protected_mode.md R377). -/
def execSidt (m : Mem) (s : State) : Host.Outcome State Fault Refusal :=
  plain s fun s => s.writeTable m s.idtr

/-- SLDT r/m16 (47_protected_mode.md R378). -/
def execSldt (rm : RM16) (s : State) : Host.Outcome State Fault Refusal :=
  plain s fun s => do
    s.needsProtected
    s.writeRm16 rm s.ldtr.sel

/-- SMSW r/m16 (47_protected_mode.md R379). -/
def execSmsw (rm : RM16) (s : State) : Host.Outcome State Fault Refusal :=
  plain s fun s => s.writeRm16 rm s.mswWord

/-- STR r/m16 (47_protected_mode.md R380). -/
def execStr (rm : RM16) (s : State) : Host.Outcome State Fault Refusal :=
  plain s fun s => do
    s.needsProtected
    s.writeRm16 rm s.tr.sel

/-- ARPL r/m16, r16 (47_protected_mode.md R391). -/
def execArpl (rm : RM16) (r : Reg16) (s : State) : Host.Outcome State Fault Refusal :=
  plain s fun s => do
    s.needsProtected
    let d ← s.readRm16 rm
    s.checkRm16 rm
    let rpl := selRpl (s.reg16 r)
    if selRpl d < rpl then
      let t ← s.writeRm16 rm (withRpl d rpl)
      pure (t.setZf true)
    else pure (s.setZf false)

/-- CTS (Intel assembler mnemonic: CLTS) (47_protected_mode.md R392). -/
def execCts (s : State) : Host.Outcome State Fault Refusal :=
  plain s fun s => do
    s.needsKernel
    pure { s with msw := { s.msw with ts := false } }

/-- BOUND r16, m16&16 (47_protected_mode.md R393). -/
def execBound (r : Reg16) (m : Mem) (s : State) : Host.Outcome State Fault Refusal :=
  plain s fun s => do
    let p ← s.readPointer m
    let v := (s.reg16 r).toInt
    require (decide (p.1.toInt ≤ v) && decide (v ≤ p.2.toInt)) .boundRange
    pure s

/-- LAR r16, r/m16 (47_protected_mode.md R394). -/
def execLar (r : Reg16) (rm : RM16) (s : State) : Host.Outcome State Fault Refusal :=
  plain s fun s => do
    s.needsProtected
    let sel ← s.readRm16 rm
    match s.visible sel .lar with
    | some d => pure ((s.setReg16 r (wordOf 0 d.ar)).setZf true)
    | none => pure (s.setZf false)

/-- LSL r16, r/m16 (47_protected_mode.md R395). -/
def execLsl (r : Reg16) (rm : RM16) (s : State) : Host.Outcome State Fault Refusal :=
  plain s fun s => do
    s.needsProtected
    let sel ← s.readRm16 rm
    match s.visible sel .lsl with
    | some d => pure ((s.setReg16 r d.limit).setZf true)
    | none => pure (s.setZf false)

/-- VERR r/m16 (47_protected_mode.md R396). -/
def execVerr (rm : RM16) (s : State) : Host.Outcome State Fault Refusal :=
  plain s fun s => do
    s.needsProtected
    let sel ← s.readRm16 rm
    pure (s.setZf (s.visible sel .verr).isSome)

/-- VERW r/m16 (47_protected_mode.md R397). -/
def execVerw (rm : RM16) (s : State) : Host.Outcome State Fault Refusal :=
  plain s fun s => do
    s.needsProtected
    let sel ← s.readRm16 rm
    pure (s.setZf (s.visible sel .verw).isSome)

end Sys2Proof.Machine
end

