-- ==== Sys2Proof/Machine/Shift.lean ====
section
/-! DEFINITION. SHL, SHR, SAR, ROL, ROR, RCL, RCR (42_logic_shift_rotate.md R246 to R253). -/

namespace Sys2Proof.Machine

/-- ROL r/m8, imm8 (42_logic_shift_rotate.md R250). -/
def execRolRm8Imm8 (rm : RM8) (imm : Byte) (s : State) : Host.Outcome State Fault Refusal :=
  plain s fun s => s.shiftRm8 rm imm (rolOp s)

/-- ROL r/m8, 1 (42_logic_shift_rotate.md R250). -/
def execRolRm8One (rm : RM8) (s : State) : Host.Outcome State Fault Refusal :=
  plain s fun s => s.shiftRm8 rm 1 (rolOp s)

/-- ROL r/m8, CL (42_logic_shift_rotate.md R250). -/
def execRolRm8Cl (rm : RM8) (s : State) : Host.Outcome State Fault Refusal :=
  plain s fun s => s.shiftRm8 rm (s.reg8 .cl) (rolOp s)

/-- ROL r/m16, imm8 (42_logic_shift_rotate.md R250). -/
def execRolRm16Imm8 (rm : RM16) (imm : Byte) (s : State) : Host.Outcome State Fault Refusal :=
  plain s fun s => s.shiftRm16 rm imm (rolOp s)

/-- ROL r/m16, 1 (42_logic_shift_rotate.md R250). -/
def execRolRm16One (rm : RM16) (s : State) : Host.Outcome State Fault Refusal :=
  plain s fun s => s.shiftRm16 rm 1 (rolOp s)

/-- ROL r/m16, CL (42_logic_shift_rotate.md R250). -/
def execRolRm16Cl (rm : RM16) (s : State) : Host.Outcome State Fault Refusal :=
  plain s fun s => s.shiftRm16 rm (s.reg8 .cl) (rolOp s)

/-- ROR r/m8, imm8 (42_logic_shift_rotate.md R251). -/
def execRorRm8Imm8 (rm : RM8) (imm : Byte) (s : State) : Host.Outcome State Fault Refusal :=
  plain s fun s => s.shiftRm8 rm imm (rorOp s)

/-- ROR r/m8, 1 (42_logic_shift_rotate.md R251). -/
def execRorRm8One (rm : RM8) (s : State) : Host.Outcome State Fault Refusal :=
  plain s fun s => s.shiftRm8 rm 1 (rorOp s)

/-- ROR r/m8, CL (42_logic_shift_rotate.md R251). -/
def execRorRm8Cl (rm : RM8) (s : State) : Host.Outcome State Fault Refusal :=
  plain s fun s => s.shiftRm8 rm (s.reg8 .cl) (rorOp s)

/-- ROR r/m16, imm8 (42_logic_shift_rotate.md R251). -/
def execRorRm16Imm8 (rm : RM16) (imm : Byte) (s : State) : Host.Outcome State Fault Refusal :=
  plain s fun s => s.shiftRm16 rm imm (rorOp s)

/-- ROR r/m16, 1 (42_logic_shift_rotate.md R251). -/
def execRorRm16One (rm : RM16) (s : State) : Host.Outcome State Fault Refusal :=
  plain s fun s => s.shiftRm16 rm 1 (rorOp s)

/-- ROR r/m16, CL (42_logic_shift_rotate.md R251). -/
def execRorRm16Cl (rm : RM16) (s : State) : Host.Outcome State Fault Refusal :=
  plain s fun s => s.shiftRm16 rm (s.reg8 .cl) (rorOp s)

/-- RCL r/m8, imm8 (42_logic_shift_rotate.md R252). -/
def execRclRm8Imm8 (rm : RM8) (imm : Byte) (s : State) : Host.Outcome State Fault Refusal :=
  plain s fun s => s.shiftRm8 rm imm (rclOp s)

/-- RCL r/m8, 1 (42_logic_shift_rotate.md R252). -/
def execRclRm8One (rm : RM8) (s : State) : Host.Outcome State Fault Refusal :=
  plain s fun s => s.shiftRm8 rm 1 (rclOp s)

/-- RCL r/m8, CL (42_logic_shift_rotate.md R252). -/
def execRclRm8Cl (rm : RM8) (s : State) : Host.Outcome State Fault Refusal :=
  plain s fun s => s.shiftRm8 rm (s.reg8 .cl) (rclOp s)

/-- RCL r/m16, imm8 (42_logic_shift_rotate.md R252). -/
def execRclRm16Imm8 (rm : RM16) (imm : Byte) (s : State) : Host.Outcome State Fault Refusal :=
  plain s fun s => s.shiftRm16 rm imm (rclOp s)

/-- RCL r/m16, 1 (42_logic_shift_rotate.md R252). -/
def execRclRm16One (rm : RM16) (s : State) : Host.Outcome State Fault Refusal :=
  plain s fun s => s.shiftRm16 rm 1 (rclOp s)

/-- RCL r/m16, CL (42_logic_shift_rotate.md R252). -/
def execRclRm16Cl (rm : RM16) (s : State) : Host.Outcome State Fault Refusal :=
  plain s fun s => s.shiftRm16 rm (s.reg8 .cl) (rclOp s)

/-- RCR r/m8, imm8 (42_logic_shift_rotate.md R253). -/
def execRcrRm8Imm8 (rm : RM8) (imm : Byte) (s : State) : Host.Outcome State Fault Refusal :=
  plain s fun s => s.shiftRm8 rm imm (rcrOp s)

/-- RCR r/m8, 1 (42_logic_shift_rotate.md R253). -/
def execRcrRm8One (rm : RM8) (s : State) : Host.Outcome State Fault Refusal :=
  plain s fun s => s.shiftRm8 rm 1 (rcrOp s)

/-- RCR r/m8, CL (42_logic_shift_rotate.md R253). -/
def execRcrRm8Cl (rm : RM8) (s : State) : Host.Outcome State Fault Refusal :=
  plain s fun s => s.shiftRm8 rm (s.reg8 .cl) (rcrOp s)

/-- RCR r/m16, imm8 (42_logic_shift_rotate.md R253). -/
def execRcrRm16Imm8 (rm : RM16) (imm : Byte) (s : State) : Host.Outcome State Fault Refusal :=
  plain s fun s => s.shiftRm16 rm imm (rcrOp s)

/-- RCR r/m16, 1 (42_logic_shift_rotate.md R253). -/
def execRcrRm16One (rm : RM16) (s : State) : Host.Outcome State Fault Refusal :=
  plain s fun s => s.shiftRm16 rm 1 (rcrOp s)

/-- RCR r/m16, CL (42_logic_shift_rotate.md R253). -/
def execRcrRm16Cl (rm : RM16) (s : State) : Host.Outcome State Fault Refusal :=
  plain s fun s => s.shiftRm16 rm (s.reg8 .cl) (rcrOp s)

/-- SHL r/m8, imm8 (alias SAL) (42_logic_shift_rotate.md R247). -/
def execShlRm8Imm8 (rm : RM8) (imm : Byte) (s : State) : Host.Outcome State Fault Refusal :=
  plain s fun s => s.shiftRm8 rm imm (shlOp s)

/-- SHL r/m8, 1 (alias SAL) (42_logic_shift_rotate.md R247). -/
def execShlRm8One (rm : RM8) (s : State) : Host.Outcome State Fault Refusal :=
  plain s fun s => s.shiftRm8 rm 1 (shlOp s)

/-- SHL r/m8, CL (alias SAL) (42_logic_shift_rotate.md R247). -/
def execShlRm8Cl (rm : RM8) (s : State) : Host.Outcome State Fault Refusal :=
  plain s fun s => s.shiftRm8 rm (s.reg8 .cl) (shlOp s)

/-- SHL r/m16, imm8 (alias SAL) (42_logic_shift_rotate.md R247). -/
def execShlRm16Imm8 (rm : RM16) (imm : Byte) (s : State) : Host.Outcome State Fault Refusal :=
  plain s fun s => s.shiftRm16 rm imm (shlOp s)

/-- SHL r/m16, 1 (alias SAL) (42_logic_shift_rotate.md R247). -/
def execShlRm16One (rm : RM16) (s : State) : Host.Outcome State Fault Refusal :=
  plain s fun s => s.shiftRm16 rm 1 (shlOp s)

/-- SHL r/m16, CL (alias SAL) (42_logic_shift_rotate.md R247). -/
def execShlRm16Cl (rm : RM16) (s : State) : Host.Outcome State Fault Refusal :=
  plain s fun s => s.shiftRm16 rm (s.reg8 .cl) (shlOp s)

/-- SHR r/m8, imm8 (42_logic_shift_rotate.md R248). -/
def execShrRm8Imm8 (rm : RM8) (imm : Byte) (s : State) : Host.Outcome State Fault Refusal :=
  plain s fun s => s.shiftRm8 rm imm (shrOp s)

/-- SHR r/m8, 1 (42_logic_shift_rotate.md R248). -/
def execShrRm8One (rm : RM8) (s : State) : Host.Outcome State Fault Refusal :=
  plain s fun s => s.shiftRm8 rm 1 (shrOp s)

/-- SHR r/m8, CL (42_logic_shift_rotate.md R248). -/
def execShrRm8Cl (rm : RM8) (s : State) : Host.Outcome State Fault Refusal :=
  plain s fun s => s.shiftRm8 rm (s.reg8 .cl) (shrOp s)

/-- SHR r/m16, imm8 (42_logic_shift_rotate.md R248). -/
def execShrRm16Imm8 (rm : RM16) (imm : Byte) (s : State) : Host.Outcome State Fault Refusal :=
  plain s fun s => s.shiftRm16 rm imm (shrOp s)

/-- SHR r/m16, 1 (42_logic_shift_rotate.md R248). -/
def execShrRm16One (rm : RM16) (s : State) : Host.Outcome State Fault Refusal :=
  plain s fun s => s.shiftRm16 rm 1 (shrOp s)

/-- SHR r/m16, CL (42_logic_shift_rotate.md R248). -/
def execShrRm16Cl (rm : RM16) (s : State) : Host.Outcome State Fault Refusal :=
  plain s fun s => s.shiftRm16 rm (s.reg8 .cl) (shrOp s)

/-- SAR r/m8, imm8 (42_logic_shift_rotate.md R249). -/
def execSarRm8Imm8 (rm : RM8) (imm : Byte) (s : State) : Host.Outcome State Fault Refusal :=
  plain s fun s => s.shiftRm8 rm imm (sarOp s)

/-- SAR r/m8, 1 (42_logic_shift_rotate.md R249). -/
def execSarRm8One (rm : RM8) (s : State) : Host.Outcome State Fault Refusal :=
  plain s fun s => s.shiftRm8 rm 1 (sarOp s)

/-- SAR r/m8, CL (42_logic_shift_rotate.md R249). -/
def execSarRm8Cl (rm : RM8) (s : State) : Host.Outcome State Fault Refusal :=
  plain s fun s => s.shiftRm8 rm (s.reg8 .cl) (sarOp s)

/-- SAR r/m16, imm8 (42_logic_shift_rotate.md R249). -/
def execSarRm16Imm8 (rm : RM16) (imm : Byte) (s : State) : Host.Outcome State Fault Refusal :=
  plain s fun s => s.shiftRm16 rm imm (sarOp s)

/-- SAR r/m16, 1 (42_logic_shift_rotate.md R249). -/
def execSarRm16One (rm : RM16) (s : State) : Host.Outcome State Fault Refusal :=
  plain s fun s => s.shiftRm16 rm 1 (sarOp s)

/-- SAR r/m16, CL (42_logic_shift_rotate.md R249). -/
def execSarRm16Cl (rm : RM16) (s : State) : Host.Outcome State Fault Refusal :=
  plain s fun s => s.shiftRm16 rm (s.reg8 .cl) (sarOp s)

end Sys2Proof.Machine
end

