-- ==== Sys2Proof/Machine/StringOps.lean ====
section
/-! DEFINITION. MOVS, CMPS, SCAS, LODS, STOS, INS, OUTS, one element of each (43_string.md R270 to R279). -/

namespace Sys2Proof.Machine

/-- One element of MOVS, bytes (43_string.md R271). -/
def State.movsByte (s : State) : Res State := do
  let v ← s.lread8 (s.segOr .ds) s.regs.si
  let t ← s.lwrite8 .es s.regs.di v
  pure ((t.stepSi 1).stepDi 1)

/-- One element of MOVS, words (43_string.md R271). -/
def State.movsWord (s : State) : Res State := do
  let v ← s.lread16 (s.segOr .ds) s.regs.si
  let t ← s.lwrite16 .es s.regs.di v
  pure ((t.stepSi 2).stepDi 2)

/-- One element of CMPS, bytes: source minus destination (43_string.md R272). -/
def State.cmpsByte (s : State) : Res State := do
  let a ← s.lread8 (s.segOr .ds) s.regs.si
  let b ← s.lread8 .es s.regs.di
  pure { (s.stepSi 1).stepDi 1 with flags := (subOp s a b).2 }

/-- One element of CMPS, words (43_string.md R272). -/
def State.cmpsWord (s : State) : Res State := do
  let a ← s.lread16 (s.segOr .ds) s.regs.si
  let b ← s.lread16 .es s.regs.di
  pure { (s.stepSi 2).stepDi 2 with flags := (subOp s a b).2 }

/-- One element of SCAS, bytes (43_string.md R273). -/
def State.scasByte (s : State) : Res State := do
  let b ← s.lread8 .es s.regs.di
  pure { s.stepDi 1 with flags := (subOp s (s.reg8 .al) b).2 }

/-- One element of SCAS, words (43_string.md R273). -/
def State.scasWord (s : State) : Res State := do
  let b ← s.lread16 .es s.regs.di
  pure { s.stepDi 2 with flags := (subOp s s.regs.ax b).2 }

/-- One element of LODS, bytes (43_string.md R274). -/
def State.lodsByte (s : State) : Res State := do
  let v ← s.lread8 (s.segOr .ds) s.regs.si
  pure ((s.setReg8 .al v).stepSi 1)

/-- One element of LODS, words (43_string.md R274). -/
def State.lodsWord (s : State) : Res State := do
  let v ← s.lread16 (s.segOr .ds) s.regs.si
  pure ((s.setReg16 .ax v).stepSi 2)

/-- One element of STOS, bytes (43_string.md R275). -/
def State.stosByte (s : State) : Res State := do
  let t ← s.lwrite8 .es s.regs.di (s.reg8 .al)
  pure (t.stepDi 1)

/-- One element of STOS, words (43_string.md R275). -/
def State.stosWord (s : State) : Res State := do
  let t ← s.lwrite16 .es s.regs.di s.regs.ax
  pure (t.stepDi 2)

/-- What INS checks before the port is read: the I/O privilege and the write of n bytes (43_string.md R276). -/
def State.insCheck (s : State) (n : Nat) : Res Unit := do
  require s.trusted (.generalProtection 0)
  s.check .es s.regs.di.toNat n true 0

/-- One element of INS, bytes (43_string.md R276). -/
def State.insByte (s : State) : Res State := do
  s.insCheck 1
  let t ← s.lwrite8 .es s.regs.di (s.portIn8 s.regs.dx)
  pure (t.stepDi 1)

/-- One element of INS, words (43_string.md R276). -/
def State.insWord (s : State) : Res State := do
  s.insCheck 2
  let t ← s.lwrite16 .es s.regs.di (s.portIn16 s.regs.dx)
  pure (t.stepDi 2)

/-- What OUTS does before the port is written: the I/O privilege and the read of n bytes (43_string.md R277). That the privilege is
checked first is the model's choice, log 46. -/
def State.outsCheck (s : State) (n : Nat) : Res Unit := do
  require s.trusted (.generalProtection 0)
  s.check (s.segOr .ds) s.regs.si.toNat n false 0

/-- One element of OUTS, bytes (43_string.md R277). -/
def State.outsByte (s : State) : Res State := do
  s.outsCheck 1
  let v ← s.lread8 (s.segOr .ds) s.regs.si
  pure ((s.portOut s.regs.dx 1 (v.setWidth 16)).stepSi 1)

/-- One element of OUTS, words (43_string.md R277). -/
def State.outsWord (s : State) : Res State := do
  s.outsCheck 2
  let v ← s.lread16 (s.segOr .ds) s.regs.si
  pure ((s.portOut s.regs.dx 2 v).stepSi 2)

/-- An element that passes its checks and would use port FFFF for a word is refused (93_implementation_defined.md U8;
43_string.md R278; log 16). -/
def State.stringWrapsPort (s : State) (check : Res Unit) : Bool :=
  decide (s.regs.dx = 0xFFFF) && decide (s.pfx.rep = none || (s.pfx.rep = some .rep && s.regs.cx ≠ 0)) &&
    (match check with
      | .ok () => true
      | .error _ => false)

/-- MOVS MOVSB (43_string.md R271). -/
def execMovsb (s : State) : Host.Outcome State Fault Refusal :=
  stringInstr s .movsb State.movsByte

/-- MOVS MOVSW (43_string.md R271). -/
def execMovsw (s : State) : Host.Outcome State Fault Refusal :=
  stringInstr s .movsw State.movsWord

/-- CMPS CMPSB (43_string.md R272). -/
def execCmpsb (s : State) : Host.Outcome State Fault Refusal :=
  stringInstr s .cmpsb State.cmpsByte

/-- CMPS CMPSW (43_string.md R272). -/
def execCmpsw (s : State) : Host.Outcome State Fault Refusal :=
  stringInstr s .cmpsw State.cmpsWord

/-- SCAS SCASB (43_string.md R273). -/
def execScasb (s : State) : Host.Outcome State Fault Refusal :=
  stringInstr s .scasb State.scasByte

/-- SCAS SCASW (43_string.md R273). -/
def execScasw (s : State) : Host.Outcome State Fault Refusal :=
  stringInstr s .scasw State.scasWord

/-- LODS LODSB (43_string.md R274). -/
def execLodsb (s : State) : Host.Outcome State Fault Refusal :=
  stringInstr s .lodsb State.lodsByte

/-- LODS LODSW (43_string.md R274). -/
def execLodsw (s : State) : Host.Outcome State Fault Refusal :=
  stringInstr s .lodsw State.lodsWord

/-- STOS STOSB (43_string.md R275). -/
def execStosb (s : State) : Host.Outcome State Fault Refusal :=
  stringInstr s .stosb State.stosByte

/-- STOS STOSW (43_string.md R275). -/
def execStosw (s : State) : Host.Outcome State Fault Refusal :=
  stringInstr s .stosw State.stosWord

/-- INS INSB: ES:[DI], port DX, byte (43_string.md R276). -/
def execInsb (s : State) : Host.Outcome State Fault Refusal :=
  stringInstr s .insb State.insByte

/-- INS INSW: ES:[DI], port DX, word (43_string.md R276). -/
def execInsw (s : State) : Host.Outcome State Fault Refusal :=
  if s.stringWrapsPort (s.insCheck 2) then .refused .portWordWrap else stringInstr s .insw State.insWord

/-- OUTS OUTSB: port DX, DS:[SI], byte (43_string.md R277). -/
def execOutsb (s : State) : Host.Outcome State Fault Refusal :=
  stringInstr s .outsb State.outsByte

/-- OUTS OUTSW: port DX, DS:[SI], word (43_string.md R277). -/
def execOutsw (s : State) : Host.Outcome State Fault Refusal :=
  if s.stringWrapsPort (s.outsCheck 2) then .refused .portWordWrap else stringInstr s .outsw State.outsWord

end Sys2Proof.Machine
end

