-- ==== Sys2Proof/Machine/Fetch.lean ====
section
/-! DEFINITION. Fetching, decoding and running an instruction (30_encoding.md R121; 20_memory.md R93, R110, R111). -/

namespace Sys2Proof.Machine

/-- How many bytes of code ahead of the storing instruction a store may come too late for: the queue's 6 bytes and three
decoded instructions of at most 10 (20_memory.md R111; 92_eei_decisions.md D13; log 11). -/
def staleWindow : Nat := 36

/-- The values a list of stale bytes gives for an address, oldest first. -/
def staleValues (old : List Host.Cell) (p : Nat) : List Byte := (old.filter fun c => c.1 == p).map (·.2)

/-- The code byte that the instruction stream has at an offset of CS: the memory's, or, where a store may have come after
the prefetch, a free choice among the values the byte has had (20_memory.md R110; 70_reset_and_hazards.md R490; log 11). -/
def State.codeByte (s : State) (off : Nat) : Byte :=
  let p := physAddr s.msw.pe (s.linear .cs off)
  match staleValues s.stale p with
  | [] => s.physByte p
  | v :: vs => (v :: vs).getD (Config.staleChoice s.clock p % (vs.length + 2)) (s.physByte p)

/-- Where the next byte is fetched: after the prefix bytes already read (10_state.md R24; log 1). -/
def State.fetchOffset (s : State) : Nat := s.ip.toNat + s.pfx.count

/-- How many bytes can be fetched: to the code segment's limit, and to the tenth byte of the instruction (20_memory.md R93;
30_encoding.md R121). -/
def State.fetchRoom (s : State) : Nat := min (10 - s.pfx.count) (s.codeLimit + 1 - s.fetchOffset)

/-- The bytes that can be fetched. -/
def State.fetchBytes (s : State) : List Byte := (List.range s.fetchRoom).map fun k => s.codeByte (s.fetchOffset + k)

/-- The instruction of a string operation. -/
def StringOp.instr : StringOp → Instr
  | .movsb => .movsb
  | .movsw => .movsw
  | .cmpsb => .cmpsb
  | .cmpsw => .cmpsw
  | .scasb => .scasb
  | .scasw => .scasw
  | .lodsb => .lodsb
  | .lodsw => .lodsw
  | .stosb => .stosb
  | .stosw => .stosw
  | .insb => .insb
  | .insw => .insw
  | .outsb => .outsb
  | .outsw => .outsw

/-- Fetches, decodes and runs an instruction: `ip_next` is past its bytes (10_state.md R24). Bytes that end inside an instruction are a
GeneralProtection, whether at the segment's limit or after the tenth byte (20_memory.md R93; 92_eei_decisions.md D17); the
illegal encodings raise InvalidOpcode and the reserved ones are refused (30_encoding.md R141; log 14). -/
def State.fetchRun (s : State) : Host.Outcome State Fault Refusal :=
  match decode s.fetchBytes with
  | .instr i rest =>
    exec i { s with
      ipNext := BitVec.ofNat 16 (s.fetchOffset + (s.fetchRoom - rest.length))
      queueEmpty := false }
  | .short => .next (s.deliver { exc := .generalProtection 0, context := none })
  | .illegal => .next (s.deliver { exc := .invalidOpcode, context := none })
  | .reserved => .refused .reservedOpcode

/-- The next instruction, or the next element of the string instruction in progress, which has been fetched before
(43_string.md R279; log 33). -/
def State.runNext (s : State) : Host.Outcome State Fault Refusal :=
  match s.again with
  | some op => exec op.instr s
  | none => s.fetchRun

/-- The code bytes ahead of the storing instruction, from its `ip_next` on, that a step has changed, with their old values
(20_memory.md R111; log 11). -/
def changedAhead (s t : State) : List Host.Cell :=
  (List.range staleWindow).filterMap fun k =>
    let p := physAddr t.msw.pe (t.linear .cs (t.ipNext.toNat + k))
    if s.physByte p = t.physByte p then none else some (p, s.physByte p)

/-- The end of a step: the clock moves, and the stale bytes are kept, or dropped where the queue has been emptied
(20_memory.md R110). -/
def State.finish (s t : State) : State :=
  { t with
    clock := s.clock + 1
    stale := if t.queueEmpty then [] else if s.mem = t.mem then t.stale else t.stale ++ changedAhead s t }

end Sys2Proof.Machine
end

