-- ==== Sys2Proof/Machine/Boundary.lean ====
section
/-! DEFINITION. What happens between instructions: RESET, the events by priority, and the idle states (60_exceptions.md R422,
R438, R451 to R453; 70_reset_and_hazards.md R480, R481). -/

namespace Sys2Proof.Machine

/-- RESET: the state of 10_state.md R60, with memory and the traces of ports and devices as they were; the request is withdrawn
(70_reset_and_hazards.md R480, R481; log 10). -/
def State.doReset (s : State) : State :=
  { State.reset with mem := s.mem, portTrace := s.portTrace, deviceTrace := s.deviceTrace, pins := { s.pins with reset := false } }

/-- An NMI can be taken: one is pending, none is in service, and no shadow of SS holds it off (60_exceptions.md R452,
R453). -/
def State.nmiTakeable (s : State) : Bool := s.nmiPending && !s.nmiInService && decide (s.shadow ≠ .ss)

/-- Takes the NMI, vector 2 (60_exceptions.md R453). -/
def State.takeNmi (s : State) : State := { s with nmiPending := false, nmiInService := true }.takeEvent 2

/-- Takes the single-step trap, vector 1 (60_exceptions.md R432). -/
def State.takeTrap (s : State) : State := { s with trapPending := false }.takeEvent 1

/-- Takes the processor extension's segment overrun, vector 9 (60_exceptions.md R430; log 44). -/
def State.takeOverrun (s : State) : State := { s with pins := { s.pins with overrun := false } }.takeEvent 9

/-- Takes a maskable interrupt with its vector (60_exceptions.md R451). -/
def State.takeIntr (s : State) (n : Byte) : State := { s with pins := { s.pins with intr := none } }.takeEvent n

/-- The maskable interrupt that can be taken, if any (60_exceptions.md R451, R452). -/
def State.intrTakeable (s : State) : Option Byte :=
  if s.flags.ifl && decide (s.shadow = .none) then s.pins.intr else none

/-- What the boundary before the next instruction does instead of running it, by priority: single-step trap, NMI, segment
overrun, maskable interrupt, and else the halted state goes on (60_exceptions.md R438; 46_processor_control.md R358). In
shutdown only an NMI is taken (60_exceptions.md R436). Between a prefix and its opcode nothing happens (R422); between two
elements of a repeated string instruction it does (43_string.md R279). -/
def State.boundary (s : State) : Option State :=
  if s.pfx.count ≠ 0 ∧ s.again = none then none
  else if s.shutdown then some (if s.nmiTakeable then s.takeNmi else s)
  else if s.trapPending then some s.takeTrap
  else if s.nmiTakeable then some s.takeNmi
  else if s.pins.overrun && !s.halted then some s.takeOverrun
  else
    match s.intrTakeable with
    | some n => some (s.takeIntr n)
    | none => if s.halted then some s else none

/-- A step before its end: RESET, an event or idling, or the next instruction. -/
def State.turn (s : State) : Host.Outcome State Fault Refusal :=
  if s.pins.reset then .next s.doReset
  else
    match s.boundary with
    | some t => .next t
    | none => s.runNext

/-- Stores bytes from a physical address on. -/
def State.storeBytes (s : State) (a : Nat) : List Byte → State
  | [] => s
  | b :: bs => (s.write8 a b).storeBytes (a + 1) bs

end Sys2Proof.Machine
end

