-- ==== Sys2Proof/Machine/Step.lean ====
section
/-! DEFINITION. One step of the machine. -/

namespace Sys2Proof.Machine

/-- One step: an instruction, a prefix byte, one element of a repeated string instruction, an event taken, or an idle turn
(60_exceptions.md R422; logs 1, 33). -/
def step (s : State) : Host.Outcome State Fault Refusal :=
  match s.turn with
  | .next t => .next (s.finish t)
  | .fault r => .fault r
  | .refused r => .refused r

/-- `s` with the instruction of an opcode-table word stored where the next byte is fetched, none of it stale, and no string
instruction in progress (log 38). -/
def State.withFetchWord (s : State) (nbits w : Nat) : State :=
  { s.storeBytes (s.linear .cs s.fetchOffset) (tableBytes nbits w) with stale := [], again := none }

end Sys2Proof.Machine
end

