-- ==== Sys2Proof/Safety.lean ====
section
/-! DEFINITION. What holds of every state the machine can be in, and what a run that goes on is. -/

namespace Sys2Proof.Machine

/-- How many prefix bytes are recorded. -/
def recorded (p : Prefixes) : Nat := p.seg.isSome.toNat + p.rep.isSome.toNat + p.lock.toNat

/-- In Real Address Mode the level is 0 and IOPL and NT read 0 (10_state.md R25, R50). -/
def realModeOk (s : State) : Bool :=
  s.msw.pe || (decide (s.cpl = 0) && decide (s.flags.iopl = 0) && !s.flags.nt)

/-- The invariant of every step: memory is in its canonical form, the fields that Real Address Mode fixes are as it fixes them,
the prefix bytes read are those recorded, and a string instruction between two elements has its repeat prefix. -/
def Inv (s : State) : Prop :=
  Memory.wf s.mem = true ∧ realModeOk s = true ∧ s.pfx.count = recorded s.pfx ∧
    (s.again.isSome = true → s.pfx.rep.isSome = true)

/-- A step that has a next state. -/
def Steps (s t : State) : Prop := step s = .next t

end Sys2Proof.Machine
end

