-- ==== Sys2Proof/Certificates/Slice0/Obligations.lean ====
section
/-! DEFINITION. The statements for the provers, and the terms they are stated in. A statement about an instruction gives its
whole next state: what it changes, and that all the rest is as before. -/

open Sys2Proof Sys2Proof.Machine

namespace Sys2Proof.Claims

/-! Running an instruction. -/

/-- No repeat prefix stands before the instruction. -/
abbrev NoRep (s : State) : Prop := s.pfx.rep = none

/-- `u` as an instruction that started in `s` and is complete leaves it: execution goes on at `ip`, with no prefix left, no
repetition in progress and no shadow, and with a single-step trap due where TF was 1 at its start (10_state.md R24;
60_exceptions.md R432). -/
def after (s u : State) (ip : Word) : State :=
  { u with ip := ip, shadow := .none, trapPending := s.flags.tf, pfx := noPrefixes, again := none }

/-- `t` is `s` after an instruction that changed general registers, flags and memory at most. -/
def Ended (s t : State) : Prop := t = after s { s with regs := t.regs, flags := t.flags, mem := t.mem } s.ipNext

/-- The instruction takes the exception `e` and leaves no other trace: it is delivered in the state before (60_exceptions.md
R424), with no shadow left, log 47. -/
def Raises (i : Instr) (s : State) (e : Exc) : Prop :=
  exec i s = .next (({ s with shadow := .none, trapPending := false } : State).deliver { exc := e, context := none })

/-! Access to memory. -/

/-- The register may be used for a read or for a write (20_memory.md R89 to R91). -/
def TypeOk (s : State) (r : SReg) (write : Bool) : Prop :=
  (s.seg r).valid = true ∧
    if write then r ≠ .cs ∧ arWritable (s.seg r).ar = true else arReadable (s.seg r).ar = true

/-- `n` bytes at `off` are inside the segment (20_memory.md R83, R92, R93). -/
def Within (s : State) (r : SReg) (off n : Nat) : Prop :=
  if s.msw.pe = true ∧ arExpandDown (s.seg r).ar = true then (s.seg r).limit.toNat < off ∧ off + n ≤ 0x10000
  else if s.msw.pe = true then off + n ≤ (s.seg r).limit.toNat + 1
  else off + n ≤ 0x10000

/-- An access of `n` bytes at `off` of a segment is allowed (20_memory.md R90 to R93). -/
def Fits (s : State) (r : SReg) (off n : Nat) (write : Bool) : Prop :=
  (s.msw.pe = true → TypeOk s r write) ∧ Within s r off n

/-- The exception of an access that is not allowed: a fault of validity or type before one of the limit (20_memory.md R90 to
R93). -/
def AccessExc (s : State) (r : SReg) (write : Bool) (e : Exc) : Prop :=
  (s.msw.pe = true ∧ ¬TypeOk s r write ∧ e = .generalProtection 0) ∨
    ((s.msw.pe = true → TypeOk s r write) ∧ e = if r = .ss then .stackFault 0 else .generalProtection 0)

/-- The physical address of an offset of a segment, as the model computes it (20_memory.md R82). -/
def cell (s : State) (r : SReg) (off : Nat) : Nat := physAddr s.msw.pe (s.linear r off)

/-- The byte there. -/
def byteAt (s : State) (r : SReg) (off : Nat) : Byte := s.physByte (cell s r off)

/-- The word there, low byte first (20_memory.md R85). -/
def wordAt (s : State) (r : SReg) (off : Nat) : Word := byteAt s r (off + 1) ++ byteAt s r off

/-- Every byte of memory reads as before. -/
def MemSame (s t : State) : Prop := ∀ p, t.physByte p = s.physByte p

/-- The byte at the offset is `v`, every other byte reads as before. -/
def StoredByte (s t : State) (r : SReg) (off : Nat) (v : Byte) : Prop :=
  t.physByte (cell s r off) = v ∧ ∀ p, p ≠ cell s r off → t.physByte p = s.physByte p

/-- The two bytes at the offset are `v`, every other byte reads as before. -/
def StoredWord (s t : State) (r : SReg) (off : Nat) (v : Word) : Prop :=
  t.physByte (cell s r off) = loByte v ∧ t.physByte (cell s r (off + 1)) = hiByte v ∧
    ∀ p, p ≠ cell s r off → p ≠ cell s r (off + 1) → t.physByte p = s.physByte p

/-! Registers. -/

/-- `r` holds `v`, every other word register is as before. -/
def RegWord (s t : State) (r : Reg16) (v : Word) : Prop := t.reg16 r = v ∧ ∀ q, q ≠ r → t.reg16 q = s.reg16 q

/-- `r` holds `v`, every other byte register and the four registers without halves are as before. -/
def RegByte (s t : State) (r : Reg8) (v : Byte) : Prop :=
  t.reg8 r = v ∧ (∀ q, q ≠ r → t.reg8 q = s.reg8 q) ∧
    t.regs.sp = s.regs.sp ∧ t.regs.bp = s.regs.bp ∧ t.regs.si = s.regs.si ∧ t.regs.di = s.regs.di

/-! Operands. -/

/-- A byte operand can be read. -/
def Readable8 (s : State) : RM8 → Prop
  | .reg _ => True
  | .mem m => Fits s (s.segOf m) (s.ea m).toNat 1 false

/-- A word operand can be read. -/
def Readable16 (s : State) : RM16 → Prop
  | .reg _ => True
  | .mem m => Fits s (s.segOf m) (s.ea m).toNat 2 false

/-- A byte operand can be written (and then read). -/
def Writable8 (s : State) : RM8 → Prop
  | .reg _ => True
  | .mem m => Fits s (s.segOf m) (s.ea m).toNat 1 true

/-- A word operand can be written (and then read). -/
def Writable16 (s : State) : RM16 → Prop
  | .reg _ => True
  | .mem m => Fits s (s.segOf m) (s.ea m).toNat 2 true

/-- The value of a byte operand. -/
def value8 (s : State) : RM8 → Byte
  | .reg r => s.reg8 r
  | .mem m => byteAt s (s.segOf m) (s.ea m).toNat

/-- The value of a word operand. -/
def value16 (s : State) : RM16 → Word
  | .reg r => s.reg16 r
  | .mem m => wordAt s (s.segOf m) (s.ea m).toNat

/-- The byte operand holds `v` and nothing else of registers and memory has changed. The address of a memory operand is that of
the state before. -/
def Put8 (s t : State) (rm : RM8) (v : Byte) : Prop :=
  match rm with
  | .reg r => RegByte s t r v ∧ MemSame s t
  | .mem m => t.regs = s.regs ∧ StoredByte s t (s.segOf m) (s.ea m).toNat v

/-- The word operand holds `v` and nothing else of registers and memory has changed. -/
def Put16 (s t : State) (rm : RM16) (v : Word) : Prop :=
  match rm with
  | .reg r => RegWord s t r v ∧ MemSame s t
  | .mem m => t.regs = s.regs ∧ StoredWord s t (s.segOf m) (s.ea m).toNat v

/-- What a byte operand that cannot be read raises. -/
def ReadExc8 (s : State) (rm : RM8) (e : Exc) : Prop :=
  ∃ m, rm = .mem m ∧ ¬Fits s (s.segOf m) (s.ea m).toNat 1 false ∧ AccessExc s (s.segOf m) false e

/-- What a word operand that cannot be read raises. -/
def ReadExc16 (s : State) (rm : RM16) (e : Exc) : Prop :=
  ∃ m, rm = .mem m ∧ ¬Fits s (s.segOf m) (s.ea m).toNat 2 false ∧ AccessExc s (s.segOf m) false e

/-- What a byte operand that can be read and not written raises. -/
def WriteExc8 (s : State) (rm : RM8) (e : Exc) : Prop :=
  ∃ m, rm = .mem m ∧ Fits s (s.segOf m) (s.ea m).toNat 1 false ∧ ¬Fits s (s.segOf m) (s.ea m).toNat 1 true ∧
    AccessExc s (s.segOf m) true e

/-- What a word operand that can be read and not written raises. -/
def WriteExc16 (s : State) (rm : RM16) (e : Exc) : Prop :=
  ∃ m, rm = .mem m ∧ Fits s (s.segOf m) (s.ea m).toNat 2 false ∧ ¬Fits s (s.segOf m) (s.ea m).toNat 2 true ∧
    AccessExc s (s.segOf m) true e

/-! Flags. -/

/-- Bits 7:0 hold an even number of ones. -/
def EvenOnes {n : Nat} (r : BitVec n) : Prop := (List.range 8).countP (fun k => r.getLsbD k) % 2 = 0

/-- SF, ZF and PF of a result (00_scope.md R16). -/
def Szp {n : Nat} (f : Flags) (r : BitVec n) : Prop :=
  f.sf = r.msb ∧ (f.zf = true ↔ r = 0) ∧ (f.pf = true ↔ EvenOnes r)

/-- TF, IF, DF, IOPL and NT are as before. -/
def ControlKept (f g : Flags) : Prop := g.tf = f.tf ∧ g.ifl = f.ifl ∧ g.df = f.df ∧ g.iopl = f.iopl ∧ g.nt = f.nt

/-- The flags of the sum `r` but CF: OF says that `a` and `b` have one sign and `r` has the other (00_scope.md R16;
41_arithmetic.md R222). -/
def SumFlags {n : Nat} (f : Flags) (a b r : BitVec n) (c : Bool) : Prop :=
  Szp f r ∧ (f.af = true ↔ 16 ≤ a.toNat % 16 + b.toNat % 16 + c.toNat) ∧ (f.of = true ↔ a.msb = b.msb ∧ r.msb ≠ a.msb)

/-- CF of a sum. -/
def SumCarry {n : Nat} (f : Flags) (a b : BitVec n) (c : Bool) : Prop :=
  f.cf = true ↔ 2 ^ n ≤ a.toNat + b.toNat + c.toNat

/-- The flags of the difference `r` but CF (00_scope.md R16). -/
def DiffFlags {n : Nat} (f : Flags) (a b r : BitVec n) (c : Bool) : Prop :=
  Szp f r ∧ (f.af = true ↔ a.toNat % 16 < b.toNat % 16 + c.toNat) ∧ (f.of = true ↔ a.msb ≠ b.msb ∧ r.msb ≠ a.msb)

/-- CF of a difference, the borrow. -/
def DiffCarry {n : Nat} (f : Flags) (a b : BitVec n) (c : Bool) : Prop := f.cf = true ↔ a.toNat < b.toNat + c.toNat

/-! The forms of the two-operand instructions (41_arithmetic.md R200). -/

/-- ADD, OR, ADC, SBB, AND, SUB, XOR, CMP. -/
inductive Alu where
  | add | or | adc | sbb | and | sub | xor | cmp
  deriving DecidableEq, Repr

/-- The byte forms; `rmImmDup` is opcode 82. -/
inductive ByteForm where
  | rmR (rm : RM8) (r : Reg8)
  | rRm (r : Reg8) (rm : RM8)
  | accImm (v : Byte)
  | rmImm (rm : RM8) (v : Byte)
  | rmImmDup (rm : RM8) (v : Byte)
  deriving DecidableEq, Repr

/-- The word forms; `rmImmSx` has a sign-extended byte. -/
inductive WordForm where
  | rmR (rm : RM16) (r : Reg16)
  | rRm (r : Reg16) (rm : RM16)
  | accImm (v : Word)
  | rmImm (rm : RM16) (v : Word)
  | rmImmSx (rm : RM16) (v : Byte)
  deriving DecidableEq, Repr

/-- The instruction of a byte form. -/
def Alu.byte : Alu → ByteForm → Instr
  | .add, .rmR rm r => .addRm8R8 rm r
  | .add, .rRm r rm => .addR8Rm8 r rm
  | .add, .accImm v => .addAlImm8 v
  | .add, .rmImm rm v => .addRm8Imm8 rm v
  | .add, .rmImmDup rm v => .addRm8Imm8Dup rm v
  | .or, .rmR rm r => .orRm8R8 rm r
  | .or, .rRm r rm => .orR8Rm8 r rm
  | .or, .accImm v => .orAlImm8 v
  | .or, .rmImm rm v => .orRm8Imm8 rm v
  | .or, .rmImmDup rm v => .orRm8Imm8Dup rm v
  | .adc, .rmR rm r => .adcRm8R8 rm r
  | .adc, .rRm r rm => .adcR8Rm8 r rm
  | .adc, .accImm v => .adcAlImm8 v
  | .adc, .rmImm rm v => .adcRm8Imm8 rm v
  | .adc, .rmImmDup rm v => .adcRm8Imm8Dup rm v
  | .sbb, .rmR rm r => .sbbRm8R8 rm r
  | .sbb, .rRm r rm => .sbbR8Rm8 r rm
  | .sbb, .accImm v => .sbbAlImm8 v
  | .sbb, .rmImm rm v => .sbbRm8Imm8 rm v
  | .sbb, .rmImmDup rm v => .sbbRm8Imm8Dup rm v
  | .and, .rmR rm r => .andRm8R8 rm r
  | .and, .rRm r rm => .andR8Rm8 r rm
  | .and, .accImm v => .andAlImm8 v
  | .and, .rmImm rm v => .andRm8Imm8 rm v
  | .and, .rmImmDup rm v => .andRm8Imm8Dup rm v
  | .sub, .rmR rm r => .subRm8R8 rm r
  | .sub, .rRm r rm => .subR8Rm8 r rm
  | .sub, .accImm v => .subAlImm8 v
  | .sub, .rmImm rm v => .subRm8Imm8 rm v
  | .sub, .rmImmDup rm v => .subRm8Imm8Dup rm v
  | .xor, .rmR rm r => .xorRm8R8 rm r
  | .xor, .rRm r rm => .xorR8Rm8 r rm
  | .xor, .accImm v => .xorAlImm8 v
  | .xor, .rmImm rm v => .xorRm8Imm8 rm v
  | .xor, .rmImmDup rm v => .xorRm8Imm8Dup rm v
  | .cmp, .rmR rm r => .cmpRm8R8 rm r
  | .cmp, .rRm r rm => .cmpR8Rm8 r rm
  | .cmp, .accImm v => .cmpAlImm8 v
  | .cmp, .rmImm rm v => .cmpRm8Imm8 rm v
  | .cmp, .rmImmDup rm v => .cmpRm8Imm8Dup rm v

/-- The instruction of a word form. -/
def Alu.word : Alu → WordForm → Instr
  | .add, .rmR rm r => .addRm16R16 rm r
  | .add, .rRm r rm => .addR16Rm16 r rm
  | .add, .accImm v => .addAxImm16 v
  | .add, .rmImm rm v => .addRm16Imm16 rm v
  | .add, .rmImmSx rm v => .addRm16Imm8 rm v
  | .or, .rmR rm r => .orRm16R16 rm r
  | .or, .rRm r rm => .orR16Rm16 r rm
  | .or, .accImm v => .orAxImm16 v
  | .or, .rmImm rm v => .orRm16Imm16 rm v
  | .or, .rmImmSx rm v => .orRm16Imm8 rm v
  | .adc, .rmR rm r => .adcRm16R16 rm r
  | .adc, .rRm r rm => .adcR16Rm16 r rm
  | .adc, .accImm v => .adcAxImm16 v
  | .adc, .rmImm rm v => .adcRm16Imm16 rm v
  | .adc, .rmImmSx rm v => .adcRm16Imm8 rm v
  | .sbb, .rmR rm r => .sbbRm16R16 rm r
  | .sbb, .rRm r rm => .sbbR16Rm16 r rm
  | .sbb, .accImm v => .sbbAxImm16 v
  | .sbb, .rmImm rm v => .sbbRm16Imm16 rm v
  | .sbb, .rmImmSx rm v => .sbbRm16Imm8 rm v
  | .and, .rmR rm r => .andRm16R16 rm r
  | .and, .rRm r rm => .andR16Rm16 r rm
  | .and, .accImm v => .andAxImm16 v
  | .and, .rmImm rm v => .andRm16Imm16 rm v
  | .and, .rmImmSx rm v => .andRm16Imm8 rm v
  | .sub, .rmR rm r => .subRm16R16 rm r
  | .sub, .rRm r rm => .subR16Rm16 r rm
  | .sub, .accImm v => .subAxImm16 v
  | .sub, .rmImm rm v => .subRm16Imm16 rm v
  | .sub, .rmImmSx rm v => .subRm16Imm8 rm v
  | .xor, .rmR rm r => .xorRm16R16 rm r
  | .xor, .rRm r rm => .xorR16Rm16 r rm
  | .xor, .accImm v => .xorAxImm16 v
  | .xor, .rmImm rm v => .xorRm16Imm16 rm v
  | .xor, .rmImmSx rm v => .xorRm16Imm8 rm v
  | .cmp, .rmR rm r => .cmpRm16R16 rm r
  | .cmp, .rRm r rm => .cmpR16Rm16 r rm
  | .cmp, .accImm v => .cmpAxImm16 v
  | .cmp, .rmImm rm v => .cmpRm16Imm16 rm v
  | .cmp, .rmImmSx rm v => .cmpRm16Imm8 rm v

/-- The destination of a byte form. -/
def ByteForm.dst : ByteForm → RM8
  | .rmR rm _ | .rmImm rm _ | .rmImmDup rm _ => rm
  | .rRm r _ => .reg r
  | .accImm _ => .reg .al

/-- The destination of a word form. -/
def WordForm.dst : WordForm → RM16
  | .rmR rm _ | .rmImm rm _ | .rmImmSx rm _ => rm
  | .rRm r _ => .reg r
  | .accImm _ => .reg .ax

/-- The source of a byte form: an operand or an immediate. -/
def ByteForm.src : ByteForm → RM8 ⊕ Byte
  | .rmR _ r => .inl (.reg r)
  | .rRm _ rm => .inl rm
  | .accImm v | .rmImm _ v | .rmImmDup _ v => .inr v

/-- The source of a word form: an operand or an immediate, sign-extended where it is a byte. -/
def WordForm.src : WordForm → RM16 ⊕ Word
  | .rmR _ r => .inl (.reg r)
  | .rRm _ rm => .inl rm
  | .accImm v | .rmImm _ v => .inr v
  | .rmImmSx _ v => .inr (v.signExtend 16)

/-- A byte source can be read. -/
def SrcReadable8 (s : State) : RM8 ⊕ Byte → Prop
  | .inl rm => Readable8 s rm
  | .inr _ => True

/-- A word source can be read. -/
def SrcReadable16 (s : State) : RM16 ⊕ Word → Prop
  | .inl rm => Readable16 s rm
  | .inr _ => True

/-- The value of a byte source. -/
def srcValue8 (s : State) : RM8 ⊕ Byte → Byte
  | .inl rm => value8 s rm
  | .inr v => v

/-- The value of a word source. -/
def srcValue16 (s : State) : RM16 ⊕ Word → Word
  | .inl rm => value16 s rm
  | .inr v => v

/-- The byte form of `i` puts `res a b` into its destination, with flags that `flg a b` admits, and changes nothing else. -/
def ByteResult (i : ByteForm → Instr) (res : State → Byte → Byte → Byte) (flg : State → Byte → Byte → Flags → Prop) : Prop :=
  ∀ (w : ByteForm) (s : State), NoRep s → Writable8 s w.dst → SrcReadable8 s w.src →
    ∃ t, exec (i w) s = .next t ∧ Ended s t ∧
      Put8 s t w.dst (res s (value8 s w.dst) (srcValue8 s w.src)) ∧
      flg s (value8 s w.dst) (srcValue8 s w.src) t.flags ∧ ControlKept s.flags t.flags

/-- The word form of `i` does the same with words. -/
def WordResult (i : WordForm → Instr) (res : State → Word → Word → Word) (flg : State → Word → Word → Flags → Prop) : Prop :=
  ∀ (w : WordForm) (s : State), NoRep s → Writable16 s w.dst → SrcReadable16 s w.src →
    ∃ t, exec (i w) s = .next t ∧ Ended s t ∧
      Put16 s t w.dst (res s (value16 s w.dst) (srcValue16 s w.src)) ∧
      flg s (value16 s w.dst) (srcValue16 s w.src) t.flags ∧ ControlKept s.flags t.flags

/-- `i` in state `s` only writes flags: those of `flg`. -/
def OnlyFlags (i : Instr) (s : State) (flg : Flags → Prop) : Prop :=
  ∃ t, exec i s = .next t ∧ t = after s { s with flags := t.flags } s.ipNext ∧ flg t.flags ∧ ControlKept s.flags t.flags

/-- `i` replaces the byte operand by `v`, with flags that `flg` admits. -/
def Replaces8 (i : Instr) (s : State) (rm : RM8) (v : Byte) (flg : Flags → Prop) : Prop :=
  ∃ t, exec i s = .next t ∧ Ended s t ∧ Put8 s t rm v ∧ flg t.flags ∧ ControlKept s.flags t.flags

/-- `i` replaces the word operand by `v`, with flags that `flg` admits. -/
def Replaces16 (i : Instr) (s : State) (rm : RM16) (v : Word) (flg : Flags → Prop) : Prop :=
  ∃ t, exec i s = .next t ∧ Ended s t ∧ Put16 s t rm v ∧ flg t.flags ∧ ControlKept s.flags t.flags

/-! The forms of the shifts and rotates (42_logic_shift_rotate.md R246). -/

/-- The seven operations. -/
inductive Shift where
  | rol | ror | rcl | rcr | shl | shr | sar
  deriving DecidableEq, Repr

/-- Where the count comes from. -/
inductive Count where
  | imm (v : Byte)
  | one
  | cl
  deriving DecidableEq, Repr

/-- The byte instruction. -/
def Shift.byte (rm : RM8) : Shift → Count → Instr
  | .rol, .imm v => .rolRm8Imm8 rm v
  | .rol, .one => .rolRm8One rm
  | .rol, .cl => .rolRm8Cl rm
  | .ror, .imm v => .rorRm8Imm8 rm v
  | .ror, .one => .rorRm8One rm
  | .ror, .cl => .rorRm8Cl rm
  | .rcl, .imm v => .rclRm8Imm8 rm v
  | .rcl, .one => .rclRm8One rm
  | .rcl, .cl => .rclRm8Cl rm
  | .rcr, .imm v => .rcrRm8Imm8 rm v
  | .rcr, .one => .rcrRm8One rm
  | .rcr, .cl => .rcrRm8Cl rm
  | .shl, .imm v => .shlRm8Imm8 rm v
  | .shl, .one => .shlRm8One rm
  | .shl, .cl => .shlRm8Cl rm
  | .shr, .imm v => .shrRm8Imm8 rm v
  | .shr, .one => .shrRm8One rm
  | .shr, .cl => .shrRm8Cl rm
  | .sar, .imm v => .sarRm8Imm8 rm v
  | .sar, .one => .sarRm8One rm
  | .sar, .cl => .sarRm8Cl rm

/-- The word instruction. -/
def Shift.word (rm : RM16) : Shift → Count → Instr
  | .rol, .imm v => .rolRm16Imm8 rm v
  | .rol, .one => .rolRm16One rm
  | .rol, .cl => .rolRm16Cl rm
  | .ror, .imm v => .rorRm16Imm8 rm v
  | .ror, .one => .rorRm16One rm
  | .ror, .cl => .rorRm16Cl rm
  | .rcl, .imm v => .rclRm16Imm8 rm v
  | .rcl, .one => .rclRm16One rm
  | .rcl, .cl => .rclRm16Cl rm
  | .rcr, .imm v => .rcrRm16Imm8 rm v
  | .rcr, .one => .rcrRm16One rm
  | .rcr, .cl => .rcrRm16Cl rm
  | .shl, .imm v => .shlRm16Imm8 rm v
  | .shl, .one => .shlRm16One rm
  | .shl, .cl => .shlRm16Cl rm
  | .shr, .imm v => .shrRm16Imm8 rm v
  | .shr, .one => .shrRm16One rm
  | .shr, .cl => .shrRm16Cl rm
  | .sar, .imm v => .sarRm16Imm8 rm v
  | .sar, .one => .sarRm16One rm
  | .sar, .cl => .sarRm16Cl rm

/-- The low five bits of the count (42_logic_shift_rotate.md R246). -/
def Count.value (s : State) : Count → Nat
  | .imm v => v.toNat % 32
  | .one => 1
  | .cl => (s.reg8 .cl).toNat % 32

/-- The shift or rotate `op` turns an operand `a` by `c` places into `(res s a c)`, with flags that `flg s a c` admits; a count
of 0 changes nothing but IP. -/
def ShiftResult (op : Shift) (res : ∀ {n : Nat}, State → BitVec n → Nat → BitVec n)
    (flg : ∀ {n : Nat}, State → BitVec n → Nat → Flags → Prop) : Prop :=
  (∀ rm k s, NoRep s → Writable8 s rm → Count.value s k ≠ 0 →
    Replaces8 (op.byte rm k) s rm (res s (value8 s rm) (Count.value s k)) (flg s (value8 s rm) (Count.value s k))) ∧
  (∀ rm k s, NoRep s → Writable16 s rm → Count.value s k ≠ 0 →
    Replaces16 (op.word rm k) s rm (res s (value16 s rm) (Count.value s k)) (flg s (value16 s rm) (Count.value s k))) ∧
  (∀ rm k s, NoRep s → Writable8 s rm → Count.value s k = 0 → exec (op.byte rm k) s = .next (after s s s.ipNext)) ∧
  (∀ rm k s, NoRep s → Writable16 s rm → Count.value s k = 0 → exec (op.word rm k) s = .next (after s s s.ipNext))

/-! The stack. -/

/-- The word can be pushed. -/
def PushFits (s : State) : Prop := Fits s .ss (s.regs.sp - 2).toNat 2 true

/-- `t` is `s` with `v` pushed. -/
def Pushed (s t : State) (v : Word) : Prop :=
  t.regs = { s.regs with sp := s.regs.sp - 2 } ∧ StoredWord s t .ss (s.regs.sp - 2).toNat v

/-- The word at the top of the stack can be read. -/
def PopFits (s : State) : Prop := Fits s .ss s.regs.sp.toNat 2 false

/-- The word at the top of the stack. -/
def top (s : State) : Word := wordAt s .ss s.regs.sp.toNat

/-- The word `k` words above the top of the stack. -/
def stackAt (s : State) (k : Nat) : Word := wordAt s .ss (s.regs.sp + BitVec.ofNat 16 (2 * k)).toNat

/-- The word `k` words above the top of the stack can be read. -/
def StackFits (s : State) (k : Nat) : Prop := Fits s .ss (s.regs.sp + BitVec.ofNat 16 (2 * k)).toNat 2 false

end Sys2Proof.Claims

open Sys2Proof.Claims

/-! Encoding. -/

/-- Some words written out from the spec's encodings decode to the instructions they stand for (30_encoding.md R121 to R139). -/
def Obligations.DecodeWords : Prop :=
  decode [0x01, 0xD8] = .instr (.addRm16R16 (.reg .ax) .bx) [] ∧
  decode [0xB8, 0x34, 0x12] = .instr (.movR16Imm16 .ax 0x1234) [] ∧
  decode [0x88, 0x48, 0x04] = .instr (.movRm8R8 (.mem (.disp8 .bxsi 4)) .cl) [] ∧
  decode [0x8C, 0xD8] = .instr (.movRm16Sreg (.reg .ax) .ds) [] ∧
  decode [0xC1, 0xE8, 0x04] = .instr (.shrRm16Imm8 (.reg .ax) 4) [] ∧
  decode [0x75, 0xFE] = .instr (.jne 0xFE) [] ∧
  decode [0x9A, 0x00, 0x01, 0x00, 0x20] = .instr (.callPtr 0x2000 0x0100) [] ∧
  decode [0xC8, 0x10, 0x00, 0x02] = .instr (.enter 0x0010 2) [] ∧
  decode [0xF3] = .instr .rep [] ∧
  decode [0xD9, 0x06, 0x00, 0x02] = .instr (.esc 8 (.mem (.direct 0x0200))) [] ∧
  decode [0x0F, 0x01, 0xE0] = .instr (.smsw (.reg .ax)) [] ∧
  decode [0xA4, 0x90] = .instr .movsb [0x90]

/-- Decoding the bytes of a well-formed instruction gives it back with what follows (30_encoding.md R121 to R140). -/
def Obligations.RoundTrip : Prop :=
  ∀ (i : Instr) (rest : List Byte), i.wellFormed = true → decode (encode i ++ rest) = .instr i rest

/-- The encodings that decode as illegal and those that decode as reserved (30_encoding.md R141), whatever follows them. -/
def Sys2Proof.Claims.RejectedBytes : Prop :=
  (∀ op : Byte, op = 0x64 ∨ op = 0x65 ∨ op = 0x66 ∨ op = 0x67 → ∀ rest, decode (op :: rest) = .illegal) ∧
  (∀ b : Byte, 5 < b.toNat → b ≠ 0x06 → ∀ rest, decode (0x0F :: b :: rest) = .illegal) ∧
  (∀ (g : BitVec 3) (rm : RM16), rm.wellFormed = true → 6 ≤ g.toNat → ∀ rest, decode (0x0F :: 0x00 :: (rm.bytes g ++ rest)) = .illegal) ∧
  (∀ (g : BitVec 3) (rm : RM16), rm.wellFormed = true → g = 5 ∨ g = 7 →
    ∀ rest, decode (0x0F :: 0x01 :: (rm.bytes g ++ rest)) = .illegal) ∧
  (∀ (g : BitVec 3) (r : Reg16), g.toNat ≤ 3 → ∀ rest, decode (0x0F :: 0x01 :: (RM16.bytes (.reg r) g ++ rest)) = .illegal) ∧
  (∀ (g : BitVec 3) (rm : RM8), rm.wellFormed = true → 2 ≤ g.toNat → ∀ rest, decode (0xFE :: (rm.bytes g ++ rest)) = .illegal) ∧
  (∀ rm : RM16, rm.wellFormed = true → ∀ rest, decode (0xFF :: (rm.bytes 7 ++ rest)) = .illegal) ∧
  (∀ (g : BitVec 3) (r : Reg16), g = 3 ∨ g = 5 → ∀ rest, decode (0xFF :: (RM16.bytes (.reg r) g ++ rest)) = .illegal) ∧
  (∀ op : Byte, op = 0x8D ∨ op = 0xC4 ∨ op = 0xC5 ∨ op = 0x62 →
    ∀ (g : BitVec 3) (r : Reg16) (rest : List Byte), decode (op :: (RM16.bytes (.reg r) g ++ rest)) = .illegal) ∧
  (∀ rm : RM16, rm.wellFormed = true → ∀ rest, decode (0x8E :: (rm.bytes 1 ++ rest)) = .illegal) ∧
  (∀ op : Byte, op = 0xD6 ∨ op = 0xF1 → ∀ rest, decode (op :: rest) = .reserved) ∧
  (∀ b : Byte, b = 0x04 ∨ b = 0x05 → ∀ rest, decode (0x0F :: b :: rest) = .reserved) ∧
  (∀ op : Byte, op = 0x8C ∨ op = 0x8E →
    ∀ (g : BitVec 3) (rm : RM16), rm.wellFormed = true → 4 ≤ g.toNat → ∀ rest, decode (op :: (rm.bytes g ++ rest)) = .reserved) ∧
  (∀ op : Byte, op = 0x8F ∨ op = 0xC6 ∨ op = 0xC7 →
    ∀ (g : BitVec 3) (rm : RM16), rm.wellFormed = true → g ≠ 0 → ∀ rest, decode (op :: (rm.bytes g ++ rest)) = .reserved) ∧
  (∀ op : Byte, op = 0xC0 ∨ op = 0xC1 ∨ op = 0xD0 ∨ op = 0xD1 ∨ op = 0xD2 ∨ op = 0xD3 →
    ∀ rm : RM16, rm.wellFormed = true → ∀ rest, decode (op :: (rm.bytes 6 ++ rest)) = .reserved) ∧
  (∀ op : Byte, op = 0xF6 ∨ op = 0xF7 →
    ∀ rm : RM16, rm.wellFormed = true → ∀ rest, decode (op :: (rm.bytes 1 ++ rest)) = .reserved)

/-- What a step does at bytes that are no instruction: an illegal encoding raises InvalidOpcode and bytes that end inside an
instruction raise GeneralProtection(0), whether they end at the segment's limit or after the tenth byte, both delivered in the
state before with the IP of the first prefix byte; a reserved encoding is refused, log 14 (20_memory.md R93; 30_encoding.md R141;
60_exceptions.md R424, R454). -/
def Sys2Proof.Claims.RejectedSteps : Prop :=
  ∀ s : State, s.pins.reset = false → s.boundary = none → s.again = none →
    (decode s.fetchBytes = .illegal → step s = .next (s.finish (s.deliver { exc := .invalidOpcode, context := none }))) ∧
    (decode s.fetchBytes = .short → step s = .next (s.finish (s.deliver { exc := .generalProtection 0, context := none }))) ∧
    (decode s.fetchBytes = .reserved → step s = .refused .reservedOpcode)

/-- The encodings that are no instruction, whatever follows them, and what a step does at them: the illegal ones raise
InvalidOpcode, the reserved ones are refused (log 14), and bytes that end inside an instruction raise GeneralProtection(0)
(20_memory.md R93; 30_encoding.md R141). -/
def Obligations.RejectedEncodings : Prop := RejectedBytes ∧ RejectedSteps

/-! The machine: fetch, reset, invariants. -/

/-- A step at a state whose bytes decode to `i` is `exec i`, with `ip_next` past the instruction's bytes and the queue in use;
between two elements of a repeated string instruction it is `exec` of that instruction, which is not fetched again; around it
only the clock and the bytes a queue may still hold move: a changed byte of the 36 from `ip_next` on is kept with its old value,
until the queue is emptied (10_state.md R24; 20_memory.md R110, R111; logs 11 and 33). -/
def Obligations.StepRuns : Prop :=
  (∀ (s : State) (i : Instr) (rest : List Byte), s.pins.reset = false → s.boundary = none → s.again = none →
    decode s.fetchBytes = .instr i rest → i.wellFormed = true →
    step s =
      match exec i { s with
          ipNext := BitVec.ofNat 16 (s.ip.toNat + s.pfx.count + (s.fetchBytes.length - rest.length)), queueEmpty := false } with
      | .next t => .next (s.finish t)
      | .fault f => .fault f
      | .refused r => .refused r) ∧
  (∀ (s : State) (op : StringOp), s.pins.reset = false → s.boundary = none → s.again = some op →
    step s =
      match exec op.instr s with
      | .next t => .next (s.finish t)
      | .fault f => .fault f
      | .refused r => .refused r) ∧
  (∀ s t : State, s.finish t = { t with clock := s.clock + 1, stale := (s.finish t).stale }) ∧
  (∀ s t : State, t.queueEmpty = true → (s.finish t).stale = []) ∧
  (∀ s t : State, t.queueEmpty = false → s.mem = t.mem → (s.finish t).stale = t.stale) ∧
  (∀ s t : State, t.queueEmpty = false → ∀ p v, (p, v) ∈ (s.finish t).stale ↔
    (p, v) ∈ t.stale ∨ (s.mem ≠ t.mem ∧ v = s.physByte p ∧ s.physByte p ≠ t.physByte p ∧
      ∃ k, k < 36 ∧ p = physAddr t.msw.pe (t.linear .cs (t.ipNext.toNat + k))))

/-- Where memory holds the bytes of a well-formed instruction at the fetch address, inside the code segment and the limit of
ten bytes, and the queue holds nothing older, a step runs exactly that instruction (10_state.md R24; 30_encoding.md R121). -/
def Obligations.StepRunsEncoded : Prop :=
  ∀ (s : State) (i : Instr), i.wellFormed = true → s.pins.reset = false → s.boundary = none → s.again = none → s.stale = [] →
    s.pfx.count + (encode i).length ≤ 10 → s.ip.toNat + s.pfx.count + (encode i).length ≤ s.codeLimit + 1 →
    (∀ k (h : k < (encode i).length),
      s.physByte (physAddr s.msw.pe (s.linear .cs (s.ip.toNat + s.pfx.count + k))) = (encode i)[k]) →
    step s =
      match exec i { s with
          ipNext := BitVec.ofNat 16 (s.ip.toNat + s.pfx.count + (encode i).length), queueEmpty := false } with
      | .next t => .next (s.finish t)
      | .fault f => .fault f
      | .refused r => .refused r

/-- The state after reset, in all that 10_state.md R60 gives a value to. -/
def Sys2Proof.Claims.ResetValues : Prop :=
  flagsWord State.reset.flags = 0x0002 ∧
  State.reset.msw = { pe := false, mp := false, em := false, ts := false } ∧
  State.reset.ip = 0xFFF0 ∧
  State.reset.cs.sel = 0xF000 ∧ State.reset.cs.base = 0xFF0000 ∧ State.reset.cs.limit = 0xFFFF ∧
  (∀ r, r ≠ SReg.cs → (State.reset.seg r).sel = 0 ∧ (State.reset.seg r).base = 0 ∧ (State.reset.seg r).limit = 0xFFFF) ∧
  State.reset.idtr = { base := 0, limit := 0x03FF } ∧
  State.reset.cpl = 0 ∧ State.reset.halted = false ∧ State.reset.shutdown = false ∧ State.reset.shadow = .none ∧
  State.reset.nmiInService = false ∧ State.reset.queueEmpty = true ∧
  physAddr State.reset.msw.pe (State.reset.linear .cs State.reset.fetchOffset) = 0xFFFFF0

/-- The invariant holds at reset. -/
def Obligations.ResetInv : Prop := Inv State.reset

/-- Every step keeps the invariant: memory in its canonical form (20_memory.md R80), level 0 with IOPL and NT 0 in Real Address
Mode (10_state.md R25, R50), as many prefix bytes read as are recorded (30_encoding.md R122; log 1), and a repeat prefix wherever
a string instruction is between two elements (43_string.md R279; log 33). -/
def Obligations.StepKeepsInv : Prop := ∀ s t : State, Inv s → step s = .next t → Inv t

/-- Real Address Mode is left by LMSW alone and returned to by RESET alone (10_state.md R45). -/
def Obligations.ModeChanges : Prop :=
  (∀ s t : State, step s = .next t → s.pins.reset = false → s.msw.pe = true → t.msw.pe = true) ∧
  (∀ s t : State, step s = .next t → s.pins.reset = true → t.msw.pe = false) ∧
  (∀ s t : State, step s = .next t → s.msw.pe = false → t.msw.pe = true →
    ∃ rm rest, decode s.fetchBytes = .instr (.lmsw rm) rest)

/-- Outside level 0 no step changes GDTR, IDTR, PE, MP or EM, and TS is at most set (60_exceptions.md R463; 47_protected_mode.md
R371, R372, R374, R392). -/
def Sys2Proof.Claims.PrivilegedState : Prop :=
  ∀ s t : State, step s = .next t → s.pins.reset = false → s.msw.pe = true → s.cpl ≠ 0 →
    t.gdtr = s.gdtr ∧ t.idtr = s.idtr ∧ t.msw.pe = s.msw.pe ∧ t.msw.mp = s.msw.mp ∧ t.msw.em = s.msw.em ∧
      (s.msw.ts = true → t.msw.ts = true)

/-- A step writes a port only where the I/O privilege allows it, and then exactly once (60_exceptions.md R462; 20_memory.md
R84). The record of port writes is the model's own, log 9, and that a step makes one write at most is the model's choice too: a
repeated OUTS is one element a step, log 33. -/
def Sys2Proof.Claims.PortsNeedPrivilege : Prop :=
  ∀ s t : State, step s = .next t → t.portTrace ≠ s.portTrace →
    (s.msw.pe = false ∨ s.cpl ≤ s.flags.iopl) ∧ ∃ w, t.portTrace = s.portTrace ++ [w]

/-- No step outside level 0 reconfigures the machine, and no step without the I/O privilege writes a port (60_exceptions.md
R462, R463). That a step adds exactly one write to the record rests on the model's choices of logs 9 and 33. -/
def Obligations.PrivilegeHolds : Prop := PrivilegedState ∧ PortsNeedPrivilege

/-- RESET gives the reset state with memory and the port and device writes as they were (10_state.md R60; 70_reset_and_hazards.md R480,
R481); that the request is withdrawn, the clock moves and the other inputs stay is the model's choice, log 10. -/
def Sys2Proof.Claims.ResetStep : Prop :=
  ∀ s : State, s.pins.reset = true →
    step s = .next { State.reset with
      mem := s.mem, portTrace := s.portTrace, deviceTrace := s.deviceTrace, pins := { s.pins with reset := false }
      clock := s.clock + 1 }

/-- The state after reset and the step that RESET takes (10_state.md R60; 70_reset_and_hazards.md R480, R481). -/
def Obligations.Reset : Prop := ResetValues ∧ ResetStep

/-- What a boundary does before the next instruction, by priority (60_exceptions.md R422, R436, R438, R451 to R453): a
single-step trap, an NMI, a segment overrun, a maskable interrupt, and else a halted machine idles and a running one runs. No
event comes between a prefix and its opcode, but one may come between two elements of a repeated string instruction
(43_string.md R279); that the shadow of the instruction before it holds events off there too is log 27. -/
def Obligations.EventPriority : Prop :=
  ∀ s : State, s.pins.reset = false → (s.pfx.count = 0 ∨ s.again ≠ none) →
    (s.shutdown = false → s.trapPending = true → step s = .next (s.finish (s.takeTrap))) ∧
    (s.nmiPending = true → s.nmiInService = false → s.shadow ≠ .ss → (s.shutdown = true ∨ s.trapPending = false) →
      step s = .next (s.finish s.takeNmi)) ∧
    (s.shutdown = false → s.trapPending = false → (s.nmiPending = false ∨ s.nmiInService = true ∨ s.shadow = .ss) →
      (s.pins.overrun = true → s.halted = false → step s = .next (s.finish s.takeOverrun)) ∧
      (s.pins.overrun = false ∨ s.halted = true →
        (∀ n, s.pins.intr = some n → s.flags.ifl = true → s.shadow = .none → step s = .next (s.finish (s.takeIntr n))) ∧
        ((s.pins.intr = none ∨ s.flags.ifl = false ∨ s.shadow ≠ .none) →
          (s.halted = true → step s = .next (s.finish s)) ∧ (s.halted = false → s.boundary = none)))) ∧
    (s.shutdown = true → (s.nmiPending = false ∨ s.nmiInService = true ∨ s.shadow = .ss) → step s = .next (s.finish s)) ∧
    (∀ s' : State, s'.pfx.count ≠ 0 → s'.again = none → s'.boundary = none)

/-! Memory and segments. -/

/-- A read or write through a segment register is made at base plus offset where 20_memory.md R90 to R93 allow it, and raises
the exception they say where they do not, with nothing changed. -/
def Obligations.SegmentAccess : Prop :=
  (∀ (s : State) (r : SReg) (off : Word),
    (Fits s r off.toNat 1 false → s.lread8 r off = .ok (byteAt s r off.toNat)) ∧
    (Fits s r off.toNat 2 false → s.lread16 r off = .ok (wordAt s r off.toNat)) ∧
    (¬Fits s r off.toNat 1 false → ∃ e, AccessExc s r false e ∧ s.lread8 r off = .error { exc := e, context := none }) ∧
    (¬Fits s r off.toNat 2 false → ∃ e, AccessExc s r false e ∧ s.lread16 r off = .error { exc := e, context := none })) ∧
  (∀ (s : State) (r : SReg) (off : Word) (v : Byte),
    (Fits s r off.toNat 1 true →
      ∃ t, s.lwrite8 r off v = .ok t ∧ t = { s with mem := t.mem } ∧ StoredByte s t r off.toNat v) ∧
    (¬Fits s r off.toNat 1 true → ∃ e, AccessExc s r true e ∧ s.lwrite8 r off v = .error { exc := e, context := none })) ∧
  (∀ (s : State) (r : SReg) (off v : Word),
    (Fits s r off.toNat 2 true →
      ∃ t, s.lwrite16 r off v = .ok t ∧ t = { s with mem := t.mem } ∧ StoredWord s t r off.toNat v) ∧
    (¬Fits s r off.toNat 2 true → ∃ e, AccessExc s r true e ∧ s.lwrite16 r off v = .error { exc := e, context := none }))

/-- What is pushed is popped: two words pushed come back in the other order and the registers are as before
(00_scope.md R14). -/
def Obligations.PushThenPop : Prop :=
  ∀ (s t u : State) (a b : Word), s.push 0 a = .ok t → t.push 0 b = .ok u →
    ∃ p q, u.pop = .ok (b, p) ∧ p.pop = .ok (a, q) ∧ q.regs = s.regs ∧ q = { s with mem := u.mem }

/-- Effective addresses and default segments (30_encoding.md R130, R131): the register sums by rm number, displacements added
modulo 2^16, SS for the forms with BP and DS for the others, and an override instead of either. -/
def Obligations.EffectiveAddress : Prop :=
  ∀ (s : State) (d8 : Byte) (d16 : Word),
    [0, 1, 2, 3, 4, 5, 6, 7].map (fun k => s.ea (.disp8 (Base.ofNum k) 0)) =
      [s.regs.bx + s.regs.si, s.regs.bx + s.regs.di, s.regs.bp + s.regs.si, s.regs.bp + s.regs.di, s.regs.si, s.regs.di,
        s.regs.bp, s.regs.bx] ∧
    (∀ b, s.ea (.base b) = s.ea (.disp16 b 0) ∧ s.ea (.disp8 b d8) = s.ea (.base b) + d8.signExtend 16 ∧
      s.ea (.disp16 b d16) = s.ea (.base b) + d16) ∧
    s.ea (.direct d16) = d16 ∧
    (s.pfx.seg = none →
      (∀ b, s.segOf (.base b) = s.segOf (.disp8 b d8) ∧ s.segOf (.base b) = s.segOf (.disp16 b d16) ∧
        (s.segOf (.base b) = .ss ↔ b = .bpsi ∨ b = .bpdi ∨ b = .bp) ∧
        (s.segOf (.base b) = .ds ↔ b ≠ .bpsi ∧ b ≠ .bpdi ∧ b ≠ .bp)) ∧
      s.segOf (.direct d16) = .ds) ∧
    (∀ r m, s.pfx.seg = some r → s.segOf m = r)

/-- The flags word (10_state.md R25): each flag at its bit, bit 1 reading 1 and bits 3, 5 and 15 reading 0; a word loaded and
read back loses only those four bits. -/
def Obligations.FlagsWordLayout : Prop :=
  (∀ f : Flags, (List.range 16).map (flagsWord f).getLsbD =
    [f.cf, true, f.pf, false, f.af, false, f.zf, f.sf, f.tf, f.ifl, f.df, f.of, f.iopl.getLsbD 0, f.iopl.getLsbD 1, f.nt,
      false]) ∧
  (∀ f : Flags, flagsOfWord (flagsWord f) = f) ∧
  (∀ w : Word, flagsWord (flagsOfWord w) = (w &&& 0x7FD7) ||| 2)

/-- A descriptor in its table (10_state.md R42, R46, R48; 20_memory.md R98, R102): eight bytes at the table's base plus 8 times
the index, inside the table's limit, with limit, base and access byte at their places; a selector of the LDT has none while
LDTR is invalid. -/
def Obligations.DescriptorFetch : Prop :=
  ∀ (s : State) (sel : Word),
    (sel.getLsbD 2 = false →
      (s.fetchDesc sel = none ↔ s.gdtr.limit.toNat < 8 * (sel.toNat / 8) + 7)) ∧
    (sel.getLsbD 2 = true →
      (s.fetchDesc sel = none ↔ s.ldtr.valid = false ∨ s.ldtr.limit.toNat < 8 * (sel.toNat / 8) + 7)) ∧
    (∀ d, s.fetchDesc sel = some d →
      d.addr = (if sel.getLsbD 2 = true then s.ldtr.base.toNat else s.gdtr.base.toNat) + 8 * (sel.toNat / 8) ∧
      d.limit = s.read8 (d.addr + 1) ++ s.read8 d.addr ∧
      d.base = s.read8 (d.addr + 4) ++ s.read8 (d.addr + 3) ++ s.read8 (d.addr + 2) ∧
      d.ar = s.read8 (d.addr + 5))

/-! Arithmetic and logic. -/

/-- ADD and ADC in all ten forms: the destination gets the sum, with CF added for ADC, and the flags are those of the sum
(41_arithmetic.md R200 to R202). -/
def Sys2Proof.Claims.AddAdc : Prop :=
  ByteResult (Alu.add.byte) (fun _ a b => a + b) (fun _ a b f => SumFlags f a b (a + b) false ∧ SumCarry f a b false) ∧
  WordResult (Alu.add.word) (fun _ a b => a + b) (fun _ a b f => SumFlags f a b (a + b) false ∧ SumCarry f a b false) ∧
  ByteResult (Alu.adc.byte) (fun s a b => a + b + BitVec.ofNat 8 s.flags.cf.toNat)
    (fun s a b f => SumFlags f a b (a + b + BitVec.ofNat 8 s.flags.cf.toNat) s.flags.cf ∧ SumCarry f a b s.flags.cf) ∧
  WordResult (Alu.adc.word) (fun s a b => a + b + BitVec.ofNat 16 s.flags.cf.toNat)
    (fun s a b f => SumFlags f a b (a + b + BitVec.ofNat 16 s.flags.cf.toNat) s.flags.cf ∧ SumCarry f a b s.flags.cf)

/-- SUB and SBB in all ten forms: the destination gets the difference, less CF for SBB, and the flags are those of the
difference (41_arithmetic.md R206, R207). -/
def Sys2Proof.Claims.SubSbb : Prop :=
  ByteResult (Alu.sub.byte) (fun _ a b => a - b) (fun _ a b f => DiffFlags f a b (a - b) false ∧ DiffCarry f a b false) ∧
  WordResult (Alu.sub.word) (fun _ a b => a - b) (fun _ a b f => DiffFlags f a b (a - b) false ∧ DiffCarry f a b false) ∧
  ByteResult (Alu.sbb.byte) (fun s a b => a - b - BitVec.ofNat 8 s.flags.cf.toNat)
    (fun s a b f => DiffFlags f a b (a - b - BitVec.ofNat 8 s.flags.cf.toNat) s.flags.cf ∧ DiffCarry f a b s.flags.cf) ∧
  WordResult (Alu.sbb.word) (fun s a b => a - b - BitVec.ofNat 16 s.flags.cf.toNat)
    (fun s a b f => DiffFlags f a b (a - b - BitVec.ofNat 16 s.flags.cf.toNat) s.flags.cf ∧ DiffCarry f a b s.flags.cf)

/-- ADD, ADC, SUB and SBB in all their forms: result and flags (41_arithmetic.md R200 to R202, R206, R207). -/
def Obligations.AddSubtract : Prop := AddAdc ∧ SubSbb

/-- CMP writes the flags of SUB and TEST those of AND, in all their forms, and neither changes an operand; a memory
destination only needs to be readable (41_arithmetic.md R210; 42_logic_shift_rotate.md R245). AF after TEST is undefined. -/
def Obligations.CmpTest : Prop :=
  (∀ (w : ByteForm) (s : State), NoRep s → Readable8 s w.dst → SrcReadable8 s w.src →
    OnlyFlags (Alu.cmp.byte w) s fun f =>
      DiffFlags f (value8 s w.dst) (srcValue8 s w.src) (value8 s w.dst - srcValue8 s w.src) false ∧
        DiffCarry f (value8 s w.dst) (srcValue8 s w.src) false) ∧
  (∀ (w : WordForm) (s : State), NoRep s → Readable16 s w.dst → SrcReadable16 s w.src →
    OnlyFlags (Alu.cmp.word w) s fun f =>
      DiffFlags f (value16 s w.dst) (srcValue16 s w.src) (value16 s w.dst - srcValue16 s w.src) false ∧
        DiffCarry f (value16 s w.dst) (srcValue16 s w.src) false) ∧
  (∀ (rm : RM8) (r : Reg8) (v : Byte) (s : State), NoRep s → Readable8 s rm →
    OnlyFlags (.testRm8R8 rm r) s (fun f => Szp f (value8 s rm &&& s.reg8 r) ∧ f.cf = false ∧ f.of = false) ∧
    OnlyFlags (.testRm8Imm8 rm v) s (fun f => Szp f (value8 s rm &&& v) ∧ f.cf = false ∧ f.of = false) ∧
    OnlyFlags (.testAlImm8 v) s (fun f => Szp f (s.reg8 .al &&& v) ∧ f.cf = false ∧ f.of = false)) ∧
  (∀ (rm : RM16) (r : Reg16) (v : Word) (s : State), NoRep s → Readable16 s rm →
    OnlyFlags (.testRm16R16 rm r) s (fun f => Szp f (value16 s rm &&& s.reg16 r) ∧ f.cf = false ∧ f.of = false) ∧
    OnlyFlags (.testRm16Imm16 rm v) s (fun f => Szp f (value16 s rm &&& v) ∧ f.cf = false ∧ f.of = false) ∧
    OnlyFlags (.testAxImm16 v) s (fun f => Szp f (s.regs.ax &&& v) ∧ f.cf = false ∧ f.of = false))

/-- AND, OR and XOR in all ten forms: the result, CF and OF 0, and SF, ZF, PF of the result (42_logic_shift_rotate.md R240,
R242 to R244). AF is undefined. -/
def Obligations.AndOrXor : Prop :=
  ByteResult (Alu.and.byte) (fun _ a b => a &&& b) (fun _ a b f => Szp f (a &&& b) ∧ f.cf = false ∧ f.of = false) ∧
  WordResult (Alu.and.word) (fun _ a b => a &&& b) (fun _ a b f => Szp f (a &&& b) ∧ f.cf = false ∧ f.of = false) ∧
  ByteResult (Alu.or.byte) (fun _ a b => a ||| b) (fun _ a b f => Szp f (a ||| b) ∧ f.cf = false ∧ f.of = false) ∧
  WordResult (Alu.or.word) (fun _ a b => a ||| b) (fun _ a b f => Szp f (a ||| b) ∧ f.cf = false ∧ f.of = false) ∧
  ByteResult (Alu.xor.byte) (fun _ a b => a ^^^ b) (fun _ a b f => Szp f (a ^^^ b) ∧ f.cf = false ∧ f.of = false) ∧
  WordResult (Alu.xor.word) (fun _ a b => a ^^^ b) (fun _ a b f => Szp f (a ^^^ b) ∧ f.cf = false ∧ f.of = false)

/-- The instructions that only read their byte operand. -/
def Sys2Proof.Claims.byteReaders (rm : RM8) (r : Reg8) (v : Byte) : List Instr :=
  [.testRm8R8 rm r, .testRm8Imm8 rm v, .movR8Rm8 r rm, .mulRm8 rm, .imulRm8 rm, .divRm8 rm, .idivRm8 rm]

/-- The instructions that read their byte operand and then write it. -/
def Sys2Proof.Claims.byteChangers (rm : RM8) (r : Reg8) (v : Byte) : List Instr :=
  [.incRm8 rm, .decRm8 rm, .negRm8 rm, .notRm8 rm, .xchgRm8R8 rm r, .rolRm8Imm8 rm v, .rolRm8One rm, .rolRm8Cl rm,
    .rorRm8Imm8 rm v, .rorRm8One rm, .rorRm8Cl rm, .rclRm8Imm8 rm v, .rclRm8One rm, .rclRm8Cl rm, .rcrRm8Imm8 rm v,
    .rcrRm8One rm, .rcrRm8Cl rm, .shlRm8Imm8 rm v, .shlRm8One rm, .shlRm8Cl rm, .shrRm8Imm8 rm v, .shrRm8One rm,
    .shrRm8Cl rm, .sarRm8Imm8 rm v, .sarRm8One rm, .sarRm8Cl rm]

/-- The instructions that only write their byte operand. -/
def Sys2Proof.Claims.byteWriters (rm : RM8) (r : Reg8) (v : Byte) : List Instr := [.movRm8R8 rm r, .movRm8Imm8 rm v]

/-- The instructions that only read their word operand, in either mode and at any level. -/
def Sys2Proof.Claims.wordReaders (rm : RM16) (r : Reg16) (v : Word) (b : Byte) : List Instr :=
  [.testRm16R16 rm r, .testRm16Imm16 rm v, .movR16Rm16 r rm, .movSregRm16 .es rm, .movSregRm16 .ss rm, .movSregRm16 .ds rm,
    .mulRm16 rm, .imulRm16 rm, .divRm16 rm, .idivRm16 rm, .imulR16Rm16Imm16 r rm v, .imulR16Rm16Imm8 r rm b, .pushRm16 rm,
    .callRm16 rm, .jmpRm16 rm]

/-- The instructions that read their word operand and then write it, in either mode. -/
def Sys2Proof.Claims.wordChangers (rm : RM16) (r : Reg16) (b : Byte) : List Instr :=
  [.incRm16 rm, .decRm16 rm, .negRm16 rm, .notRm16 rm, .xchgRm16R16 rm r, .rolRm16Imm8 rm b, .rolRm16One rm, .rolRm16Cl rm,
    .rorRm16Imm8 rm b, .rorRm16One rm, .rorRm16Cl rm, .rclRm16Imm8 rm b, .rclRm16One rm, .rclRm16Cl rm, .rcrRm16Imm8 rm b,
    .rcrRm16One rm, .rcrRm16Cl rm, .shlRm16Imm8 rm b, .shlRm16One rm, .shlRm16Cl rm, .shrRm16Imm8 rm b, .shrRm16One rm,
    .shrRm16Cl rm, .sarRm16Imm8 rm b, .sarRm16One rm, .sarRm16Cl rm]

/-- The instructions that only write their word operand, in either mode. -/
def Sys2Proof.Claims.wordWriters (rm : RM16) (r : Reg16) (sr : SReg) (v : Word) : List Instr :=
  [.movRm16R16 rm r, .movRm16Imm16 rm v, .movRm16Sreg rm sr, .smsw rm]

/-- The two-operand instructions: their source, then their destination; CMP only reads. -/
def Sys2Proof.Claims.TwoOperandFaults : Prop :=
  (∀ (m : Alu) (w : ByteForm) (s : State) (e : Exc), NoRep s →
    (∀ rm, w.src = .inl rm → ReadExc8 s rm e → Raises (m.byte w) s e) ∧
    (ReadExc8 s w.dst e → Raises (m.byte w) s e) ∧
    (m ≠ .cmp → WriteExc8 s w.dst e → Raises (m.byte w) s e)) ∧
  (∀ (m : Alu) (w : WordForm) (s : State) (e : Exc), NoRep s →
    (∀ rm, w.src = .inl rm → ReadExc16 s rm e → Raises (m.word w) s e) ∧
    (ReadExc16 s w.dst e → Raises (m.word w) s e) ∧
    (m ≠ .cmp → WriteExc16 s w.dst e → Raises (m.word w) s e))

/-- The instructions with one operand that may be in memory (40_data_transfer.md R160; 42_logic_shift_rotate.md R246: a count of 0
checks the operand too). -/
def Sys2Proof.Claims.OneOperandFaults : Prop :=
  (∀ (s : State) (rm : RM8) (r : Reg8) (v : Byte) (e : Exc), NoRep s →
    (ReadExc8 s rm e → ∀ i ∈ byteReaders rm r v ++ byteChangers rm r v, Raises i s e) ∧
    (WriteExc8 s rm e → ∀ i ∈ byteChangers rm r v, Raises i s e) ∧
    (∀ m, rm = .mem m → ¬Writable8 s rm → AccessExc s (s.segOf m) true e → ∀ i ∈ byteWriters rm r v, Raises i s e)) ∧
  (∀ (s : State) (rm : RM16) (r : Reg16) (sr : SReg) (v : Word) (b : Byte) (e : Exc), NoRep s →
    (ReadExc16 s rm e → ∀ i ∈ wordReaders rm r v b ++ wordChangers rm r b, Raises i s e) ∧
    (WriteExc16 s rm e → ∀ i ∈ wordChangers rm r b, Raises i s e) ∧
    (∀ m, rm = .mem m → ¬Writable16 s rm → AccessExc s (s.segOf m) true e → ∀ i ∈ wordWriters rm r sr v, Raises i s e))

/-- The operands of the Protected Mode instructions, each in the mode and at the level that may run it (47_protected_mode.md R373
to R375, R378, R380, R391, R394 to R397). -/
def Sys2Proof.Claims.SystemOperandFaults : Prop :=
  ∀ (s : State) (rm : RM16) (r : Reg16) (e : Exc), NoRep s →
    (s.msw.pe = true →
      (ReadExc16 s rm e → ∀ i ∈ [Instr.arpl rm r, .lar r rm, .lsl r rm, .verr rm, .verw rm], Raises i s e) ∧
      (WriteExc16 s rm e → Raises (.arpl rm r) s e) ∧
      (∀ m, rm = .mem m → ¬Writable16 s rm → AccessExc s (s.segOf m) true e → ∀ i ∈ [Instr.sldt rm, .str rm], Raises i s e) ∧
      (s.cpl = 0 → ReadExc16 s rm e → ∀ i ∈ [Instr.lldt rm, .ltr rm], Raises i s e)) ∧
    (s.msw.pe = false ∨ s.cpl = 0 → ReadExc16 s rm e → Raises (.lmsw rm) s e)

/-- Far pointers and bounds in memory, and the direct offsets of MOV (40_data_transfer.md R161, R178, R179; 44_control_transfer.md
R294, R300; 47_protected_mode.md R393). That the four bytes of a pointer are one access is log 28. -/
def Sys2Proof.Claims.PointerAndOffsetFaults : Prop :=
  (∀ (s : State) (m : Mem) (r : Reg16) (e : Exc), NoRep s → ¬Fits s (s.segOf m) (s.ea m).toNat 4 false →
    AccessExc s (s.segOf m) false e →
    ∀ i ∈ [Instr.lds r m, .les r m, .bound r m, .callM16_16 m, .jmpM16_16 m], Raises i s e) ∧
  (∀ (s : State) (g : SReg) (off : Word) (e : Exc), NoRep s → g = s.pfx.seg.getD .ds →
    (AccessExc s g false e →
      (¬Fits s g off.toNat 1 false → Raises (.movAlMoffs off) s e) ∧ (¬Fits s g off.toNat 2 false → Raises (.movAxMoffs off) s e)) ∧
    (AccessExc s g true e →
      (¬Fits s g off.toNat 1 true → Raises (.movMoffsAl off) s e) ∧ (¬Fits s g off.toNat 2 true → Raises (.movMoffsAx off) s e)))

/-- One element of a string instruction of `n` bytes without a repeat prefix: DS:SI or the override's segment is checked before
ES:DI, and the I/O privilege before either (43_string.md R271 to R277); that OUTS checks it before its read is log 46. -/
def Sys2Proof.Claims.StringFaults (n : Nat) (movs cmps scas lods stos ins outs : Instr) : Prop :=
  ∀ (s : State) (g : SReg) (io : Prop), NoRep s → g = s.pfx.seg.getD .ds → io = (s.msw.pe = false ∨ s.cpl ≤ s.flags.iopl) →
    (¬Fits s g s.regs.si.toNat n false → ∀ e, AccessExc s g false e →
      Raises movs s e ∧ Raises cmps s e ∧ Raises lods s e ∧ (io → Raises outs s e)) ∧
    (¬Fits s .es s.regs.di.toNat n false → ∀ e, AccessExc s .es false e →
      (Fits s g s.regs.si.toNat n false → Raises cmps s e) ∧ Raises scas s e) ∧
    (¬Fits s .es s.regs.di.toNat n true → ∀ e, AccessExc s .es true e →
      (Fits s g s.regs.si.toNat n false → Raises movs s e) ∧ Raises stos s e ∧ (io → Raises ins s e))

/-- ENTER, PUSHA and POPA where a word of theirs may not be read or written. ENTER pushes before it copies, so that past its first
push only the limits of the stack can stop it (45_procedure.md R341, R343, R344). In Real Address Mode the words of PUSHA always
fit where it is not refused. -/
def Sys2Proof.Claims.FrameFaults : Prop :=
  ∀ s : State, NoRep s →
    (∀ size level,
      (¬PushFits s → ∀ e, AccessExc s .ss true e → Raises (.enter size level) s e) ∧
      (PushFits s →
        (∃ j, j ≤ level.toNat % 32 ∧ ¬Fits s .ss (s.regs.sp - BitVec.ofNat 16 (2 * (j + 1))).toNat 2 true) ∨
          (∃ k, k + 1 < level.toNat % 32 ∧ ¬Fits s .ss (s.regs.bp - BitVec.ofNat 16 (2 * (k + 1))).toNat 2 false) →
        Raises (.enter size level) s (.stackFault 0))) ∧
    (s.msw.pe = true → (∃ k, k < 8 ∧ ¬Fits s .ss (s.regs.sp - BitVec.ofNat 16 (2 * (k + 1))).toNat 2 true) →
      ∀ e, AccessExc s .ss true e → Raises .pusha s e) ∧
    ((∃ k, k < 8 ∧ ¬StackFits s k) → ∀ e, AccessExc s .ss false e → Raises .popa s e)

/-- An instruction whose operand in memory may not be read, or not be written, takes the exception of that access with nothing
changed: the check of a write comes before anything is written (40_data_transfer.md R160; 20_memory.md R90 to R93;
60_exceptions.md R424). The pushes and pops are `Obligations.PushForms` and `Obligations.PopForms`, XLAT is
`Obligations.FlagAndAddressTransfers`, LEAVE `Obligations.ProcedureInstructions`, and the six bytes of a table register
`Obligations.SystemRegisters`. -/
def Obligations.OperandFaults : Prop :=
  TwoOperandFaults ∧ OneOperandFaults ∧ SystemOperandFaults ∧ PointerAndOffsetFaults ∧
    StringFaults 1 .movsb .cmpsb .scasb .lodsb .stosb .insb .outsb ∧
    StringFaults 2 .movsw .cmpsw .scasw .lodsw .stosw .insw .outsw ∧ FrameFaults

/-- INC, DEC, NEG and NOT: INC and DEC write the flags of adding and subtracting 1 but keep CF, NEG those of 0 minus the
operand, NOT none (41_arithmetic.md R203, R208, R209; 42_logic_shift_rotate.md R241). -/
def Obligations.IncDecNegNot : Prop :=
  (∀ (r : Reg16) (s : State), NoRep s →
    Replaces16 (.incR16 r) s (.reg r) (s.reg16 r + 1)
      (fun f => SumFlags f (s.reg16 r) 1 (s.reg16 r + 1) false ∧ f.cf = s.flags.cf) ∧
    Replaces16 (.decR16 r) s (.reg r) (s.reg16 r - 1)
      (fun f => DiffFlags f (s.reg16 r) 1 (s.reg16 r - 1) false ∧ f.cf = s.flags.cf)) ∧
  (∀ (rm : RM8) (s : State), NoRep s → Writable8 s rm →
    Replaces8 (.incRm8 rm) s rm (value8 s rm + 1)
      (fun f => SumFlags f (value8 s rm) 1 (value8 s rm + 1) false ∧ f.cf = s.flags.cf) ∧
    Replaces8 (.decRm8 rm) s rm (value8 s rm - 1)
      (fun f => DiffFlags f (value8 s rm) 1 (value8 s rm - 1) false ∧ f.cf = s.flags.cf) ∧
    Replaces8 (.negRm8 rm) s rm (-value8 s rm)
      (fun f => Szp f (-value8 s rm) ∧ (f.cf = true ↔ value8 s rm ≠ 0) ∧ (f.of = true ↔ value8 s rm = 0x80) ∧
        (f.af = true ↔ (value8 s rm).toNat % 16 ≠ 0)) ∧
    Replaces8 (.notRm8 rm) s rm (value8 s rm ^^^ 0xFF) (fun f => f = s.flags)) ∧
  (∀ (rm : RM16) (s : State), NoRep s → Writable16 s rm →
    Replaces16 (.incRm16 rm) s rm (value16 s rm + 1)
      (fun f => SumFlags f (value16 s rm) 1 (value16 s rm + 1) false ∧ f.cf = s.flags.cf) ∧
    Replaces16 (.decRm16 rm) s rm (value16 s rm - 1)
      (fun f => DiffFlags f (value16 s rm) 1 (value16 s rm - 1) false ∧ f.cf = s.flags.cf) ∧
    Replaces16 (.negRm16 rm) s rm (-value16 s rm)
      (fun f => Szp f (-value16 s rm) ∧ (f.cf = true ↔ value16 s rm ≠ 0) ∧ (f.of = true ↔ value16 s rm = 0x8000) ∧
        (f.af = true ↔ (value16 s rm).toNat % 16 ≠ 0)) ∧
    Replaces16 (.notRm16 rm) s rm (value16 s rm ^^^ 0xFFFF) (fun f => f = s.flags))

/-- SHL, SHR and SAR in their closed forms, byte and word, with the constant, immediate and CL counts: the result is the operand
times or divided by 2^c, CF the last bit shifted out, SF, ZF, PF of the result, OF by the one-place rule when c is 1
(42_logic_shift_rotate.md R246 to R249). OF for other counts and AF are undefined. -/
def Obligations.ShiftsClosedForm : Prop :=
  ShiftResult .shl (fun {n} _ a c => BitVec.ofNat n (a.toNat * 2 ^ c))
    (fun {n} _ a c f => Szp f (BitVec.ofNat n (a.toNat * 2 ^ c)) ∧ (f.cf = true ↔ c ≤ n ∧ a.getLsbD (n - c) = true) ∧
      (c = 1 → f.of = ((BitVec.ofNat n (a.toNat * 2 ^ c)).msb ^^ f.cf))) ∧
  ShiftResult .shr (fun {n} _ a c => BitVec.ofNat n (a.toNat / 2 ^ c))
    (fun {n} _ a c f => Szp f (BitVec.ofNat n (a.toNat / 2 ^ c)) ∧ (f.cf = true ↔ c ≤ n ∧ a.getLsbD (c - 1) = true) ∧
      (c = 1 → f.of = a.msb)) ∧
  ShiftResult .sar (fun {n} _ a c => BitVec.ofInt n (a.toInt / 2 ^ c))
    (fun {n} _ a c f => Szp f (BitVec.ofInt n (a.toInt / 2 ^ c)) ∧
      f.cf = (if c ≤ n then a.getLsbD (c - 1) else a.msb) ∧ (c = 1 → f.of = false))

/-- ROL, ROR, RCL and RCR in their closed forms: the operand, or for RCL and RCR the operand with CF as its high-order bit, is
rotated by c places; only CF and OF are written, OF by the one-place rule when c is 1 (42_logic_shift_rotate.md R250 to R253;
92_eei_decisions.md D28). OF for other counts is undefined. -/
def Obligations.RotatesClosedForm : Prop :=
  ShiftResult .rol (fun _ a c => a.rotateLeft c)
    (fun s a c f => f = { s.flags with cf := f.cf, of := f.of } ∧ f.cf = (a.rotateLeft c).getLsbD 0 ∧
      (c = 1 → f.of = ((a.rotateLeft c).msb ^^ f.cf))) ∧
  ShiftResult .ror (fun _ a c => a.rotateRight c)
    (fun {n} s a c f => f = { s.flags with cf := f.cf, of := f.of } ∧ f.cf = (a.rotateRight c).msb ∧
      (c = 1 → f.of = ((a.rotateRight c).msb ^^ (a.rotateRight c).getLsbD (n - 2)))) ∧
  ShiftResult .rcl (fun {n} s a c => ((BitVec.ofBool s.flags.cf ++ a).rotateLeft c).setWidth n)
    (fun {n} s a c f => f = { s.flags with cf := f.cf, of := f.of } ∧ f.cf = ((BitVec.ofBool s.flags.cf ++ a).rotateLeft c).msb ∧
      (c = 1 → f.of = ((((BitVec.ofBool s.flags.cf ++ a).rotateLeft c).setWidth n).msb ^^ f.cf))) ∧
  ShiftResult .rcr (fun {n} s a c => ((BitVec.ofBool s.flags.cf ++ a).rotateRight c).setWidth n)
    (fun {n} s a c f => f = { s.flags with cf := f.cf, of := f.of } ∧ f.cf = ((BitVec.ofBool s.flags.cf ++ a).rotateRight c).msb ∧
      (c = 1 → f.of = ((((BitVec.ofBool s.flags.cf ++ a).rotateRight c).setWidth n).msb ^^
        (((BitVec.ofBool s.flags.cf ++ a).rotateRight c).setWidth n).getLsbD (n - 2))))

/-- MUL and IMUL give the exact product, in AX or DX:AX, or its low word in a register; CF and OF say that it does not fit the
lower half (41_arithmetic.md R213 to R215). SF, ZF, AF and PF are undefined. -/
def Obligations.MulImul : Prop :=
  (∀ (rm : RM8) (s : State), NoRep s → Readable8 s rm →
    (∃ t, exec (.mulRm8 rm) s = .next t ∧ Ended s t ∧ MemSame s t ∧ ControlKept s.flags t.flags ∧
      (∀ q, q ≠ .ax → t.reg16 q = s.reg16 q) ∧ t.regs.ax.toNat = (s.reg8 .al).toNat * (value8 s rm).toNat ∧
      (t.flags.cf = true ↔ t.reg8 .ah ≠ 0) ∧ t.flags.of = t.flags.cf) ∧
    (∃ t, exec (.imulRm8 rm) s = .next t ∧ Ended s t ∧ MemSame s t ∧ ControlKept s.flags t.flags ∧
      (∀ q, q ≠ .ax → t.reg16 q = s.reg16 q) ∧ t.regs.ax.toInt = (s.reg8 .al).toInt * (value8 s rm).toInt ∧
      (t.flags.cf = true ↔ t.regs.ax.toInt ≠ (t.reg8 .al).toInt) ∧ t.flags.of = t.flags.cf)) ∧
  (∀ (rm : RM16) (s : State), NoRep s → Readable16 s rm →
    (∃ t, exec (.mulRm16 rm) s = .next t ∧ Ended s t ∧ MemSame s t ∧ ControlKept s.flags t.flags ∧
      (∀ q, q ≠ .ax → q ≠ .dx → t.reg16 q = s.reg16 q) ∧
      (t.regs.dx ++ t.regs.ax).toNat = s.regs.ax.toNat * (value16 s rm).toNat ∧
      (t.flags.cf = true ↔ t.regs.dx ≠ 0) ∧ t.flags.of = t.flags.cf) ∧
    (∃ t, exec (.imulRm16 rm) s = .next t ∧ Ended s t ∧ MemSame s t ∧ ControlKept s.flags t.flags ∧
      (∀ q, q ≠ .ax → q ≠ .dx → t.reg16 q = s.reg16 q) ∧
      (t.regs.dx ++ t.regs.ax).toInt = s.regs.ax.toInt * (value16 s rm).toInt ∧
      (t.flags.cf = true ↔ (t.regs.dx ++ t.regs.ax).toInt ≠ t.regs.ax.toInt) ∧ t.flags.of = t.flags.cf) ∧
    ∀ (r : Reg16) (v : Word) (b : Byte),
      (∃ t, exec (.imulR16Rm16Imm16 r rm v) s = .next t ∧ Ended s t ∧ MemSame s t ∧ ControlKept s.flags t.flags ∧
        RegWord s t r (BitVec.ofInt 16 ((value16 s rm).toInt * v.toInt)) ∧
        (t.flags.cf = true ↔ (value16 s rm).toInt * v.toInt < -32768 ∨ 32767 < (value16 s rm).toInt * v.toInt) ∧
        t.flags.of = t.flags.cf) ∧
      (∃ t, exec (.imulR16Rm16Imm8 r rm b) s = .next t ∧ Ended s t ∧ MemSame s t ∧ ControlKept s.flags t.flags ∧
        RegWord s t r (BitVec.ofInt 16 ((value16 s rm).toInt * b.toInt)) ∧
        (t.flags.cf = true ↔ (value16 s rm).toInt * b.toInt < -32768 ∨ 32767 < (value16 s rm).toInt * b.toInt) ∧
        t.flags.of = t.flags.cf))

/-- DIV and IDIV with a quotient that fits: dividend = quotient times divisor plus remainder, the remainder smaller than the
divisor and, for IDIV, zero or of the dividend's sign (41_arithmetic.md R217, R218, R222). The six status flags are
undefined. -/
def Sys2Proof.Claims.DivIdiv : Prop :=
  (∀ (rm : RM8) (s : State), NoRep s → Readable8 s rm →
    (value8 s rm ≠ 0 → s.regs.ax.toNat / (value8 s rm).toNat ≤ 0xFF →
      ∃ t, exec (.divRm8 rm) s = .next t ∧ Ended s t ∧ MemSame s t ∧ ControlKept s.flags t.flags ∧
        (∀ q, q ≠ .ax → t.reg16 q = s.reg16 q) ∧
        s.regs.ax.toNat = (t.reg8 .al).toNat * (value8 s rm).toNat + (t.reg8 .ah).toNat ∧ t.reg8 .ah < value8 s rm) ∧
    (value8 s rm ≠ 0 → -128 ≤ s.regs.ax.toInt.tdiv (value8 s rm).toInt → s.regs.ax.toInt.tdiv (value8 s rm).toInt ≤ 127 →
      ∃ t, exec (.idivRm8 rm) s = .next t ∧ Ended s t ∧ MemSame s t ∧ ControlKept s.flags t.flags ∧
        (∀ q, q ≠ .ax → t.reg16 q = s.reg16 q) ∧
        s.regs.ax.toInt = (t.reg8 .al).toInt * (value8 s rm).toInt + (t.reg8 .ah).toInt ∧
        (t.reg8 .ah).toInt.natAbs < (value8 s rm).toInt.natAbs ∧
        (t.reg8 .ah = 0 ∨ ((t.reg8 .ah).toInt < 0 ↔ s.regs.ax.toInt < 0)))) ∧
  (∀ (rm : RM16) (s : State), NoRep s → Readable16 s rm →
    (value16 s rm ≠ 0 → (s.regs.dx ++ s.regs.ax).toNat / (value16 s rm).toNat ≤ 0xFFFF →
      ∃ t, exec (.divRm16 rm) s = .next t ∧ Ended s t ∧ MemSame s t ∧ ControlKept s.flags t.flags ∧
        (∀ q, q ≠ .ax → q ≠ .dx → t.reg16 q = s.reg16 q) ∧
        (s.regs.dx ++ s.regs.ax).toNat = t.regs.ax.toNat * (value16 s rm).toNat + t.regs.dx.toNat ∧
        t.regs.dx < value16 s rm) ∧
    (value16 s rm ≠ 0 → -32768 ≤ (s.regs.dx ++ s.regs.ax).toInt.tdiv (value16 s rm).toInt →
      (s.regs.dx ++ s.regs.ax).toInt.tdiv (value16 s rm).toInt ≤ 32767 →
      ∃ t, exec (.idivRm16 rm) s = .next t ∧ Ended s t ∧ MemSame s t ∧ ControlKept s.flags t.flags ∧
        (∀ q, q ≠ .ax → q ≠ .dx → t.reg16 q = s.reg16 q) ∧
        (s.regs.dx ++ s.regs.ax).toInt = t.regs.ax.toInt * (value16 s rm).toInt + t.regs.dx.toInt ∧
        t.regs.dx.toInt.natAbs < (value16 s rm).toInt.natAbs ∧
        (t.regs.dx = 0 ∨ (t.regs.dx.toInt < 0 ↔ (s.regs.dx ++ s.regs.ax).toInt < 0))))

/-- DIV, IDIV and AAM take DivideError for a divisor of 0, DIV and IDIV also for a quotient that does not fit, with nothing
changed (41_arithmetic.md R216 to R218). -/
def Sys2Proof.Claims.DivideErrors : Prop :=
  (∀ (rm : RM8) (s : State), NoRep s → Readable8 s rm →
    (value8 s rm = 0 ∨ 0xFF < s.regs.ax.toNat / (value8 s rm).toNat → Raises (.divRm8 rm) s .divideError) ∧
    (value8 s rm = 0 ∨ s.regs.ax.toInt.tdiv (value8 s rm).toInt < -128 ∨ 127 < s.regs.ax.toInt.tdiv (value8 s rm).toInt →
      Raises (.idivRm8 rm) s .divideError)) ∧
  (∀ (rm : RM16) (s : State), NoRep s → Readable16 s rm →
    (value16 s rm = 0 ∨ 0xFFFF < (s.regs.dx ++ s.regs.ax).toNat / (value16 s rm).toNat →
      Raises (.divRm16 rm) s .divideError) ∧
    (value16 s rm = 0 ∨ (s.regs.dx ++ s.regs.ax).toInt.tdiv (value16 s rm).toInt < -32768 ∨
        32767 < (s.regs.dx ++ s.regs.ax).toInt.tdiv (value16 s rm).toInt →
      Raises (.idivRm16 rm) s .divideError)) ∧
  (∀ s : State, NoRep s → Raises (.aam 0) s .divideError)

/-- DIV and IDIV: quotient and remainder, and the divide errors, with that of AAM (41_arithmetic.md R216 to R218, R222). -/
def Obligations.Division : Prop := DivIdiv ∧ DivideErrors

/-- AAA, AAS, AAM, AAD, DAA and DAS: the adjusted AL and AH and the flags they define (41_arithmetic.md R204, R205, R211, R212,
R216, R219). The other status flags are undefined. The rules give AAM and AAD for base 10; that they work with every other byte
as their base is the model's choice, log 17. -/
def Obligations.DecimalAdjust : Prop :=
  (∀ s : State, NoRep s →
    (∃ t, exec .aaa s = .next t ∧ Ended s t ∧ MemSame s t ∧ ControlKept s.flags t.flags ∧
      (t.flags.af = true ↔ 9 < (s.reg8 .al).toNat % 16 ∨ s.flags.af = true) ∧ t.flags.cf = t.flags.af ∧
      RegWord s t .ax (if t.flags.af then (s.reg8 .ah + 1) ++ ((s.reg8 .al + 6) &&& 0x0F) else s.reg8 .ah ++ (s.reg8 .al &&& 0x0F))) ∧
    (∃ t, exec .aas s = .next t ∧ Ended s t ∧ MemSame s t ∧ ControlKept s.flags t.flags ∧
      (t.flags.af = true ↔ 9 < (s.reg8 .al).toNat % 16 ∨ s.flags.af = true) ∧ t.flags.cf = t.flags.af ∧
      RegWord s t .ax (if t.flags.af then (s.reg8 .ah - 1) ++ ((s.reg8 .al - 6) &&& 0x0F) else s.reg8 .ah ++ (s.reg8 .al &&& 0x0F))) ∧
    (∃ t, exec .daa s = .next t ∧ Ended s t ∧ MemSame s t ∧ ControlKept s.flags t.flags ∧
      (t.flags.af = true ↔ 9 < (s.reg8 .al).toNat % 16 ∨ s.flags.af = true) ∧
      (t.flags.cf = true ↔ 0x99 < (s.reg8 .al).toNat ∨ s.flags.cf = true) ∧
      RegByte s t .al (s.reg8 .al + (if t.flags.af then 6 else 0) + (if t.flags.cf then 0x60 else 0)) ∧
      Szp t.flags (t.reg8 .al)) ∧
    (∃ t, exec .das s = .next t ∧ Ended s t ∧ MemSame s t ∧ ControlKept s.flags t.flags ∧
      (t.flags.af = true ↔ 9 < (s.reg8 .al).toNat % 16 ∨ s.flags.af = true) ∧
      (t.flags.cf = true ↔ 0x99 < (s.reg8 .al).toNat ∨ s.flags.cf = true ∨ (t.flags.af = true ∧ (s.reg8 .al).toNat < 6)) ∧
      RegByte s t .al (s.reg8 .al - (if t.flags.af then 6 else 0) -
        (if 0x99 < (s.reg8 .al).toNat ∨ s.flags.cf = true then 0x60 else 0)) ∧
      Szp t.flags (t.reg8 .al))) ∧
  (∀ (s : State) (b : Byte), NoRep s →
    (b ≠ 0 → ∃ t, exec (.aam b) s = .next t ∧ Ended s t ∧ MemSame s t ∧ ControlKept s.flags t.flags ∧
      RegWord s t .ax (BitVec.ofNat 8 ((s.reg8 .al).toNat / b.toNat) ++ BitVec.ofNat 8 ((s.reg8 .al).toNat % b.toNat)) ∧
      Szp t.flags (t.reg8 .al)) ∧
    (∃ t, exec (.aad b) s = .next t ∧ Ended s t ∧ MemSame s t ∧ ControlKept s.flags t.flags ∧
      RegWord s t .ax (BitVec.ofNat 16 (((s.reg8 .al).toNat + (s.reg8 .ah).toNat * b.toNat) % 256)) ∧
      Szp t.flags (t.reg8 .al)))

/-- CBW and CWD extend the sign of AL and AX and change no flag (41_arithmetic.md R220, R221). -/
def Obligations.SignExtension : Prop :=
  encode .cbw = [0x98] ∧ encode .cwd = [0x99] ∧
  ∀ s : State, NoRep s →
    exec .cbw s = .next (after s { s with regs := { s.regs with ax := (s.reg8 .al).signExtend 16 } } s.ipNext) ∧
    exec .cwd s = .next
      (after s { s with regs := { s.regs with dx := if s.regs.ax.getLsbD 15 = true then 0xFFFF else 0x0000 } } s.ipNext)

/-! Data transfer. -/

/-- MOV between registers, memory and immediates, and from a segment register: the destination gets the value, no flag and
nothing else changes (40_data_transfer.md R161, R162). -/
def Obligations.MovForms : Prop :=
  (∀ (s : State) (rm : RM8) (r : Reg8) (v : Byte), NoRep s →
    (Writable8 s rm → Replaces8 (.movRm8R8 rm r) s rm (s.reg8 r) (· = s.flags)) ∧
    (Writable8 s rm → Replaces8 (.movRm8Imm8 rm v) s rm v (· = s.flags)) ∧
    (Readable8 s rm → Replaces8 (.movR8Rm8 r rm) s (.reg r) (value8 s rm) (· = s.flags)) ∧
    Replaces8 (.movR8Imm8 r v) s (.reg r) v (· = s.flags)) ∧
  (∀ (s : State) (rm : RM16) (r : Reg16) (v : Word) (g : SReg), NoRep s →
    (Writable16 s rm → Replaces16 (.movRm16R16 rm r) s rm (s.reg16 r) (· = s.flags)) ∧
    (Writable16 s rm → Replaces16 (.movRm16Imm16 rm v) s rm v (· = s.flags)) ∧
    (Writable16 s rm → Replaces16 (.movRm16Sreg rm g) s rm (s.seg g).sel (· = s.flags)) ∧
    (Readable16 s rm → Replaces16 (.movR16Rm16 r rm) s (.reg r) (value16 s rm) (· = s.flags)) ∧
    Replaces16 (.movR16Imm16 r v) s (.reg r) v (· = s.flags)) ∧
  (∀ (s : State) (off : Word), NoRep s →
    (Readable8 s (.mem (.direct off)) →
      Replaces8 (.movAlMoffs off) s (.reg .al) (value8 s (.mem (.direct off))) (· = s.flags)) ∧
    (Readable16 s (.mem (.direct off)) →
      Replaces16 (.movAxMoffs off) s (.reg .ax) (value16 s (.mem (.direct off))) (· = s.flags)) ∧
    (Writable8 s (.mem (.direct off)) →
      Replaces8 (.movMoffsAl off) s (.mem (.direct off)) (s.reg8 .al) (· = s.flags)) ∧
    (Writable16 s (.mem (.direct off)) →
      Replaces16 (.movMoffsAx off) s (.mem (.direct off)) s.regs.ax (· = s.flags)))

/-- XCHG swaps its operands, which may be the same, and NOP changes nothing but IP (40_data_transfer.md R168, R169). -/
def Obligations.XchgNop : Prop :=
  (∀ (s : State) (q r : Reg8), NoRep s → ∃ t, exec (.xchgRm8R8 (.reg q) r) s = .next t ∧ Ended s t ∧ t.flags = s.flags ∧
    MemSame s t ∧ t.reg8 q = s.reg8 r ∧ t.reg8 r = s.reg8 q ∧ (∀ p, p ≠ q → p ≠ r → t.reg8 p = s.reg8 p) ∧
    t.regs.sp = s.regs.sp ∧ t.regs.bp = s.regs.bp ∧ t.regs.si = s.regs.si ∧ t.regs.di = s.regs.di) ∧
  (∀ (s : State) (m : Mem) (r : Reg8), NoRep s → Writable8 s (.mem m) →
    ∃ t, exec (.xchgRm8R8 (.mem m) r) s = .next t ∧ Ended s t ∧ t.flags = s.flags ∧
      RegByte s t r (value8 s (.mem m)) ∧ StoredByte s t (s.segOf m) (s.ea m).toNat (s.reg8 r)) ∧
  (∀ (s : State) (q r : Reg16), NoRep s → ∃ t, exec (.xchgRm16R16 (.reg q) r) s = .next t ∧ Ended s t ∧ t.flags = s.flags ∧
    MemSame s t ∧ t.reg16 q = s.reg16 r ∧ t.reg16 r = s.reg16 q ∧ ∀ p, p ≠ q → p ≠ r → t.reg16 p = s.reg16 p) ∧
  (∀ (s : State) (m : Mem) (r : Reg16), NoRep s → Writable16 s (.mem m) →
    ∃ t, exec (.xchgRm16R16 (.mem m) r) s = .next t ∧ Ended s t ∧ t.flags = s.flags ∧
      RegWord s t r (value16 s (.mem m)) ∧ StoredWord s t (s.segOf m) (s.ea m).toNat (s.reg16 r)) ∧
  (∀ (s : State) (r : Reg16), NoRep s → ∃ t, exec (.xchgAxR16 r) s = .next t ∧ Ended s t ∧ t.flags = s.flags ∧
    MemSame s t ∧ t.regs.ax = s.reg16 r ∧ t.reg16 r = s.regs.ax ∧ ∀ p, p ≠ .ax → p ≠ r → t.reg16 p = s.reg16 p) ∧
  (∀ s : State, NoRep s → exec .nop s = .next (after s s s.ipNext))

/-- The instructions that push one word, and the word (40_data_transfer.md R164, R165, R182). -/
def Sys2Proof.Claims.PushesWord (s : State) (i : Instr) (v : Word) : Prop :=
  (∃ r, i = .pushR16 r ∧ v = s.reg16 r) ∨
  (∃ rm, i = .pushRm16 rm ∧ Readable16 s rm ∧ v = value16 s rm) ∨
  i = .pushImm16 v ∨
  (∃ b : Byte, i = .pushImm8 b ∧ v = b.signExtend 16) ∨
  (i = .pushEs ∧ v = s.es.sel) ∨ (i = .pushCs ∧ v = s.cs.sel) ∨ (i = .pushSs ∧ v = s.ss.sel) ∨ (i = .pushDs ∧ v = s.ds.sel) ∨
  (i = .pushf ∧ v = flagsWord s.flags)

/-- PUSH in all forms and PUSHF: SP goes down by two and the word, read before SP changes, is stored there; a push that is not
allowed raises and changes nothing (40_data_transfer.md R164, R165, R182). -/
def Obligations.PushForms : Prop :=
  ∀ (s : State) (i : Instr) (v : Word), NoRep s → PushesWord s i v →
    (PushFits s → ∃ t, exec i s = .next t ∧ Ended s t ∧ t.flags = s.flags ∧ Pushed s t v) ∧
    (¬PushFits s → ∀ e, AccessExc s .ss true e → Raises i s e)

/-- POP into a register or memory and POPF: the word at the top of the stack is transferred and SP goes up by two, before a
destination SP is written; a pop or a store that is not allowed raises and changes nothing. POPF loads IF only where the level
allows it, IOPL only at level 0, and neither IOPL nor NT in Real Address Mode (40_data_transfer.md R166, R183). -/
def Obligations.PopForms : Prop :=
  ∀ s : State, NoRep s →
    (PopFits s →
      (∀ r, ∃ t, exec (.popR16 r) s = .next t ∧ Ended s t ∧ t.flags = s.flags ∧ MemSame s t ∧ t.reg16 r = top s ∧
        (r ≠ .sp → t.regs.sp = s.regs.sp + 2) ∧ ∀ q, q ≠ r → q ≠ .sp → t.reg16 q = s.reg16 q) ∧
      (∀ r, ∃ t, exec (.popRm16 (.reg r)) s = .next t ∧ Ended s t ∧ t.flags = s.flags ∧ MemSame s t ∧ t.reg16 r = top s ∧
        (r ≠ .sp → t.regs.sp = s.regs.sp + 2) ∧ ∀ q, q ≠ r → q ≠ .sp → t.reg16 q = s.reg16 q) ∧
      (∀ m, Writable16 s (.mem m) →
        ∃ t, exec (.popRm16 (.mem m)) s = .next t ∧ Ended s t ∧ t.flags = s.flags ∧
          t.regs = { s.regs with sp := s.regs.sp + 2 } ∧ StoredWord s t (s.segOf m) (s.ea m).toNat (top s)) ∧
      (∀ m e, ¬Writable16 s (.mem m) → AccessExc s (s.segOf m) true e → Raises (.popRm16 (.mem m)) s e) ∧
      (∃ t, exec .popf s = .next t ∧ Ended s t ∧ MemSame s t ∧ t.regs = { s.regs with sp := s.regs.sp + 2 } ∧
        t.flags.cf = (top s).getLsbD 0 ∧ t.flags.pf = (top s).getLsbD 2 ∧ t.flags.af = (top s).getLsbD 4 ∧
        t.flags.zf = (top s).getLsbD 6 ∧ t.flags.sf = (top s).getLsbD 7 ∧ t.flags.tf = (top s).getLsbD 8 ∧
        t.flags.df = (top s).getLsbD 10 ∧ t.flags.of = (top s).getLsbD 11 ∧
        t.flags.ifl = (if s.msw.pe = true ∧ s.flags.iopl < s.cpl then s.flags.ifl else (top s).getLsbD 9) ∧
        t.flags.iopl = (if s.msw.pe = false then 0 else if s.cpl = 0 then (top s).extractLsb' 12 2 else s.flags.iopl) ∧
        t.flags.nt = (s.msw.pe && (top s).getLsbD 14))) ∧
    (¬PopFits s → ∀ e, AccessExc s .ss false e →
      (∀ r, Raises (.popR16 r) s e) ∧ (∀ rm, Raises (.popRm16 rm) s e) ∧ Raises .popf s e ∧
        Raises .popEs s e ∧ Raises .popSs s e ∧ Raises .popDs s e)

/-- LAHF and SAHF move SF, ZF, AF, PF and CF between the flags and bits 7, 6, 4, 2 and 0 of AH; LEA gives the offset and makes no
access; XLAT replaces AL by the byte at BX plus AL (40_data_transfer.md R172, R173, R180, R181). That LAHF copies the reserved
bits as 0, 0, 1 is log 41. -/
def Obligations.FlagAndAddressTransfers : Prop :=
  ∀ s : State, NoRep s →
    (∃ t, exec .lahf s = .next t ∧ Ended s t ∧ t.flags = s.flags ∧ MemSame s t ∧ RegByte s t .ah (t.reg8 .ah) ∧
      (List.range 8).map (t.reg8 .ah).getLsbD =
        [s.flags.cf, true, s.flags.pf, false, s.flags.af, false, s.flags.zf, s.flags.sf]) ∧
    exec .sahf s = .next (after s { s with flags := { s.flags with
      sf := (s.reg8 .ah).getLsbD 7, zf := (s.reg8 .ah).getLsbD 6, af := (s.reg8 .ah).getLsbD 4,
      pf := (s.reg8 .ah).getLsbD 2, cf := (s.reg8 .ah).getLsbD 0 } } s.ipNext) ∧
    (∀ r m, Replaces16 (.lea r m) s (.reg r) (s.ea m) (· = s.flags)) ∧
    (Fits s (s.pfx.seg.getD .ds) (s.regs.bx + (s.reg8 .al).setWidth 16).toNat 1 false →
      Replaces8 .xlat s (.reg .al) (byteAt s (s.pfx.seg.getD .ds) (s.regs.bx + (s.reg8 .al).setWidth 16).toNat)
        (· = s.flags)) ∧
    (¬Fits s (s.pfx.seg.getD .ds) (s.regs.bx + (s.reg8 .al).setWidth 16).toNat 1 false →
      ∀ e, AccessExc s (s.pfx.seg.getD .ds) false e → Raises .xlat s e)

/-- IN and OUT: the byte or word of the port the platform supplies, and one port write; GeneralProtection(0) where the level does
not allow them, and the refusal of a word at port FFFF (40_data_transfer.md R170, R171; 60_exceptions.md R462; 20_memory.md
R84). -/
def Obligations.InOut : Prop :=
  ∀ (s : State) (p : Byte), NoRep s →
    ((s.msw.pe = false ∨ s.cpl ≤ s.flags.iopl) →
      Replaces8 (.inAlImm8 p) s (.reg .al) (Config.portByte s.clock (p.setWidth 16)) (· = s.flags) ∧
      Replaces16 (.inAxImm8 p) s (.reg .ax)
        (Config.portByte s.clock (p.setWidth 16 + 1) ++ Config.portByte s.clock (p.setWidth 16)) (· = s.flags) ∧
      Replaces8 .inAlDx s (.reg .al) (Config.portByte s.clock s.regs.dx) (· = s.flags) ∧
      exec (.outImm8Al p) s = .next (after s { s with portTrace := s.portTrace ++
        [{ port := p.setWidth 16, bytes := 1, value := (s.reg8 .al).setWidth 16 }] } s.ipNext) ∧
      exec (.outImm8Ax p) s = .next (after s { s with portTrace := s.portTrace ++
        [{ port := p.setWidth 16, bytes := 2, value := s.regs.ax }] } s.ipNext) ∧
      exec .outDxAl s = .next (after s { s with portTrace := s.portTrace ++
        [{ port := s.regs.dx, bytes := 1, value := (s.reg8 .al).setWidth 16 }] } s.ipNext) ∧
      (s.regs.dx ≠ 0xFFFF →
        Replaces16 .inAxDx s (.reg .ax) (Config.portByte s.clock (s.regs.dx + 1) ++ Config.portByte s.clock s.regs.dx)
          (· = s.flags) ∧
        exec .outDxAx s = .next (after s { s with portTrace := s.portTrace ++
          [{ port := s.regs.dx, bytes := 2, value := s.regs.ax }] } s.ipNext)) ∧
      (s.regs.dx = 0xFFFF → exec .inAxDx s = .refused .portWordWrap ∧ exec .outDxAx s = .refused .portWordWrap)) ∧
    (s.msw.pe = true → s.flags.iopl < s.cpl →
      ∀ i ∈ [Instr.inAlImm8 p, .inAxImm8 p, .inAlDx, .inAxDx, .outImm8Al p, .outImm8Ax p, .outDxAl, .outDxAx],
        Raises i s (.generalProtection 0))

/-- A segment register as Real Address Mode loads it: base 16 times the value (10_state.md R41). Its access byte, which that
mode does not look at, is log 4. -/
def Sys2Proof.Claims.RealSeg (g : SegReg) (v : Word) : Prop :=
  g.sel = v ∧ g.base.toNat = 16 * v.toNat ∧ g.limit = 0xFFFF ∧ g.valid = true

/-- `t` is `s` after an instruction that loaded `r` with `g`, gave the general registers `regs`, and opened a shadow if `r` is
SS (40_data_transfer.md R163; 60_exceptions.md R452). That the single-step trap which that shadow holds off is not made up later
is the model's choice, log 25. -/
def Sys2Proof.Claims.SegLoaded (s t : State) (r : SReg) (g : SegReg) (regs : Gprs) : Prop :=
  t = { (after s { s.setSeg r g with regs := regs, mem := t.mem } s.ipNext) with
    shadow := if r = .ss then .ss else .none, trapPending := s.flags.tf && decide (r ≠ .ss) }

/-- MOV and POP into DS, ES and SS, LDS and LES in Real Address Mode: the segment register gets the value and 16 times it as its
base, POP moves SP, LDS and LES load the offset too, and SS opens a shadow for the next instruction (40_data_transfer.md R163,
R167, R178, R179; 10_state.md R41). A far pointer that is not inside the segment raises (20_memory.md R83). That the trap which the
shadow of SS holds off is not made up later is log 25. -/
def Obligations.SegmentLoadsReal : Prop :=
  ∀ s : State, NoRep s → s.msw.pe = false →
    (∀ r rm, r ≠ .cs → Readable16 s rm →
      ∃ t g, exec (.movSregRm16 r rm) s = .next t ∧ RealSeg g (value16 s rm) ∧ SegLoaded s t r g s.regs ∧ MemSame s t) ∧
    (PopFits s → ∀ i r, (i = Instr.popEs ∧ r = SReg.es) ∨ (i = .popSs ∧ r = .ss) ∨ (i = .popDs ∧ r = .ds) →
      ∃ t g, exec i s = .next t ∧ RealSeg g (top s) ∧ SegLoaded s t r g { s.regs with sp := s.regs.sp + 2 } ∧ MemSame s t) ∧
    (∀ q m i r, (i = Instr.lds q m ∧ r = SReg.ds) ∨ (i = .les q m ∧ r = .es) →
      ((s.ea m).toNat + 4 ≤ 0x10000 →
        ∃ t g, exec i s = .next t ∧ RealSeg g (wordAt s (s.segOf m) ((s.ea m).toNat + 2)) ∧
          SegLoaded s t r g (s.setReg16 q (wordAt s (s.segOf m) (s.ea m).toNat)).regs ∧ MemSame s t) ∧
      (0x10000 < (s.ea m).toNat + 4 → ∀ e, AccessExc s (s.segOf m) false e → Raises i s e)) ∧
    (∀ rm, Raises (.movSregRm16 .cs rm) s .invalidOpcode)

/-- The descriptor may be loaded into DS or ES (20_memory.md R95). -/
def Sys2Proof.Claims.DataLoadable (s : State) (sel : Word) (d : Desc) : Prop :=
  arSegment d.ar = true ∧ arReadable d.ar = true ∧
    (arConforming d.ar = true ∨ (s.cpl ≤ arDpl d.ar ∧ selRpl sel ≤ arDpl d.ar))

/-- The descriptor may be loaded into SS (20_memory.md R96). -/
def Sys2Proof.Claims.StackLoadable (s : State) (sel : Word) (d : Desc) : Prop :=
  selRpl sel = s.cpl ∧ arWritable d.ar = true ∧ arDpl d.ar = s.cpl

/-- Memory after a load: the Accessed bit is set in the descriptor's access byte as it stood in `s`, and nothing else is changed
(20_memory.md R97). -/
def Sys2Proof.Claims.AccessedSet (s t : State) (d : Desc) : Prop :=
  t.physByte (physAddr s.msw.pe (d.addr + 5)) = s.physByte (physAddr s.msw.pe (d.addr + 5)) ||| 1 ∧
    ∀ p, p ≠ physAddr s.msw.pe (d.addr + 5) → t.physByte p = s.physByte p

/-- MOV into DS, ES and SS in Protected Mode: the register gets the descriptor's base, limit and access byte, its Accessed bit is
set, a null selector makes DS or ES invalid, and each check that fails raises the exception of 20_memory.md R95 and R96 with
nothing changed (40_data_transfer.md R163; 20_memory.md R94 to R97). That the trap which the shadow of SS holds off is not made up
later is log 25. An operand that may not be read is `Obligations.OperandFaults`. -/
def Obligations.SegmentLoadsProtected : Prop :=
  ∀ (s : State) (rm : RM16) (r : SReg), NoRep s → s.msw.pe = true → Readable16 s rm → r ≠ .cs →
    ∀ sel, sel = value16 s rm →
    (r ≠ .ss → sel.toNat < 4 → ∃ t, exec (.movSregRm16 r rm) s = .next t ∧ MemSame s t ∧
      SegLoaded s t r { s.seg r with sel := sel, valid := false } s.regs) ∧
    (r = .ss → sel.toNat < 4 → Raises (.movSregRm16 r rm) s (.generalProtection 0)) ∧
    (4 ≤ sel.toNat →
      (s.fetchDesc sel = none → Raises (.movSregRm16 r rm) s (.generalProtection (sel &&& 0xFFFC))) ∧
      ∀ d, s.fetchDesc sel = some d →
        (r ≠ .ss →
          (DataLoadable s sel d → arPresent d.ar = true → ∃ t, exec (.movSregRm16 r rm) s = .next t ∧ AccessedSet s t d ∧
            SegLoaded s t r { sel := sel, base := d.base, limit := d.limit, ar := d.ar, valid := true } s.regs) ∧
          (¬DataLoadable s sel d → Raises (.movSregRm16 r rm) s (.generalProtection (sel &&& 0xFFFC))) ∧
          (DataLoadable s sel d → arPresent d.ar = false → Raises (.movSregRm16 r rm) s (.notPresent (sel &&& 0xFFFC)))) ∧
        (r = .ss →
          (StackLoadable s sel d → arPresent d.ar = true → ∃ t, exec (.movSregRm16 r rm) s = .next t ∧ AccessedSet s t d ∧
            SegLoaded s t r { sel := sel, base := d.base, limit := d.limit, ar := d.ar, valid := true } s.regs) ∧
          (¬StackLoadable s sel d → Raises (.movSregRm16 r rm) s (.generalProtection (sel &&& 0xFFFC))) ∧
          (StackLoadable s sel d → arPresent d.ar = false → Raises (.movSregRm16 r rm) s (.stackFault (sel &&& 0xFFFC)))))

/-- POP into DS, ES and SS and LDS and LES in Protected Mode do what MOV does with the same selector: they complete exactly where
the load completes, POP moving SP and LDS and LES loading the offset as well, and raise what it raises
(40_data_transfer.md R167, R178, R179; 20_memory.md R95, R96). That the trap which the shadow of SS holds off is not made up later
is log 25. A pointer that may not be read is `Obligations.OperandFaults`, a word `Obligations.PopForms`. -/
def Obligations.PopAndPointerLoads : Prop :=
  ∀ s : State, NoRep s → s.msw.pe = true →
    (PopFits s → ∀ i r, (i = Instr.popEs ∧ r = SReg.es) ∨ (i = .popSs ∧ r = .ss) ∨ (i = .popDs ∧ r = .ds) →
      (∀ u, s.begin.loadSeg r (top s) = .ok u → ∃ t, exec i s = .next t ∧ t.mem = u.mem ∧
        SegLoaded s t r (u.seg r) { s.regs with sp := s.regs.sp + 2 }) ∧
      (∀ e, s.begin.loadSeg r (top s) = .error { exc := e, context := none } → Raises i s e)) ∧
    (∀ q m i r, (i = Instr.lds q m ∧ r = SReg.ds) ∨ (i = .les q m ∧ r = .es) → Fits s (s.segOf m) (s.ea m).toNat 4 false →
      (∀ u, s.begin.loadSeg r (wordAt s (s.segOf m) ((s.ea m).toNat + 2)) = .ok u → ∃ t, exec i s = .next t ∧ t.mem = u.mem ∧
        SegLoaded s t r (u.seg r) (s.setReg16 q (wordAt s (s.segOf m) (s.ea m).toNat)).regs) ∧
      (∀ e, s.begin.loadSeg r (wordAt s (s.segOf m) ((s.ea m).toNat + 2)) = .error { exc := e, context := none } →
        Raises i s e))

/-! String instructions. -/

/-- How far a string pointer moves (43_string.md R270). -/
def Sys2Proof.Claims.moved (s : State) (p : Word) (n : Nat) : Word :=
  if s.flags.df = true then p - BitVec.ofNat 16 n else p + BitVec.ofNat 16 n

/-- MOVS, CMPS, SCAS, LODS and STOS without a repeat prefix: the element at DS:SI or the override's segment, the one at ES:DI,
the flags of source minus destination, and the pointers moved by DF (43_string.md R270 to R275). -/
def Obligations.StringElement : Prop :=
  ∀ (s : State) (g : SReg), NoRep s → g = s.pfx.seg.getD .ds →
    (Fits s g s.regs.si.toNat 1 false → Fits s .es s.regs.di.toNat 1 true →
      ∃ t, exec .movsb s = .next t ∧ Ended s t ∧ t.flags = s.flags ∧
        t.regs = { s.regs with si := moved s s.regs.si 1, di := moved s s.regs.di 1 } ∧
        StoredByte s t .es s.regs.di.toNat (byteAt s g s.regs.si.toNat)) ∧
    (Fits s g s.regs.si.toNat 2 false → Fits s .es s.regs.di.toNat 2 true →
      ∃ t, exec .movsw s = .next t ∧ Ended s t ∧ t.flags = s.flags ∧
        t.regs = { s.regs with si := moved s s.regs.si 2, di := moved s s.regs.di 2 } ∧
        StoredWord s t .es s.regs.di.toNat (wordAt s g s.regs.si.toNat)) ∧
    (Fits s g s.regs.si.toNat 1 false → Fits s .es s.regs.di.toNat 1 false →
      ∃ t, exec .cmpsb s = .next t ∧ Ended s t ∧ MemSame s t ∧ ControlKept s.flags t.flags ∧
        t.regs = { s.regs with si := moved s s.regs.si 1, di := moved s s.regs.di 1 } ∧
        (∀ a b, a = byteAt s g s.regs.si.toNat → b = byteAt s .es s.regs.di.toNat →
          DiffFlags t.flags a b (a - b) false ∧ DiffCarry t.flags a b false)) ∧
    (Fits s g s.regs.si.toNat 2 false → Fits s .es s.regs.di.toNat 2 false →
      ∃ t, exec .cmpsw s = .next t ∧ Ended s t ∧ MemSame s t ∧ ControlKept s.flags t.flags ∧
        t.regs = { s.regs with si := moved s s.regs.si 2, di := moved s s.regs.di 2 } ∧
        (∀ a b, a = wordAt s g s.regs.si.toNat → b = wordAt s .es s.regs.di.toNat →
          DiffFlags t.flags a b (a - b) false ∧ DiffCarry t.flags a b false)) ∧
    (Fits s .es s.regs.di.toNat 1 false →
      ∃ t, exec .scasb s = .next t ∧ Ended s t ∧ MemSame s t ∧ ControlKept s.flags t.flags ∧
        t.regs = { s.regs with di := moved s s.regs.di 1 } ∧
        (∀ b, b = byteAt s .es s.regs.di.toNat →
          DiffFlags t.flags (s.reg8 .al) b (s.reg8 .al - b) false ∧ DiffCarry t.flags (s.reg8 .al) b false)) ∧
    (Fits s .es s.regs.di.toNat 2 false →
      ∃ t, exec .scasw s = .next t ∧ Ended s t ∧ MemSame s t ∧ ControlKept s.flags t.flags ∧
        t.regs = { s.regs with di := moved s s.regs.di 2 } ∧
        (∀ b, b = wordAt s .es s.regs.di.toNat →
          DiffFlags t.flags s.regs.ax b (s.regs.ax - b) false ∧ DiffCarry t.flags s.regs.ax b false)) ∧
    (Fits s g s.regs.si.toNat 1 false →
      ∃ t, exec .lodsb s = .next t ∧ Ended s t ∧ MemSame s t ∧ t.flags = s.flags ∧
        t.regs = { (s.setReg8 .al (byteAt s g s.regs.si.toNat)).regs with si := moved s s.regs.si 1 }) ∧
    (Fits s g s.regs.si.toNat 2 false →
      ∃ t, exec .lodsw s = .next t ∧ Ended s t ∧ MemSame s t ∧ t.flags = s.flags ∧
        t.regs = { s.regs with ax := wordAt s g s.regs.si.toNat, si := moved s s.regs.si 2 }) ∧
    (Fits s .es s.regs.di.toNat 1 true →
      ∃ t, exec .stosb s = .next t ∧ Ended s t ∧ t.flags = s.flags ∧ t.regs = { s.regs with di := moved s s.regs.di 1 } ∧
        StoredByte s t .es s.regs.di.toNat (s.reg8 .al)) ∧
    (Fits s .es s.regs.di.toNat 2 true →
      ∃ t, exec .stosw s = .next t ∧ Ended s t ∧ t.flags = s.flags ∧ t.regs = { s.regs with di := moved s s.regs.di 2 } ∧
        StoredWord s t .es s.regs.di.toNat s.regs.ax)

/-- INS and OUTS without a repeat prefix: one byte or word between port DX and memory, with DI or SI moved by DF;
GeneralProtection(0) where the level does not allow them, and the refusal of a word at port FFFF (43_string.md R276, R277;
60_exceptions.md R462). That OUTS without the privilege raises so even where its read would raise too is the model's choice, log
46. -/
def Obligations.BlockIo : Prop :=
  ∀ (s : State) (g : SReg), NoRep s → g = s.pfx.seg.getD .ds →
    ((s.msw.pe = false ∨ s.cpl ≤ s.flags.iopl) →
      (Fits s .es s.regs.di.toNat 1 true →
        ∃ t, exec .insb s = .next t ∧ Ended s t ∧ t.flags = s.flags ∧ t.regs = { s.regs with di := moved s s.regs.di 1 } ∧
          StoredByte s t .es s.regs.di.toNat (Config.portByte s.clock s.regs.dx)) ∧
      (Fits s .es s.regs.di.toNat 2 true → s.regs.dx ≠ 0xFFFF →
        ∃ t, exec .insw s = .next t ∧ Ended s t ∧ t.flags = s.flags ∧ t.regs = { s.regs with di := moved s s.regs.di 2 } ∧
          StoredWord s t .es s.regs.di.toNat (Config.portByte s.clock (s.regs.dx + 1) ++ Config.portByte s.clock s.regs.dx)) ∧
      (Fits s g s.regs.si.toNat 1 false →
        exec .outsb s = .next (after s { s with
          regs := { s.regs with si := moved s s.regs.si 1 }
          portTrace := s.portTrace ++
            [{ port := s.regs.dx, bytes := 1, value := (byteAt s g s.regs.si.toNat).setWidth 16 }] } s.ipNext)) ∧
      (Fits s g s.regs.si.toNat 2 false → s.regs.dx ≠ 0xFFFF →
        exec .outsw s = .next (after s { s with
          regs := { s.regs with si := moved s s.regs.si 2 }
          portTrace := s.portTrace ++ [{ port := s.regs.dx, bytes := 2, value := wordAt s g s.regs.si.toNat }] } s.ipNext)) ∧
      (s.regs.dx = 0xFFFF →
        (Fits s .es s.regs.di.toNat 2 true → exec .insw s = .refused .portWordWrap) ∧
        (Fits s g s.regs.si.toNat 2 false → exec .outsw s = .refused .portWordWrap))) ∧
    (s.msw.pe = true → s.flags.iopl < s.cpl →
      ∀ i ∈ [Instr.insb, .insw, .outsb, .outsw], Raises i s (.generalProtection 0))

/-- The string instructions: the name under which a repetition goes on, the instruction, whether it compares, and what one
element does (43_string.md R271 to R277). -/
def Sys2Proof.Claims.elements : List (StringOp × Instr × Bool × (State → Res State)) :=
  [(.movsb, .movsb, false, State.movsByte), (.movsw, .movsw, false, State.movsWord), (.cmpsb, .cmpsb, true, State.cmpsByte),
    (.cmpsw, .cmpsw, true, State.cmpsWord), (.scasb, .scasb, true, State.scasByte), (.scasw, .scasw, true, State.scasWord),
    (.lodsb, .lodsb, false, State.lodsByte), (.lodsw, .lodsw, false, State.lodsWord), (.stosb, .stosb, false, State.stosByte),
    (.stosw, .stosw, false, State.stosWord), (.insb, .insb, false, State.insByte), (.insw, .insw, false, State.insWord),
    (.outsb, .outsb, false, State.outsByte), (.outsw, .outsw, false, State.outsWord)]

/-- The element would use port FFFF for a word (93_implementation_defined.md U8). -/
def Sys2Proof.Claims.WrapsPort (s : State) (op : StringOp) : Prop := s.regs.dx = 0xFFFF ∧ (op = .insw ∨ op = .outsw)

/-- Whether a repetition is over after an element that ended in `u`, CX not yet counted down (43_string.md R278). -/
def Sys2Proof.Claims.Over (u : State) (p : Rep) (compares : Bool) : Prop :=
  u.regs.cx = 1 ∨ (compares = true ∧ (u.flags.zf = true ↔ p = .repne))

/-- A repeated string instruction, one element a step (43_string.md R278, R279; that an element is a step of its own is log 33):
with CX = 0 it is over and has done nothing; else one element is done and CX goes down by one, and the instruction is over when
CX is 0 or a comparison ended it. Otherwise it goes on: IP is at its first prefix, its prefixes are kept, a single-step trap is
due where TF is 1, and the shadow of the instruction before it lasts, which is log 27. An element that faults leaves CX as it
was. A word element at port FFFF that passes its checks is refused, log 16, and so is F2 before an instruction that does not
compare, log 13. -/
def Obligations.RepeatedString : Prop :=
  ∀ op i compares f, (op, i, compares, f) ∈ elements → op.instr = i ∧ ∀ (s : State) (p : Rep), s.pfx.rep = some p →
    ((compares = true ∨ p = .rep) →
      (s.regs.cx = 0 → exec i s = .next (after s s s.ipNext)) ∧
      (s.regs.cx ≠ 0 →
        (∀ u, f s.begin = .ok u → WrapsPort s op → exec i s = .refused .portWordWrap) ∧
        (∀ u, f s.begin = .ok u → ¬WrapsPort s op →
          (Over u p compares →
            exec i s = .next (after s { u with regs := { u.regs with cx := u.regs.cx - 1 } } s.ipNext)) ∧
          (¬Over u p compares →
            exec i s = .next { u with
              regs := { u.regs with cx := u.regs.cx - 1 }
              ip := s.ip, pfx := s.pfx, again := some op, shadow := s.shadow
              trapPending := s.flags.tf && decide (s.shadow = .none) })) ∧
        (∀ x, f s.begin = .error { exc := x, context := none } → Raises i s x))) ∧
    (compares = false → p = .repne → exec i s = .refused .repneOfNonCompare)

/-! Control transfer. -/

/-- `i` goes to `target` if that is inside the code segment and else takes GeneralProtection(0); `u` is what it changes besides
(44_control_transfer.md R290). -/
def Sys2Proof.Claims.JumpsTo (i : Instr) (s u : State) (target : Word) : Prop :=
  (target.toNat ≤ s.codeLimit → exec i s = .next (after s { u with queueEmpty := true } target)) ∧
    (s.codeLimit < target.toNat → Raises i s (.generalProtection 0))

/-- The conditional jumps: the instruction, its opcode and its condition (44_control_transfer.md R291). -/
def Sys2Proof.Claims.jccs : List ((Byte → Instr) × Byte × (Flags → Bool)) :=
  [(.jo, 0x70, fun f => f.of), (.jno, 0x71, fun f => !f.of), (.jb, 0x72, fun f => f.cf), (.jnb, 0x73, fun f => !f.cf),
    (.je, 0x74, fun f => f.zf), (.jne, 0x75, fun f => !f.zf), (.jbe, 0x76, fun f => f.cf || f.zf),
    (.jnbe, 0x77, fun f => !(f.cf || f.zf)), (.js, 0x78, fun f => f.sf), (.jns, 0x79, fun f => !f.sf),
    (.jp, 0x7A, fun f => f.pf), (.jnp, 0x7B, fun f => !f.pf), (.jl, 0x7C, fun f => f.sf ^^ f.of),
    (.jnl, 0x7D, fun f => !(f.sf ^^ f.of)), (.jle, 0x7E, fun f => (f.sf ^^ f.of) || f.zf),
    (.jnle, 0x7F, fun f => !((f.sf ^^ f.of) || f.zf))]

/-- The sixteen conditional jumps, with their encodings: taken to `ip_next` plus the sign-extended byte where the condition
holds, and otherwise to `ip_next` (44_control_transfer.md R291). -/
def Obligations.ConditionalJumps : Prop :=
  ∀ e ∈ jccs, ∀ (s : State) (rel : Byte),
    encode (e.1 rel) = [e.2.1, rel] ∧
    (NoRep s →
      (e.2.2 s.flags = false → exec (e.1 rel) s = .next (after s s s.ipNext)) ∧
      (e.2.2 s.flags = true → JumpsTo (e.1 rel) s s (s.ipNext + rel.signExtend 16)))

/-- LOOP, LOOPZ, LOOPNZ and JCXZ, with their encodings: CX counted down without a flag changing, and the jump on CX and ZF;
JCXZ leaves CX alone (44_control_transfer.md R302 to R305). -/
def Obligations.Loops : Prop :=
  ∀ (s : State) (rel : Byte),
    encode (.loop rel) = [0xE2, rel] ∧ encode (.loopz rel) = [0xE1, rel] ∧ encode (.loopnz rel) = [0xE0, rel] ∧
    encode (.jcxz rel) = [0xE3, rel] ∧
    (NoRep s → ∀ u, u = { s with regs := { s.regs with cx := s.regs.cx - 1 } } →
      (∀ i z, (i = Instr.loop rel ∧ z = true) ∨ (i = .loopz rel ∧ z = s.flags.zf) ∨ (i = .loopnz rel ∧ z = !s.flags.zf) →
        (s.regs.cx ≠ 1 ∧ z = true → JumpsTo i s u (s.ipNext + rel.signExtend 16)) ∧
        (s.regs.cx = 1 ∨ z = false → exec i s = .next (after s u s.ipNext))) ∧
      (s.regs.cx = 0 → JumpsTo (.jcxz rel) s s (s.ipNext + rel.signExtend 16)) ∧
      (s.regs.cx ≠ 0 → exec (.jcxz rel) s = .next (after s s s.ipNext)))

/-- Near JMP, CALL and RET: relative, through a register or memory, with the return address pushed by CALL and popped by RET,
which also releases its parameter bytes; a target outside the code segment raises and nothing changes
(44_control_transfer.md R292, R293, R296, R298, R299). -/
def Obligations.NearTransfers : Prop :=
  ∀ s : State, NoRep s →
    (∀ rel, JumpsTo (.jmpRel8 rel) s s (s.ipNext + rel.signExtend 16)) ∧
    (∀ rel, JumpsTo (.jmpRel16 rel) s s (s.ipNext + rel)) ∧
    (∀ rm, Readable16 s rm → JumpsTo (.jmpRm16 rm) s s (value16 s rm)) ∧
    (∀ i target, (∃ rel, i = Instr.callRel16 rel ∧ target = s.ipNext + rel) ∨
        (∃ rm, i = Instr.callRm16 rm ∧ Readable16 s rm ∧ target = value16 s rm) →
      (target.toNat ≤ s.codeLimit → PushFits s → ∃ t, exec i s = .next t ∧ Pushed s t s.ipNext ∧
        t = after s { s with regs := t.regs, mem := t.mem, queueEmpty := true } target) ∧
      (target.toNat ≤ s.codeLimit → ¬PushFits s → ∀ e, AccessExc s .ss true e → Raises i s e) ∧
      (s.codeLimit < target.toNat → Raises i s (.generalProtection 0))) ∧
    (∀ i n, (i = Instr.ret ∧ n = 0) ∨ i = .retImm16 n →
      (PopFits s → JumpsTo i s { s with regs := { s.regs with sp := s.regs.sp + 2 + n } } (top s)) ∧
      (¬PopFits s → ∀ e, AccessExc s .ss false e → Raises i s e))

/-- The far pointer an instruction names, directly or in memory that can be read (44_control_transfer.md R294, R295, R300,
R301). -/
def Sys2Proof.Claims.FarPointer (s : State) (call : Bool) (i : Instr) (sel off : Word) : Prop :=
  (i = if call then .callPtr sel off else .jmpPtr sel off) ∨
  ∃ m, (i = if call then .callM16_16 m else .jmpM16_16 m) ∧ Fits s (s.segOf m) (s.ea m).toNat 4 false ∧
    off = wordAt s (s.segOf m) (s.ea m).toNat ∧ sel = wordAt s (s.segOf m) ((s.ea m).toNat + 2)

/-- `t` has the two words on the stack, the first above the second, and every other byte as in `s`. -/
def Sys2Proof.Claims.PushedTwo (s t : State) (a b : Word) : Prop :=
  ∃ u, StoredWord s u .ss (s.regs.sp - 2).toNat a ∧ u.msw = s.msw ∧ u.ss = s.ss ∧
    StoredWord u t .ss (s.regs.sp - 4).toNat b

/-- Far JMP, CALL and RET in Real Address Mode: CS gets the selector and 16 times it as base, CALL pushes CS and the return
address, RET pops them and releases its parameter bytes (44_control_transfer.md R294, R295, R297, R300, R301). -/
def Obligations.FarTransfersReal : Prop :=
  ∀ s : State, NoRep s → s.msw.pe = false →
    (∀ i sel off, FarPointer s false i sel off →
      ∃ t, exec i s = .next t ∧ RealSeg t.cs sel ∧ t = after s { s with cs := t.cs, queueEmpty := true } off) ∧
    (∀ i sel off, FarPointer s true i sel off →
      (s.regs.sp ≠ 1 ∧ s.regs.sp ≠ 3 →
        ∃ t, exec i s = .next t ∧ RealSeg t.cs sel ∧ PushedTwo s t s.cs.sel s.ipNext ∧
          t = after s { s with
            cs := t.cs, mem := t.mem, regs := { s.regs with sp := s.regs.sp - 4 }, queueEmpty := true } off) ∧
      (s.regs.sp = 1 ∨ s.regs.sp = 3 → Raises i s (.stackFault 0))) ∧
    (∀ i n, (i = Instr.retf ∧ n = 0) ∨ i = .retfImm16 n →
      (s.regs.sp ≠ 0xFFFF ∧ s.regs.sp ≠ 0xFFFD →
        ∃ t, exec i s = .next t ∧ RealSeg t.cs (stackAt s 1) ∧ MemSame s t ∧
          t = after s { s with
            cs := t.cs, mem := t.mem, regs := { s.regs with sp := s.regs.sp + 4 + n }, queueEmpty := true } (top s)) ∧
      (s.regs.sp = 0xFFFF ∨ s.regs.sp = 0xFFFD → Raises i s (.stackFault 0)))

/-- A code segment that a direct far transfer may enter without a gate (44_control_transfer.md R318). -/
def Sys2Proof.Claims.CodeAllowed (s : State) (sel : Word) (d : Desc) : Prop :=
  if arConforming d.ar = true then arDpl d.ar ≤ s.cpl else selRpl sel ≤ s.cpl ∧ arDpl d.ar = s.cpl

/-- The code segment register after a transfer to level `lvl`: the selector with the level as its RPL, and the descriptor. -/
def Sys2Proof.Claims.codeSeg (sel : Word) (lvl : Level) (d : Desc) : SegReg :=
  { sel := (sel &&& 0xFFFC) ||| lvl.setWidth 16, base := d.base, limit := d.limit, ar := d.ar, valid := true }

/-- Direct far JMP and CALL in Protected Mode: to a code segment the level may enter, at the same level, CALL pushing CS and the
return address; and the exception of each check that fails, with nothing changed: those of the selector, the privilege, the
presence, the limit and the room for two words, and that of a descriptor which is neither a code segment nor a call gate, a task
gate or an available task state segment (44_control_transfer.md R318). A far pointer that may not be read raises. -/
def Obligations.FarTransfersProtected : Prop :=
  (∀ (s : State) (call : Bool) (m : Mem) (e : Exc), NoRep s → s.msw.pe = true → ¬Fits s (s.segOf m) (s.ea m).toNat 4 false →
    AccessExc s (s.segOf m) false e → Raises (if call then .callM16_16 m else .jmpM16_16 m) s e) ∧
  ∀ (s : State) (call : Bool) (i : Instr) (sel off : Word), NoRep s → s.msw.pe = true → FarPointer s call i sel off →
    (sel.toNat < 4 → Raises i s (.generalProtection 0)) ∧
    (4 ≤ sel.toNat → s.fetchDesc sel = none → Raises i s (.generalProtection (sel &&& 0xFFFC))) ∧
    (∀ d, 4 ≤ sel.toNat → s.fetchDesc sel = some d →
      (arSegment d.ar = true → arCode d.ar = false → Raises i s (.generalProtection (sel &&& 0xFFFC))) ∧
      (d.ar.getLsbD 4 = false → d.ar.extractLsb' 0 4 ∉ [(4 : BitVec 4), 5, 1] →
        Raises i s (.generalProtection (sel &&& 0xFFFC))) ∧
      (arCode d.ar = true →
        (¬CodeAllowed s sel d → Raises i s (.generalProtection (sel &&& 0xFFFC))) ∧
        (CodeAllowed s sel d → arPresent d.ar = false → Raises i s (.notPresent (sel &&& 0xFFFC))) ∧
        (CodeAllowed s sel d → arPresent d.ar = true → d.limit.toNat < off.toNat → Raises i s (.generalProtection 0)) ∧
        (CodeAllowed s sel d → arPresent d.ar = true → off.toNat ≤ d.limit.toNat →
          (call = false → ∃ t, exec i s = .next t ∧ AccessedSet s t d ∧
            t = after s { s with mem := t.mem, cs := codeSeg sel s.cpl d, queueEmpty := true } off) ∧
          (call = true → PushFits s → Fits s .ss (s.regs.sp - 4).toNat 2 true →
            ∃ t u, exec i s = .next t ∧ PushedTwo s u s.cs.sel s.ipNext ∧ u.msw = s.msw ∧ AccessedSet u t d ∧
              t = after s { s with
                mem := t.mem, regs := { s.regs with sp := s.regs.sp - 4 }, cs := codeSeg sel s.cpl d, queueEmpty := true }
                off) ∧
          (call = true → ¬(PushFits s ∧ Fits s .ss (s.regs.sp - 4).toNat 2 true) →
            ∀ e, AccessExc s .ss true e → Raises i s e))))

/-! The checks of the selectors that a far return, a gate or the task state segment names. -/

/-- The level may use the descriptor through the selector (44_control_transfer.md R319, R321). -/
def Sys2Proof.Claims.LevelMayUse (s : State) (sel : Word) (d : Desc) : Prop := s.cpl ≤ arDpl d.ar ∧ selRpl sel ≤ arDpl d.ar

/-- What the checks of a code selector raise: null, outside its table, a descriptor that is not an `allowed` code segment, and one
that is not present; `ext` is the EXT bit of the error codes (44_control_transfer.md R297, R319, R320; 60_exceptions.md R443). -/
def Sys2Proof.Claims.CodeChecked (s : State) (sel ext : Word) (allowed : Desc → Prop) (raises : Exc → Prop) : Prop :=
  (sel.toNat < 4 → raises (.generalProtection ext)) ∧
  (4 ≤ sel.toNat → s.fetchDesc sel = none → raises (.generalProtection ((sel &&& 0xFFFC) ||| ext))) ∧
  ∀ d, 4 ≤ sel.toNat → s.fetchDesc sel = some d →
    (¬allowed d → raises (.generalProtection ((sel &&& 0xFFFC) ||| ext))) ∧
    (allowed d → arPresent d.ar = false → raises (.notPresent ((sel &&& 0xFFFC) ||| ext)))

/-- The code selector passes those checks, with the descriptor `d`. -/
def Sys2Proof.Claims.CodeFound (s : State) (sel : Word) (allowed : Desc → Prop) (d : Desc) : Prop :=
  4 ≤ sel.toNat ∧ s.fetchDesc sel = some d ∧ allowed d ∧ arPresent d.ar = true

/-- A code segment that a return to the level may enter (44_control_transfer.md R297, R320; 60_exceptions.md R447). -/
def Sys2Proof.Claims.ReturnAllows (lvl : Level) (d : Desc) : Prop :=
  arCode d.ar = true ∧ if arConforming d.ar = true then arDpl d.ar ≤ lvl else arDpl d.ar = lvl

/-- A code segment that a gate may name (44_control_transfer.md R319; 60_exceptions.md R443). -/
def Sys2Proof.Claims.GateAllows (s : State) (d : Desc) : Prop := arCode d.ar = true ∧ arDpl d.ar ≤ s.cpl

/-- A stack segment of the level (44_control_transfer.md R319, R320; 60_exceptions.md R445). -/
def Sys2Proof.Claims.StackAllowed (lvl : Level) (nss : Word) (d : Desc) : Prop :=
  selRpl nss = lvl ∧ arDpl d.ar = lvl ∧ arWritable d.ar = true

/-- What the checks of the stack selector of a new level raise: null, outside its table (for an inner stack log 21), the wrong
RPL, DPL or type, and a segment that is not present (44_control_transfer.md R319, R320; 60_exceptions.md R445). -/
def Sys2Proof.Claims.StackChecked (s : State) (lvl : Level) (nss ext : Word) (bad : Word → Exc) (raises : Exc → Prop) : Prop :=
  (nss.toNat < 4 → raises (bad ext)) ∧
  (4 ≤ nss.toNat → s.fetchDesc nss = none → raises (bad ((nss &&& 0xFFFC) ||| ext))) ∧
  ∀ d, 4 ≤ nss.toNat → s.fetchDesc nss = some d →
    (¬StackAllowed lvl nss d → raises (bad ((nss &&& 0xFFFC) ||| ext))) ∧
    (StackAllowed lvl nss d → arPresent d.ar = false → raises (.stackFault ((nss &&& 0xFFFC) ||| ext)))

/-- The stack selector passes those checks, with the descriptor `d`. -/
def Sys2Proof.Claims.StackFound (s : State) (lvl : Level) (nss : Word) (d : Desc) : Prop :=
  4 ≤ nss.toNat ∧ s.fetchDesc nss = some d ∧ StackAllowed lvl nss d ∧ arPresent d.ar = true

/-- The task state segment gives the level the stack `nss`:`nsp`, which has the descriptor `d` (60_exceptions.md R461). -/
def Sys2Proof.Claims.InnerStack (s : State) (lvl : Level) (nsp nss : Word) (d : Desc) : Prop :=
  4 + 4 * lvl.toNat + 1 ≤ s.tr.limit.toNat ∧ nsp = s.read16 (s.tr.base.toNat + 2 + 4 * lvl.toNat) ∧
    nss = s.read16 (s.tr.base.toNat + 4 + 4 * lvl.toNat) ∧ StackFound s lvl nss d

/-- What the checks of the stack of an inner level raise: a task state segment that is too short to give it, and a selector that
fails a check (44_control_transfer.md R319; 60_exceptions.md R445; log 21). -/
def Sys2Proof.Claims.InnerStackChecked (s : State) (lvl : Level) (ext : Word) (raises : Exc → Prop) : Prop :=
  (s.tr.limit.toNat < 4 + 4 * lvl.toNat + 1 → raises (.invalidTss ((s.tr.sel &&& 0xFFFC) ||| ext))) ∧
  (4 + 4 * lvl.toNat + 1 ≤ s.tr.limit.toNat →
    StackChecked s lvl (s.read16 (s.tr.base.toNat + 4 + 4 * lvl.toNat)) ext .invalidTss raises)

/-- There is room for `n` words below `sp` in the stack segment (20_memory.md R92, R93). -/
def Sys2Proof.Claims.StackRoom (g : SegReg) (sp : Word) (n : Nat) : Prop :=
  ∀ k, k < n → insideLimit g (sp - BitVec.ofNat 16 (2 * (k + 1))).toNat 2 = true

/-! Far returns. -/

/-- What the checks of a return selector and its offset raise (44_control_transfer.md R297, R320; 60_exceptions.md R447). -/
def Sys2Proof.Claims.ReturnChecked (s : State) (sel off : Word) (raises : Exc → Prop) : Prop :=
  CodeChecked s sel 0 (ReturnAllows (selRpl sel)) raises ∧
  ∀ d, CodeFound s sel (ReturnAllows (selRpl sel)) d → d.limit.toNat < off.toNat → raises (.generalProtection 0)

/-- What RET far with `n` bytes of parameters and `words` 2 raises, and IRET with `n` 2, its FLAGS, and `words` 3: where a word of
the frame may not be read; inward; where a check of the return selector or offset fails; and outward where the `8 + n` bytes
may not be read as one access (log 37) or a check of the outer stack selector fails. IRET finds a null selector before it looks
for the outer frame (44_control_transfer.md R297, R320; 60_exceptions.md R447). -/
def Sys2Proof.Claims.ReturnFaults (s : State) (i : Instr) (words : Nat) (n : Word) : Prop :=
  ((∃ k, k < words ∧ ¬StackFits s k) → ∀ e, AccessExc s .ss false e → Raises i s e) ∧
  ((∀ k, k < words → StackFits s k) → ∀ sel off, off = stackAt s 0 → sel = stackAt s 1 →
    (i = .iret → sel.toNat < 4 → Raises i s (.generalProtection 0)) ∧
    (selRpl sel < s.cpl → Raises i s (.generalProtection (sel &&& 0xFFFC))) ∧
    (selRpl sel = s.cpl → ReturnChecked s sel off (Raises i s)) ∧
    (s.cpl < selRpl sel →
      (¬Fits s .ss s.regs.sp.toNat (8 + n.toNat) false → (i = .iret → 4 ≤ sel.toNat) →
        ∀ e, AccessExc s .ss false e → Raises i s e) ∧
      (Fits s .ss s.regs.sp.toNat (8 + n.toNat) false →
        ReturnChecked s sel off (Raises i s) ∧
        ∀ d nss, CodeFound s sel (ReturnAllows (selRpl sel)) d → off.toNat ≤ d.limit.toNat →
          nss = wordAt s .ss (s.regs.sp.toNat + 6 + n.toNat) →
          StackChecked s (selRpl sel) nss 0 .generalProtection (Raises i s))))

/-- DS or ES after a return to level `lvl`: dropped where that level may not use its segment (44_control_transfer.md R320). -/
def Sys2Proof.Claims.outward (lvl : Level) (g : SegReg) : SegReg :=
  if g.valid = true ∧ arConforming g.ar = false ∧ arDpl g.ar < lvl then { g with sel := 0, valid := false } else g

/-- RET far in Protected Mode: what it raises with nothing changed, at each check that fails; and the return to the same level
(44_control_transfer.md R297, R318) and to an outer level, where the outer stack is taken from the inner one, the parameters are
released on both, and DS and ES lose segments the outer level may not use (44_control_transfer.md R320). -/
def Obligations.FarReturnsProtected : Prop :=
  ∀ (s : State) (i : Instr) (n : Word), NoRep s → s.msw.pe = true → ((i = Instr.retf ∧ n = 0) ∨ i = .retfImm16 n) →
    ReturnFaults s i 2 n ∧
    ∀ sel off d, StackFits s 0 → StackFits s 1 → off = stackAt s 0 → sel = stackAt s 1 →
      CodeFound s sel (ReturnAllows (selRpl sel)) d → off.toNat ≤ d.limit.toNat →
      (selRpl sel = s.cpl →
        ∃ t, exec i s = .next t ∧ AccessedSet s t d ∧ t = after s { s with
          mem := t.mem, regs := { s.regs with sp := s.regs.sp + (4 + n) }
          cs := { sel := sel, base := d.base, limit := d.limit, ar := d.ar, valid := true }, queueEmpty := true } off) ∧
      (s.cpl < selRpl sel → Fits s .ss s.regs.sp.toNat (8 + n.toNat) false →
        ∀ nss d2, nss = wordAt s .ss (s.regs.sp.toNat + 6 + n.toNat) → StackFound s (selRpl sel) nss d2 →
          ∃ t u, exec i s = .next t ∧ AccessedSet s u d ∧ u.msw = s.msw ∧ AccessedSet u t d2 ∧ t = after s { s with
            mem := t.mem
            regs := { s.regs with sp := wordAt s .ss (s.regs.sp.toNat + 4 + n.toNat) + n }
            cs := { sel := sel, base := d.base, limit := d.limit, ar := d.ar, valid := true }
            ss := { sel := nss, base := d2.base, limit := d2.limit, ar := d2.ar, valid := true }
            ds := outward (selRpl sel) s.ds, es := outward (selRpl sel) s.es
            cpl := selRpl sel, queueEmpty := true } off)

/-- The words from `off` downward in the stack segment `g` of a Protected Mode state hold `ws`, the first highest. -/
def Sys2Proof.Claims.StackHolds (t : State) (g : SegReg) (off : Word) : List Word → Prop
  | [] => True
  | w :: ws =>
    t.read16 (g.base.toNat + (off - 2).toNat) = w ∧ Sys2Proof.Claims.StackHolds t g (off - 2) ws

/-- `u` is `v` with `ws` on the stack below `off` of `g`, the first highest, and every other byte as before; both are in the mode
of `s`. -/
def Sys2Proof.Claims.StackPushed (s v u : State) (g : SegReg) (off : Word) (ws : List Word) : Prop :=
  v.msw = s.msw ∧ u.msw = s.msw ∧ StackHolds u g off ws ∧
    ∀ p, (∀ k, k < ws.length →
        p ≠ physAddr s.msw.pe (g.base.toNat + (off - BitVec.ofNat 16 (2 * (k + 1))).toNat) ∧
        p ≠ physAddr s.msw.pe (g.base.toNat + (off - BitVec.ofNat 16 (2 * (k + 1))).toNat + 1)) →
      u.physByte p = v.physByte p

/-- The far transfer `i` goes through the call gate `g`, which is present and which the level and the RPL may use
(44_control_transfer.md R319). -/
def Sys2Proof.Claims.ThroughCallGate (s : State) (call : Bool) (i : Instr) (g : Desc) : Prop :=
  ∃ sel off, FarPointer s call i sel off ∧ 4 ≤ sel.toNat ∧ s.fetchDesc sel = some g ∧ arControl g.ar 4 = true ∧
    LevelMayUse s sel g ∧ arPresent g.ar = true

/-- A call through a call gate to a more privileged level: the new stack comes from the task state segment, holds the old SS and
SP, the parameters in their order, the old CS and the return address, and the procedure runs at its own level at the gate's
offset (44_control_transfer.md R319; 60_exceptions.md R461). Memory is stated before the Accessed bit of the code segment is
set. -/
def Sys2Proof.Claims.CallGateInner : Prop :=
  ∀ (s : State) (i : Instr) (g c d : Desc) (nsp nss : Word), NoRep s → s.msw.pe = true → ThroughCallGate s true i g →
    CodeFound s g.gateSel (GateAllows s) c → g.gateOffset.toNat ≤ c.limit.toNat →
    arConforming c.ar = false → arDpl c.ar < s.cpl → InnerStack s (arDpl c.ar) nsp nss d →
    StackRoom (d.toSeg nss) nsp (4 + g.gateCount) → (∀ k, k < g.gateCount → StackFits s k) →
    ∃ t u v : State, exec i s = .next t ∧ AccessedSet s v d ∧ AccessedSet u t c ∧
      StackPushed s v u (d.toSeg nss) nsp
        ([s.ss.sel, s.regs.sp] ++ ((List.range g.gateCount).map (stackAt s)).reverse ++ [s.cs.sel, s.ipNext]) ∧
      t = after s { s with
        mem := t.mem, cpl := arDpl c.ar, ss := d.toSeg nss, cs := codeSeg g.gateSel (arDpl c.ar) c
        regs := { s.regs with sp := nsp - BitVec.ofNat 16 (2 * (4 + g.gateCount)) }, queueEmpty := true } g.gateOffset

/-- A JMP or CALL through a call gate that does not change the level goes to the gate's target (44_control_transfer.md R319). -/
def Sys2Proof.Claims.CallGateSameLevel : Prop :=
  ∀ (s : State) (call : Bool) (i : Instr) (g c : Desc), NoRep s → s.msw.pe = true → ThroughCallGate s call i g →
    CodeFound s g.gateSel (GateAllows s) c → g.gateOffset.toNat ≤ c.limit.toNat →
    arDpl c.ar = s.cpl ∨ arConforming c.ar = true →
    (call = false → ∃ t, exec i s = .next t ∧ AccessedSet s t c ∧
      t = after s { s with mem := t.mem, cs := codeSeg g.gateSel s.cpl c, queueEmpty := true } g.gateOffset) ∧
    (call = true → PushFits s → Fits s .ss (s.regs.sp - 4).toNat 2 true →
      ∃ t u, exec i s = .next t ∧ PushedTwo s u s.cs.sel s.ipNext ∧ u.msw = s.msw ∧ AccessedSet u t c ∧
        t = after s { s with
          mem := t.mem, regs := { s.regs with sp := s.regs.sp - 4 }, cs := codeSeg g.gateSel s.cpl c, queueEmpty := true }
          g.gateOffset)

/-- What a JMP or CALL through a call gate raises with nothing changed: the checks of the gate, then those of its target selector
and offset; no room for the two words of a CALL at the same level; a JMP inward; and for a CALL inward the checks of the inner
stack (log 21), its room, and a parameter that may not be read (44_control_transfer.md R319). -/
def Sys2Proof.Claims.CallGateFaults : Prop :=
  ∀ (s : State) (call : Bool) (i : Instr), NoRep s → s.msw.pe = true →
    (∀ sel off g, FarPointer s call i sel off → 4 ≤ sel.toNat → s.fetchDesc sel = some g → arControl g.ar 4 = true →
      (¬LevelMayUse s sel g → Raises i s (.generalProtection (sel &&& 0xFFFC))) ∧
      (LevelMayUse s sel g → arPresent g.ar = false → Raises i s (.notPresent (sel &&& 0xFFFC)))) ∧
    ∀ g, ThroughCallGate s call i g →
      CodeChecked s g.gateSel 0 (GateAllows s) (Raises i s) ∧
      ∀ c, CodeFound s g.gateSel (GateAllows s) c →
        (c.limit.toNat < g.gateOffset.toNat → Raises i s (.generalProtection 0)) ∧
        (g.gateOffset.toNat ≤ c.limit.toNat →
          (arDpl c.ar = s.cpl ∨ arConforming c.ar = true → call = true →
            ¬(PushFits s ∧ Fits s .ss (s.regs.sp - 4).toNat 2 true) → ∀ e, AccessExc s .ss true e → Raises i s e) ∧
          (arConforming c.ar = false → arDpl c.ar < s.cpl →
            (call = false → Raises i s (.generalProtection (g.gateSel &&& 0xFFFC))) ∧
            (call = true →
              InnerStackChecked s (arDpl c.ar) 0 (Raises i s) ∧
              ∀ nsp nss d, InnerStack s (arDpl c.ar) nsp nss d →
                (¬StackRoom (d.toSeg nss) nsp (4 + g.gateCount) → Raises i s (.stackFault 0)) ∧
                (StackRoom (d.toSeg nss) nsp (4 + g.gateCount) → (∃ k, k < g.gateCount ∧ ¬StackFits s k) →
                  ∀ e, AccessExc s .ss false e → Raises i s e))))

/-- Transfers through a call gate, inward and at the same level, with every check that fails (44_control_transfer.md R319;
60_exceptions.md R461). What an inner stack selector outside its table raises is log 21. -/
def Obligations.CallGates : Prop := CallGateInner ∧ CallGateSameLevel ∧ CallGateFaults

/-! Interrupts and exceptions. -/

/-- `t` is `s` at the first instruction of the handler of vector `n` in Real Address Mode: FLAGS, CS and `ret` are on the stack,
TF and IF are 0, and CS:IP is the vector's, read after the pushes (60_exceptions.md R440 to R442). No shadow is left, log 47. -/
def Sys2Proof.Claims.RealEntry (s t : State) (n : Byte) (ret : Word) : Prop :=
  (∃ u, PushedTwo s u (flagsWord s.flags) s.cs.sel ∧ u.msw = s.msw ∧ u.ss = s.ss ∧
    StoredWord u t .ss (s.regs.sp - 6).toNat ret) ∧
  t.ip = t.read16 (s.idtr.base.toNat + 4 * n.toNat) ∧ RealSeg t.cs (t.read16 (s.idtr.base.toNat + 4 * n.toNat + 2)) ∧
  t = { s with
    regs := { s.regs with sp := s.regs.sp - 6 }, mem := t.mem, cs := t.cs, ip := t.ip
    flags := { s.flags with tf := false, ifl := false }
    halted := false, shutdown := false, shadow := .none, trapPending := false, pfx := noPrefixes, again := none, queueEmpty := true }

/-- Vector `n` can be entered in Real Address Mode: it lies inside the table and the three words fit on the stack. -/
def Sys2Proof.Claims.RealRoom (s : State) (n : Byte) : Prop :=
  s.msw.pe = false ∧ 4 * n.toNat + 3 ≤ s.idtr.limit.toNat ∧ s.regs.sp ≠ 1 ∧ s.regs.sp ≠ 3 ∧ s.regs.sp ≠ 5

/-- INT, INT 3, INTO and IRET in Real Address Mode: the entry through the vector table with the return address past the
instruction, INTO only with OF, a vector outside the table a double fault and no room for three words vector 12; and the return
that restores IP, CS and FLAGS but for IOPL and NT, with vector 12 where a word of the frame stands at offset FFFF
(44_control_transfer.md R306 to R309; 60_exceptions.md R442; 20_memory.md R93). A trap is due at the handler where TF was 1, log
24. -/
def Sys2Proof.Claims.InterruptsReal : Prop :=
  ∀ s : State, NoRep s → s.msw.pe = false →
    (∀ i n, i = Instr.intImm8 n ∨ (i = .int3 ∧ n = 3) ∨ (i = .into ∧ n = 4 ∧ s.flags.of = true) →
      (RealRoom s n → ∃ t u, exec i s = .next t ∧ RealEntry s u n s.ipNext ∧ t = { u with trapPending := s.flags.tf }) ∧
      (s.idtr.limit.toNat < 4 * n.toNat + 3 → Raises i s .doubleFault) ∧
      (4 * n.toNat + 3 ≤ s.idtr.limit.toNat → s.regs.sp = 1 ∨ s.regs.sp = 3 ∨ s.regs.sp = 5 → Raises i s (.stackFault 0))) ∧
    (s.regs.sp = 0xFFFF ∨ s.regs.sp = 0xFFFD ∨ s.regs.sp = 0xFFFB → Raises .iret s (.stackFault 0)) ∧
    (s.flags.of = false → exec .into s = .next (after s s s.ipNext)) ∧
    (s.regs.sp ≠ 0xFFFF → s.regs.sp ≠ 0xFFFD → s.regs.sp ≠ 0xFFFB →
      ∃ t, exec .iret s = .next t ∧ MemSame s t ∧ RealSeg t.cs (stackAt s 1) ∧
        t = after s { s with
          mem := t.mem, cs := t.cs, regs := { s.regs with sp := s.regs.sp + 6 }
          flags := { flagsOfWord (stackAt s 2) with iopl := 0, nt := false }
          nmiInService := false, queueEmpty := true } (stackAt s 0))

/-- Taking an exception in Real Address Mode saves the CS:IP of the failing instruction and pushes no error code
(60_exceptions.md R424, R425, R442); a vector outside the table is a double fault, and where that cannot be delivered the
machine shuts down (60_exceptions.md R435, R436). -/
def Sys2Proof.Claims.ExceptionsReal : Prop :=
  ∀ (s : State) (e : Exc), s.msw.pe = false →
    (e ≠ .doubleFault → RealRoom s e.vector →
      RealEntry s (s.deliver { exc := e, context := none }) e.vector s.ip) ∧
    (s.idtr.limit.toNat < 4 * e.vector.toNat + 3 → RealRoom s 8 →
      RealEntry s (s.deliver { exc := e, context := none }) 8 s.ip) ∧
    (s.idtr.limit.toNat < 4 * e.vector.toNat + 3 → s.idtr.limit.toNat < 35 →
      s.deliver { exc := e, context := none } =
        { s with halted := false, shutdown := true, shadow := .none, trapPending := false, pfx := noPrefixes, again := none, queueEmpty := true })

/-- The machine shut down in `s` (60_exceptions.md R436). No shadow is left, log 47. -/
def Sys2Proof.Claims.shutDownFrom (s : State) : State :=
  { s with
    halted := false, shutdown := true, shadow := .none, trapPending := false, pfx := noPrefixes, again := none, queueEmpty := true }

/-- An event between instructions in Real Address Mode saves the CS:IP of the next instruction and enters its vector; one whose
vector lies outside the table is a double fault, and where neither can be delivered, for want of a vector or of room for three
words, the machine shuts down (60_exceptions.md R435, R436, R442). An exception that finds no room shuts it down too. The NMI
takes vector 2, is no longer pending and is in service, the single-step trap takes vector 1, the segment overrun vector 9, and a
maskable interrupt the vector it brings; what the last two had asked for is withdrawn (60_exceptions.md R430, R432, R451, R453;
logs 10, 29 and 44). -/
def Sys2Proof.Claims.EventsReal : Prop :=
  (∀ (s : State) (n : Byte), s.msw.pe = false →
    (RealRoom s n → RealEntry s (s.takeEvent n) n s.ip) ∧
    (s.idtr.limit.toNat < 4 * n.toNat + 3 → RealRoom s 8 → RealEntry s (s.takeEvent n) 8 s.ip) ∧
    (s.idtr.limit.toNat < 4 * n.toNat + 3 → s.idtr.limit.toNat < 35 → s.takeEvent n = shutDownFrom s) ∧
    (s.regs.sp = 1 ∨ s.regs.sp = 3 ∨ s.regs.sp = 5 →
      s.takeEvent n = shutDownFrom s ∧ ∀ e, s.deliver { exc := e, context := none } = shutDownFrom s)) ∧
  (∀ s : State,
    (RealRoom s 2 → RealEntry { s with nmiPending := false, nmiInService := true } s.takeNmi 2 s.ip) ∧
    (RealRoom s 1 → RealEntry s s.takeTrap 1 s.ip) ∧
    (RealRoom s 9 → RealEntry { s with pins := { s.pins with overrun := false } } s.takeOverrun 9 s.ip) ∧
    (∀ n, RealRoom s n → RealEntry { s with pins := { s.pins with intr := none } } (s.takeIntr n) n s.ip))

/-- INT, INT 3, INTO, IRET, every exception and every event between instructions in Real Address Mode (44_control_transfer.md
R306 to R309; 60_exceptions.md R424, R430, R432, R435, R436, R442, R451, R453). That a shadow ends with an entry or a shutdown is
log 47. -/
def Obligations.InterruptsAndExceptionsReal : Prop := InterruptsReal ∧ ExceptionsReal ∧ EventsReal

/-- An interrupt or trap gate of the IDT that the event may use (60_exceptions.md R443). -/
def Sys2Proof.Claims.GateFor (s : State) (n : Byte) (soft : Bool) (g : Desc) : Prop :=
  8 * n.toNat + 7 ≤ s.idtr.limit.toNat ∧ g = s.descAt (s.idtr.base.toNat + 8 * n.toNat) ∧
    (arControl g.ar 6 = true ∨ arControl g.ar 7 = true) ∧ (soft = true → s.cpl ≤ arDpl g.ar) ∧ arPresent g.ar = true

/-- A task, interrupt or trap gate (60_exceptions.md R443). -/
def Sys2Proof.Claims.EventGate (g : Desc) : Prop :=
  arControl g.ar 5 = true ∨ arControl g.ar 6 = true ∨ arControl g.ar 7 = true

/-- The state at the first instruction of a handler entered through a gate, but for the stack and the level (60_exceptions.md
R440, R441): TF and NT are 0, and IF is 0 through an interrupt gate. No shadow is left, log 47. -/
def Sys2Proof.Claims.atHandler (s : State) (g : Desc) : State :=
  { s with
    ip := g.gateOffset
    flags := { s.flags with tf := false, nt := false, ifl := s.flags.ifl && !arControl g.ar 6 }
    halted := false, shutdown := false, shadow := .none, trapPending := false, pfx := noPrefixes, again := none, queueEmpty := true }

/-- What the entry of an event raises in Protected Mode: the checks of the vector and its gate; then, for an interrupt or trap gate,
those of the target selector, of the room on the stack of the level, of the inner stack (log 21) and of the offset; a stack
segment that may not be written raises as any write to it (20_memory.md R90, R91). The EXT bit of the error codes, 0 for a
software interrupt and 1 for any other event, is log 23 (60_exceptions.md R443 to R445). -/
def Sys2Proof.Claims.EntryFaults : Prop :=
  ∀ (s : State) (n : Byte) (soft : Bool) (ret : Word) (ec : Option Word) (ext slot : Word) (fails : Exc → Prop),
    s.msw.pe = true → ext = (if soft then 0 else 1) → slot = BitVec.ofNat 16 (8 * n.toNat + 2) ||| ext →
    fails = (fun e => s.interrupt n soft ret ec = .error { exc := e, context := none }) →
    (s.idtr.limit.toNat < 8 * n.toNat + 7 → fails (.generalProtection slot)) ∧
    (∀ g, 8 * n.toNat + 7 ≤ s.idtr.limit.toNat → g = s.descAt (s.idtr.base.toNat + 8 * n.toNat) →
      (¬EventGate g → fails (.generalProtection slot)) ∧
      (EventGate g → soft = true → arDpl g.ar < s.cpl → fails (.generalProtection slot)) ∧
      (EventGate g → (soft = true → s.cpl ≤ arDpl g.ar) → arPresent g.ar = false → fails (.notPresent slot))) ∧
    ∀ g, GateFor s n soft g →
      CodeChecked s g.gateSel ext (GateAllows s) fails ∧
      ∀ c, CodeFound s g.gateSel (GateAllows s) c →
        (arDpl c.ar = s.cpl ∨ arConforming c.ar = true →
          (¬TypeOk s .ss true → fails (.generalProtection ext)) ∧
          (TypeOk s .ss true → ¬StackRoom s.ss s.regs.sp (3 + ec.toList.length) → fails (.stackFault ext)) ∧
          (TypeOk s .ss true → StackRoom s.ss s.regs.sp (3 + ec.toList.length) → c.limit.toNat < g.gateOffset.toNat →
            fails (.generalProtection ext))) ∧
        (arConforming c.ar = false → arDpl c.ar < s.cpl →
          InnerStackChecked s (arDpl c.ar) ext fails ∧
          ∀ nsp nss d, InnerStack s (arDpl c.ar) nsp nss d →
            (¬StackRoom (d.toSeg nss) nsp (5 + ec.toList.length) → fails (.stackFault ext)) ∧
            (StackRoom (d.toSeg nss) nsp (5 + ec.toList.length) → c.limit.toNat < g.gateOffset.toNat →
              fails (.generalProtection ext)))

/-- Entry through an interrupt or trap gate in Protected Mode, for any event: at the same level the frame FLAGS, CS, return IP
and error code goes on the current stack, and to an inner level on the stack the task state segment gives, below the old SS and
SP; CS:IP is the gate's target, at the level of its segment (60_exceptions.md R440, R441, R443 to R445). Memory is stated before
the Accessed bit of the code segment is set. -/
def Sys2Proof.Claims.EntryDone : Prop :=
  ∀ (s : State) (n : Byte) (soft : Bool) (ret : Word) (ec : Option Word) (g c : Desc), s.msw.pe = true →
    GateFor s n soft g → CodeFound s g.gateSel (GateAllows s) c → g.gateOffset.toNat ≤ c.limit.toNat →
    ((arDpl c.ar = s.cpl ∨ arConforming c.ar = true) → TypeOk s .ss true →
      StackRoom s.ss s.regs.sp (3 + ec.toList.length) →
      ∃ t u : State, s.interrupt n soft ret ec = .ok t ∧ AccessedSet u t c ∧
        StackPushed s s u s.ss s.regs.sp ([flagsWord s.flags, s.cs.sel, ret] ++ ec.toList) ∧
        t = { atHandler s g with
          mem := t.mem, cs := codeSeg g.gateSel s.cpl c
          regs := { s.regs with sp := s.regs.sp - BitVec.ofNat 16 (2 * (3 + ec.toList.length)) } }) ∧
    (∀ nsp nss d, arConforming c.ar = false → arDpl c.ar < s.cpl → InnerStack s (arDpl c.ar) nsp nss d →
      StackRoom (d.toSeg nss) nsp (5 + ec.toList.length) →
      ∃ t u v : State, s.interrupt n soft ret ec = .ok t ∧ AccessedSet s v d ∧ AccessedSet u t c ∧
        StackPushed s v u (d.toSeg nss) nsp ([s.ss.sel, s.regs.sp, flagsWord s.flags, s.cs.sel, ret] ++ ec.toList) ∧
        t = { atHandler s g with
          mem := t.mem, cs := codeSeg g.gateSel (arDpl c.ar) c, ss := d.toSeg nss, cpl := arDpl c.ar
          regs := { s.regs with sp := nsp - BitVec.ofNat 16 (2 * (5 + ec.toList.length)) } })

/-- The entry of an event in Protected Mode: through an interrupt or trap gate, at the same and to an inner level, and each check
that fails, with its error code (60_exceptions.md R440, R441, R443 to R445). What an inner stack selector outside its table
raises is log 21, the EXT bit log 23; that a shadow ends with the entry is log 47. -/
def Obligations.ProtectedEntry : Prop := EntryDone ∧ EntryFaults

/-- The table of the exceptions: the vector of each, and the error code it pushes in Protected Mode, if any (60_exceptions.md
R420, R425). -/
def Sys2Proof.Claims.ExceptionTable : Prop :=
  ∀ c : Word,
    [Exc.divideError, .boundRange, .invalidOpcode, .noProcessorExtension, .doubleFault, .extensionSegmentOverrun, .invalidTss c,
      .notPresent c, .stackFault c, .generalProtection c, .extensionError].map (fun e => (e.vector, e.code)) =
    [(0, none), (5, none), (6, none), (7, none), (8, some 0), (9, none), (10, some c), (11, some c), (12, some c), (13, some c),
      (16, none)]

/-- `t` is the state `s` after the event of vector `n` between instructions: `InterruptSequence` with the IP of the next
instruction and no error code, which leaves the input pins and the latches of the NMI as they are in `s`; an exception of that
sequence is delivered (60_exceptions.md R440). -/
def Sys2Proof.Claims.EventTaken (s t : State) (n : Byte) : Prop :=
  (∀ u, s.interrupt n false s.ip none = .ok u →
    t = u ∧ u.pins = s.pins ∧ u.nmiPending = s.nmiPending ∧ u.nmiInService = s.nmiInService) ∧
  (∀ r, s.interrupt n false s.ip none = .error r → t = s.deliver r)

/-- The events between instructions: the NMI takes vector 2, is no longer pending and is in service; the single-step trap takes
vector 1 and is no longer due; the segment overrun takes vector 9 and a maskable interrupt the vector it brings, and what either
asked for is withdrawn (60_exceptions.md R430, R432, R451, R453; logs 10 and 44). -/
def Sys2Proof.Claims.EventsTaken : Prop :=
  ∀ s : State,
    (∀ n, EventTaken s (s.takeEvent n) n) ∧
    EventTaken { s with nmiPending := false, nmiInService := true } s.takeNmi 2 ∧
    EventTaken { s with trapPending := false } s.takeTrap 1 ∧
    EventTaken { s with pins := { s.pins with overrun := false } } s.takeOverrun 9 ∧
    (∀ n, EventTaken { s with pins := { s.pins with intr := none } } (s.takeIntr n) n)

/-- An exception whose own delivery raises another, `r`, in either mode, with the state of its context where it has one: while
divide error, InvalidTSS, NotPresent, StackFault or GeneralProtection is delivered that is a DoubleFault, vector 8 with code 0, and
where that cannot be delivered the machine shuts down; while another exception is delivered the second one is delivered as
itself, and a third is a DoubleFault (60_exceptions.md R435, R436). In Real Address Mode a vector outside the table is a
DoubleFault at once. What a double fault saves and the state of shutdown are log 29. -/
def Sys2Proof.Claims.SecondExceptions : Prop :=
  (∀ (s : State) (r : Raise), s.deliver r = (r.context.getD s).deliver { exc := r.exc, context := none }) ∧
  (∀ (s : State) (e : Exc) (r : Raise), e ≠ .doubleFault → s.interrupt e.vector false s.ip e.code = .error r →
    (e.vector ∈ [(0 : Byte), 10, 11, 12, 13] ∨ r.exc = .doubleFault →
      s.deliver { exc := e, context := none } = (r.context.getD s).deliver { exc := .doubleFault, context := none }) ∧
    (e.vector ∉ [(0 : Byte), 10, 11, 12, 13] → r.exc ≠ .doubleFault → ∀ c, c = r.context.getD s →
      (∀ t, c.interrupt r.exc.vector false c.ip r.exc.code = .ok t → s.deliver { exc := e, context := none } = t) ∧
      (∀ q, c.interrupt r.exc.vector false c.ip r.exc.code = .error q →
        s.deliver { exc := e, context := none } = (q.context.getD c).deliver { exc := .doubleFault, context := none }))) ∧
  (∀ s : State,
    (∀ t, s.interrupt 8 false s.ip (some 0) = .ok t → s.deliver { exc := .doubleFault, context := none } = t) ∧
    (∀ r, s.interrupt 8 false s.ip (some 0) = .error r →
      s.deliver { exc := .doubleFault, context := none } = shutDownFrom (r.context.getD s)))

/-- Which vector, return address and error code each event uses, with `Obligations.ProtectedEntry` for what the gate does then.
INT, INT 3 and INTO in Protected Mode use vectors n, 3 and 4 and the address past the instruction, and a gate of a level above
the program's raises GeneralProtection(8n + 2); that a single-step trap is due after a traced one is log 24. Exceptions use the
vectors and codes of their table and the address of the failing instruction, and the NMI, the single-step trap, the segment
overrun and external interrupts theirs and the address of the next instruction (44_control_transfer.md R306 to R308;
60_exceptions.md R420, R424, R425, R430, R432, R440, R451, R453). That the EXT bit is 1 for all but the software interrupts is
log 23. An exception raised while one is delivered is a DoubleFault or is delivered as itself, and one raised while a DoubleFault
is delivered shuts the machine down (60_exceptions.md R435, R436; log 29), where no shadow is left (log 47). -/
def Obligations.ProtectedEvents : Prop :=
  ExceptionTable ∧ EventsTaken ∧ SecondExceptions ∧
  ∀ s : State, s.msw.pe = true →
    (NoRep s → ∀ i n, i = Instr.intImm8 n ∨ (i = .int3 ∧ n = 3) ∨ (i = .into ∧ n = 4 ∧ s.flags.of = true) →
      (∀ t, s.begin.interrupt n true s.ipNext none = .ok t → exec i s = .next { t with trapPending := s.flags.tf }) ∧
      (∀ r, s.begin.interrupt n true s.ipNext none = .error r → exec i s = .next (s.begin.deliver r)) ∧
      (∀ g, 8 * n.toNat + 7 ≤ s.idtr.limit.toNat → g = s.descAt (s.idtr.base.toNat + 8 * n.toNat) →
        (arControl g.ar 5 = true ∨ arControl g.ar 6 = true ∨ arControl g.ar 7 = true) → arDpl g.ar < s.cpl →
        Raises i s (.generalProtection (BitVec.ofNat 16 (8 * n.toNat + 2))))) ∧
    (NoRep s → s.flags.of = false → exec .into s = .next (after s s s.ipNext)) ∧
    (∀ e t, e ≠ .doubleFault → s.interrupt e.vector false s.ip e.code = .ok t →
      s.deliver { exc := e, context := none } = t) ∧
    (∀ n t, s.interrupt n false s.ip none = .ok t → s.takeEvent n = t)

/-- IRET in Protected Mode with NT = 0: what it raises with nothing changed, at each check that fails; and the return to the same
level and to an outer one, where IP, CS and FLAGS come from the stack, with the outer SP and SS in the second case; IF is loaded
only where the level allowed it, IOPL only from level 0 (44_control_transfer.md R309, R320; 60_exceptions.md R447). An NMI is no
longer in service (60_exceptions.md R453). -/
def Obligations.InterruptReturnProtected : Prop :=
  ∀ s : State, NoRep s → s.msw.pe = true → s.flags.nt = false →
    ReturnFaults s .iret 3 2 ∧
    ∀ (sel off : Word) (d : Desc) (f : Flags), StackFits s 0 → StackFits s 1 → StackFits s 2 →
      off = stackAt s 0 → sel = stackAt s 1 →
      f = { flagsOfWord (stackAt s 2) with
        ifl := if s.flags.iopl < s.cpl then s.flags.ifl else (stackAt s 2).getLsbD 9
        iopl := if s.cpl = 0 then (stackAt s 2).extractLsb' 12 2 else s.flags.iopl } →
      CodeFound s sel (ReturnAllows (selRpl sel)) d → off.toNat ≤ d.limit.toNat →
      (selRpl sel = s.cpl →
        ∃ t, exec .iret s = .next t ∧ AccessedSet s t d ∧ t = after s { s with
          mem := t.mem, regs := { s.regs with sp := s.regs.sp + 6 }, flags := f, nmiInService := false
          cs := { sel := sel, base := d.base, limit := d.limit, ar := d.ar, valid := true }, queueEmpty := true } off) ∧
      (s.cpl < selRpl sel → Fits s .ss s.regs.sp.toNat 10 false →
        ∀ nss d2, nss = wordAt s .ss (s.regs.sp.toNat + 8) → StackFound s (selRpl sel) nss d2 →
          ∃ t u, exec .iret s = .next t ∧ AccessedSet s u d ∧ u.msw = s.msw ∧ AccessedSet u t d2 ∧ t = after s { s with
            mem := t.mem
            regs := { s.regs with sp := wordAt s .ss (s.regs.sp.toNat + 6) }
            cs := { sel := sel, base := d.base, limit := d.limit, ar := d.ar, valid := true }
            ss := { sel := nss, base := d2.base, limit := d2.limit, ar := d2.ar, valid := true }
            ds := outward (selRpl sel) s.ds, es := outward (selRpl sel) s.es
            cpl := selRpl sel, flags := f, nmiInService := false, queueEmpty := true } off)

/-- What a task switch saves: the task state segment at `a` holds IP, FLAGS, the general registers and the selectors at their
offsets, and the bytes of the back link, the inner stacks and the LDT selector are as before (60_exceptions.md R470 step 2,
R471). -/
def Sys2Proof.Claims.TaskStateSaved : Prop :=
  ∀ (s t : State) (a : Nat) (ip : Word) (f : Flags), t = s.saveTask a ip f →
    [14, 16, 18, 20, 22, 24, 26, 28, 30, 32, 34, 36, 38, 40].map (fun k => t.read16 (a + k)) =
      [ip, flagsWord f, s.regs.ax, s.regs.cx, s.regs.dx, s.regs.bx, s.regs.sp, s.regs.bp, s.regs.si, s.regs.di,
        s.es.sel, s.cs.sel, s.ss.sel, s.ds.sel] ∧
    (∀ p, (∀ k, 14 ≤ k → k < 42 → p ≠ physAddr s.msw.pe (a + k)) → t.physByte p = s.physByte p) ∧
    t = { s with mem := t.mem }

/-- Steps 2 to 6 of a task switch (60_exceptions.md R470 to R472): memory holds the outgoing task's state, with NT = 0 in the
image of an IRET, its busy mark is cleared by JMP and IRET, the back link is written by CALL and interrupts and the incoming busy
mark by all but IRET; then TR names the incoming task, TS is set, and every register and selector comes from the incoming task
state segment, its descriptors not yet loaded. NT is set by CALL and interrupts and cleared by JMP and IRET (10_state.md R36),
which 60_exceptions.md R470 does not repeat, log 20. The outgoing segment is not checked: it is written at TR's base whatever TR
holds, and where TR names none no busy mark is cleared, log 42. -/
def Sys2Proof.Claims.TaskLeft : Prop :=
  ∀ (s L : State) (sel : Word) (d : Desc) (kind : SwitchKind) (ret : Word) (o : Nat), L = s.leaveTask sel d kind ret →
    o = d.base.toNat →
    (∀ a b c e : State, a = s.saveTask s.tr.base.toNat ret (if kind = .iret then { s.flags with nt := false } else s.flags) →
      b = (if kind = .call ∨ kind = .nested ∨ s.tr.sel.toNat < 4 then a
        else a.write8 (s.gdtr.base.toNat + 8 * (s.tr.sel.toNat / 8) + 5)
          (a.read8 (s.gdtr.base.toNat + 8 * (s.tr.sel.toNat / 8) + 5) &&& 0xFD)) →
      c = (if kind = .call ∨ kind = .nested then b.write16 o s.tr.sel else b) →
      e = (if kind = .iret then c else c.write8 (d.addr + 5) (c.read8 (d.addr + 5) ||| 2)) → L.mem = e.mem) ∧
    L = { s with
      mem := L.mem, ip := L.read16 (o + 14)
      flags := { flagsOfWord (L.read16 (o + 16)) with nt := decide (kind = .call ∨ kind = .nested) }
      regs :=
        { ax := L.read16 (o + 18), cx := L.read16 (o + 20), dx := L.read16 (o + 22), bx := L.read16 (o + 24)
          sp := L.read16 (o + 26), bp := L.read16 (o + 28), si := L.read16 (o + 30), di := L.read16 (o + 32) }
      es := { s.es with sel := L.read16 (o + 34), valid := false }, cs := { s.cs with sel := L.read16 (o + 36), valid := false }
      ss := { s.ss with sel := L.read16 (o + 38), valid := false }, ds := { s.ds with sel := L.read16 (o + 40), valid := false }
      ldtr := { s.ldtr with sel := L.read16 (o + 42), valid := false }
      tr := { sel := sel, base := d.base, limit := d.limit, ar := d.ar, valid := true }
      msw := { s.msw with ts := true } }

/-- The load of the incoming task's selector in `r`, which is not null: outside its table, not allowed or not present it raises,
and else the register gets the descriptor's base, limit and access byte and the Accessed bit is set (60_exceptions.md R470 step
8; 20_memory.md R97). -/
def Sys2Proof.Claims.TaskSegment (s : State) (r : SReg) (run : Res State) (allowed : Desc → Prop) (outside bad absent : Exc) :
    Prop :=
  4 ≤ (s.seg r).sel.toNat →
    (s.fetchDesc (s.seg r).sel = none → run = .error { exc := outside, context := none }) ∧
    ∀ d, s.fetchDesc (s.seg r).sel = some d →
      (¬allowed d → run = .error { exc := bad, context := none }) ∧
      (allowed d → arPresent d.ar = false → run = .error { exc := absent, context := none }) ∧
      (allowed d → arPresent d.ar = true → ∃ t, run = .ok t ∧ AccessedSet s t d ∧
        t = { s.setSeg r { sel := (s.seg r).sel, base := d.base, limit := d.limit, ar := d.ar, valid := true } with mem := t.mem })

/-- Steps 7 and 8 of a task switch, register by register, with each check that fails (60_exceptions.md R470): LDTR, CS, SS, and
DS and ES, which may be null and raise GeneralProtection outside their table as LoadDataSeg does (20_memory.md R95, R102). -/
def Sys2Proof.Claims.TaskSegments : Prop :=
  ∀ (s : State) (ext : Word),
    (∀ sel bad, sel = s.ldtr.sel →
      bad = Except.error { exc := .invalidTss ((sel &&& 0xFFFC) ||| ext), context := none } →
      (sel.toNat < 4 → s.switchLdt ext = .ok s) ∧
      (4 ≤ sel.toNat → sel.getLsbD 2 = true ∨ s.fetchDesc sel = none → s.switchLdt ext = bad) ∧
      (∀ d, 4 ≤ sel.toNat → sel.getLsbD 2 = false → s.fetchDesc sel = some d →
        (arControl d.ar 2 = true → arPresent d.ar = true → s.switchLdt ext = .ok { s with
          ldtr := { sel := sel, base := d.base, limit := d.limit, ar := d.ar, valid := true } }) ∧
        (arControl d.ar 2 = false ∨ arPresent d.ar = false → s.switchLdt ext = bad))) ∧
    (∀ code, code = (s.cs.sel &&& 0xFFFC) ||| ext →
      (s.cs.sel.toNat < 4 → s.switchCs ext = .error { exc := .invalidTss ext, context := none }) ∧
      TaskSegment s .cs (s.switchCs ext)
        (fun d => arCode d.ar = true ∧ if arConforming d.ar = true then arDpl d.ar ≤ s.cpl else arDpl d.ar = s.cpl)
        (.invalidTss code) (.invalidTss code) (.notPresent code)) ∧
    (∀ code, code = (s.ss.sel &&& 0xFFFC) ||| ext →
      (s.ss.sel.toNat < 4 → s.switchSs ext = .error { exc := .invalidTss ext, context := none }) ∧
      TaskSegment s .ss (s.switchSs ext) (StackLoadable s s.ss.sel)
        (.invalidTss code) (.invalidTss code) (.stackFault code)) ∧
    (∀ r code, r = SReg.ds ∨ r = .es → code = ((s.seg r).sel &&& 0xFFFC) ||| ext →
      ((s.seg r).sel.toNat < 4 → s.switchData r ext = .ok s) ∧
      TaskSegment s r (s.switchData r ext) (DataLoadable s (s.seg r).sel)
        (.generalProtection code) (.invalidTss code) (.notPresent code))

/-- Steps 7 to 9 of a task switch in their order (60_exceptions.md R470): LDTR, the level from the RPL of CS, CS, SS, DS, ES, and
IP inside CS; the first check that fails raises in the incoming task, with the registers loaded before it, log 26. -/
def Sys2Proof.Claims.TaskEntered : Prop :=
  ∀ (s : State) (ext : Word) (fails : Exc → State → Prop),
    fails = (fun x t => s.enterTask ext = .error { exc := x, context := some t }) →
    (∀ x, s.switchLdt ext = .error { exc := x, context := none } → fails x s) ∧
    ∀ l k : State, s.switchLdt ext = .ok l → k = { l with cpl := selRpl l.cs.sel } →
      (∀ x, k.switchCs ext = .error { exc := x, context := none } → fails x k) ∧
      ∀ a, k.switchCs ext = .ok a →
        (∀ x, a.switchSs ext = .error { exc := x, context := none } → fails x a) ∧
        ∀ b, a.switchSs ext = .ok b →
          (∀ x, b.switchData .ds ext = .error { exc := x, context := none } → fails x b) ∧
          ∀ c, b.switchData .ds ext = .ok c →
            (∀ x, c.switchData .es ext = .error { exc := x, context := none } → fails x c) ∧
            ∀ d, c.switchData .es ext = .ok d →
              (d.cs.limit.toNat < d.ip.toNat → fails (.generalProtection ext) d) ∧
              (d.ip.toNat ≤ d.cs.limit.toNat → s.enterTask ext = .ok { d with queueEmpty := true })

/-- The kind of switch a far JMP or CALL makes. -/
def Sys2Proof.Claims.farKind (call : Bool) : SwitchKind := if call then .call else .jmp

/-- The far transfer `i` goes through a task gate to the selector `sel` (44_control_transfer.md R321). -/
def Sys2Proof.Claims.ThroughTaskGate (s : State) (call : Bool) (i : Instr) (sel : Word) : Prop :=
  ∃ gsel off g, FarPointer s call i gsel off ∧ 4 ≤ gsel.toNat ∧ s.fetchDesc gsel = some g ∧ arControl g.ar 5 = true ∧
    LevelMayUse s gsel g ∧ arPresent g.ar = true ∧ sel = g.gateSel

/-- `i` asks for a switch of the kind to the task state segment of descriptor `d`, named by `sel`: a far transfer to it or through
a task gate, or IRET with NT = 1 (44_control_transfer.md R321; 60_exceptions.md R448, R472). -/
def Sys2Proof.Claims.AsksFor (s : State) (i : Instr) (kind : SwitchKind) (sel : Word) (d : Desc) : Prop :=
  (∃ call off, FarPointer s call i sel off ∧ kind = farKind call ∧ 4 ≤ sel.toNat ∧ LevelMayUse s sel d ∧
    arControl d.ar 1 = true) ∨
  (∃ call, ThroughTaskGate s call i sel ∧ kind = farKind call ∧ arControl d.ar 1 = true) ∨
  (i = .iret ∧ s.flags.nt = true ∧ kind = .iret ∧ sel = s.read16 s.tr.base.toNat ∧ arControl d.ar 3 = true)

/-- A task switch by JMP, CALL and IRET (44_control_transfer.md R321; 60_exceptions.md R448, R470 to R472), `L` the state after
its steps 2 to 6: where the incoming task's segments can be loaded it runs with every register from its task state segment, the
level of its CS and NT set by CALL alone, and after an IRET no NMI is in service (log 43); where not, the exception is delivered
in the incoming task, log 26. Whether TR has been loaded and how long its segment is, is not asked, log 42. -/
def Sys2Proof.Claims.TaskSwitches : Prop :=
  ∀ (s L : State) (i : Instr) (kind : SwitchKind) (sel : Word) (d : Desc) (o : Nat), NoRep s → s.msw.pe = true →
    AsksFor s i kind sel d → 4 ≤ sel.toNat → sel.getLsbD 2 = false → s.fetchDesc sel = some d → arPresent d.ar = true → 43 ≤ d.limit.toNat →
    L = s.begin.leaveTask sel d kind s.ipNext → o = d.base.toNat →
    (∀ u, L.enterTask 0 = .ok u →
      ∃ t, exec i s = .next t ∧
        t = after s { u with nmiInService := s.nmiInService && decide (kind ≠ .iret) } u.ip ∧
        t.ip = L.read16 (o + 14) ∧ t.flags = { flagsOfWord (L.read16 (o + 16)) with nt := decide (kind = .call) } ∧
        t.regs = { ax := L.read16 (o + 18), cx := L.read16 (o + 20), dx := L.read16 (o + 22), bx := L.read16 (o + 24)
                   sp := L.read16 (o + 26), bp := L.read16 (o + 28), si := L.read16 (o + 30), di := L.read16 (o + 32) } ∧
        t.es.sel = L.read16 (o + 34) ∧ t.cs.sel = L.read16 (o + 36) ∧ t.ss.sel = L.read16 (o + 38) ∧
        t.ds.sel = L.read16 (o + 40) ∧ t.ldtr.sel = L.read16 (o + 42) ∧
        t.tr = { sel := sel, base := d.base, limit := d.limit, ar := d.ar, valid := true } ∧ t.msw = { s.msw with ts := true } ∧
        t.cpl = selRpl t.cs.sel ∧ t.cs.valid = true ∧ t.ss.valid = true ∧ t.gdtr = s.gdtr ∧ t.idtr = s.idtr ∧
        t.portTrace = s.portTrace ∧ t.pins = s.pins) ∧
    (∀ e x, L.enterTask 0 = .error { exc := e, context := some x } →
      exec i s = .next (x.deliver { exc := e, context := none }))

/-- The checks of the selector of a task state segment that a gate or a back link names, with what each raises: a null
selector (log 45), TI, the table and the type, then the presence, then the room for 44 bytes (44_control_transfer.md R321;
60_exceptions.md R446, R448, R470; 20_memory.md R101). -/
def Sys2Proof.Claims.TssChecked (s : State) (sel ext : Word) (type : BitVec 4) (bad : Exc) (raises : Exc → Prop) : Prop :=
  (sel.toNat < 4 ∨ sel.getLsbD 2 = true ∨ s.fetchDesc sel = none ∨
    (∃ d, s.fetchDesc sel = some d ∧ arControl d.ar type = false) → raises bad) ∧
  ∀ d, 4 ≤ sel.toNat → sel.getLsbD 2 = false → s.fetchDesc sel = some d → arControl d.ar type = true →
    (arPresent d.ar = false → raises (.notPresent ((sel &&& 0xFFFC) ||| ext))) ∧
    (arPresent d.ar = true → d.limit.toNat < 43 → raises (.invalidTss ((sel &&& 0xFFFC) ||| ext)))

/-- What a task switch by JMP, CALL and IRET raises before it starts, with nothing changed (44_control_transfer.md R321;
60_exceptions.md R448, R470 step 1). What a task state segment named through the LDT raises is log 22. -/
def Sys2Proof.Claims.TaskSwitchFaults : Prop :=
  ∀ (s : State) (i : Instr), NoRep s → s.msw.pe = true →
    (∀ call sel off d, FarPointer s call i sel off → 4 ≤ sel.toNat → s.fetchDesc sel = some d →
      arControl d.ar 1 = true ∨ arControl d.ar 5 = true →
      (¬LevelMayUse s sel d → Raises i s (.generalProtection (sel &&& 0xFFFC))) ∧
      (LevelMayUse s sel d → arPresent d.ar = false → Raises i s (.notPresent (sel &&& 0xFFFC))) ∧
      (LevelMayUse s sel d → arPresent d.ar = true → arControl d.ar 1 = true →
        (sel.getLsbD 2 = true → Raises i s (.generalProtection (sel &&& 0xFFFC))) ∧
        (sel.getLsbD 2 = false → d.limit.toNat < 43 → Raises i s (.invalidTss (sel &&& 0xFFFC))))) ∧
    (∀ call sel, ThroughTaskGate s call i sel →
      TssChecked s sel 0 1 (.generalProtection (sel &&& 0xFFFC)) (Raises i s)) ∧
    (∀ sel, i = .iret → s.flags.nt = true → sel = s.read16 s.tr.base.toNat →
      TssChecked s sel 0 3 (.invalidTss (sel &&& 0xFFFC)) (Raises i s))

/-- Entry through a task gate of the IDT, for any event (60_exceptions.md R446): a nested switch to the task state segment the
gate names, the interrupted task's IP saved there as the return address, and the error code pushed on the new task's stack; what
each check that fails raises has the EXT bit of the event (R443; log 23). -/
def Sys2Proof.Claims.TaskGateEntry : Prop :=
  ∀ (s : State) (n : Byte) (soft : Bool) (ret : Word) (ec : Option Word) (g : Desc) (ext tss : Word) (run : Res State),
    s.msw.pe = true → 8 * n.toNat + 7 ≤ s.idtr.limit.toNat → g = s.descAt (s.idtr.base.toNat + 8 * n.toNat) →
    arControl g.ar 5 = true → (soft = true → s.cpl ≤ arDpl g.ar) → arPresent g.ar = true →
    ext = (if soft then 0 else 1) → tss = g.gateSel → run = s.interrupt n soft ret ec →
    TssChecked s tss ext 1 (.generalProtection ((tss &&& 0xFFFC) ||| ext)) (fun e => run = .error { exc := e, context := none }) ∧
    ∀ d L, 4 ≤ tss.toNat → tss.getLsbD 2 = false → s.fetchDesc tss = some d → arControl d.ar 1 = true → arPresent d.ar = true →
      43 ≤ d.limit.toNat → L = s.leaveTask tss d .nested ret →
      (∀ e x, L.enterTask ext = .error { exc := e, context := some x } → run = .error { exc := e, context := some x }) ∧
      ∀ u v : State, L.enterTask ext = .ok u →
        v = { u with
          halted := false, shutdown := false, shadow := .none, trapPending := false, pfx := noPrefixes, again := none
          queueEmpty := true } →
        (ec = none → run = .ok v) ∧
        (∀ c, ec = some c →
          (PushFits u → ∃ t, run = .ok t ∧ Pushed u t c ∧ t = { v with regs := t.regs, mem := t.mem }) ∧
          (¬PushFits u → run = .error { exc := .stackFault ext, context := some u }))

/-- The task switch: what it saves, what it loads and from where, with every check, by JMP, CALL and IRET and through task gates
of the IDT (10_state.md R36; 44_control_transfer.md R321; 60_exceptions.md R446, R448, R470 to R472). What a null selector of a gate
or back link raises is log 45; that the outgoing TR is not checked, log 42; that a shadow ends with an entry through a task gate,
log 47. -/
def Obligations.TaskSwitch : Prop :=
  TaskStateSaved ∧ TaskLeft ∧ TaskSegments ∧ TaskEntered ∧ TaskSwitches ∧ TaskSwitchFaults ∧ TaskGateEntry

/-! Procedures. -/

/-- ENTER, LEAVE, PUSHA and POPA. ENTER pushes BP, copies `level - 1` display words and pushes the frame pointer for a level
above 0, and sets BP and SP; LEAVE undoes it; PUSHA pushes the eight registers with SP as it was, POPA loads all but SP
(45_procedure.md R341 to R344). The refusal of PUSHA across the end of a Real Address Mode stack is log 16. -/
def Obligations.ProcedureInstructions : Prop :=
  (∀ (s : State) (size : Word) (level : Byte) (n : Nat), NoRep s → n = level.toNat % 32 →
    (∀ j, j ≤ n → Fits s .ss (s.regs.sp - BitVec.ofNat 16 (2 * (j + 1))).toNat 2 true) →
    (∀ k, k + 1 < n → Fits s .ss (s.regs.bp - BitVec.ofNat 16 (2 * (k + 1))).toNat 2 false) →
    (∀ j k, j ≤ n → k + 1 < n →
      (s.regs.bp - BitVec.ofNat 16 (2 * (k + 1))).toNat + 2 ≤ (s.regs.sp - BitVec.ofNat 16 (2 * (j + 1))).toNat ∨
      (s.regs.sp - BitVec.ofNat 16 (2 * (j + 1))).toNat + 2 ≤ (s.regs.bp - BitVec.ofNat 16 (2 * (k + 1))).toNat) →
    ∃ t, exec (.enter size level) s = .next t ∧ Ended s t ∧ t.flags = s.flags ∧
      t.regs = { s.regs with bp := s.regs.sp - 2, sp := s.regs.sp - BitVec.ofNat 16 (2 * (n + 1)) - size } ∧
      wordAt t .ss (s.regs.sp - 2).toNat = s.regs.bp ∧
      (∀ k, k + 1 < n → wordAt t .ss (s.regs.sp - BitVec.ofNat 16 (2 * (k + 2))).toNat =
        wordAt s .ss (s.regs.bp - BitVec.ofNat 16 (2 * (k + 1))).toNat) ∧
      (0 < n → wordAt t .ss (s.regs.sp - BitVec.ofNat 16 (2 * (n + 1))).toNat = s.regs.sp - 2) ∧
      ∀ p, (∀ j, j ≤ n → p ≠ cell s .ss (s.regs.sp - BitVec.ofNat 16 (2 * (j + 1))).toNat ∧
          p ≠ cell s .ss ((s.regs.sp - BitVec.ofNat 16 (2 * (j + 1))).toNat + 1)) →
        t.physByte p = s.physByte p) ∧
  (∀ s : State, NoRep s →
    (Fits s .ss s.regs.bp.toNat 2 false → exec .leave s = .next (after s { s with
      regs := { s.regs with sp := s.regs.bp + 2, bp := wordAt s .ss s.regs.bp.toNat } } s.ipNext)) ∧
    (¬Fits s .ss s.regs.bp.toNat 2 false → ∀ e, AccessExc s .ss false e → Raises .leave s e) ∧
    ((∀ k, k < 8 → Fits s .ss (s.regs.sp - BitVec.ofNat 16 (2 * (k + 1))).toNat 2 true) →
      ∃ t, exec .pusha s = .next t ∧ Ended s t ∧ t.flags = s.flags ∧ t.regs = { s.regs with sp := s.regs.sp - 16 } ∧
        (List.range 8).map (fun k => wordAt t .ss (s.regs.sp - BitVec.ofNat 16 (2 * (k + 1))).toNat) =
          [s.regs.ax, s.regs.cx, s.regs.dx, s.regs.bx, s.regs.sp, s.regs.bp, s.regs.si, s.regs.di] ∧
        ∀ p, (∀ k, k < 8 → p ≠ cell s .ss (s.regs.sp - BitVec.ofNat 16 (2 * (k + 1))).toNat ∧
            p ≠ cell s .ss ((s.regs.sp - BitVec.ofNat 16 (2 * (k + 1))).toNat + 1)) →
          t.physByte p = s.physByte p) ∧
    ((∀ k, k < 8 → StackFits s k) →
      exec .popa s = .next (after s { s with regs :=
        { di := stackAt s 0, si := stackAt s 1, bp := stackAt s 2, sp := s.regs.sp + 16, bx := stackAt s 4
          dx := stackAt s 5, cx := stackAt s 6, ax := stackAt s 7 } } s.ipNext)) ∧
    (s.msw.pe = false → s.regs.sp.toNat % 2 = 1 → s.regs.sp.toNat < 16 → exec .pusha s = .refused .pushaStraddle))

/-! Processor control. -/

/-- STC, CLC, CMC, STD and CLD, with their encodings: each writes its one flag and nothing else (46_processor_control.md R351 to
R355). -/
def Obligations.FlagInstructions : Prop :=
  (encode .stc = [0xF9] ∧ encode .clc = [0xF8] ∧ encode .cmc = [0xF5] ∧ encode .std = [0xFD] ∧ encode .cld = [0xFC]) ∧
  ∀ s : State, NoRep s →
    exec .stc s = .next (after s { s with flags := { s.flags with cf := true } } s.ipNext) ∧
    exec .clc s = .next (after s { s with flags := { s.flags with cf := false } } s.ipNext) ∧
    exec .cmc s = .next (after s { s with flags := { s.flags with cf := !s.flags.cf } } s.ipNext) ∧
    exec .std s = .next (after s { s with flags := { s.flags with df := true } } s.ipNext) ∧
    exec .cld s = .next (after s { s with flags := { s.flags with df := false } } s.ipNext)

/-- STI, CLI and HLT, which need the I/O privilege, and GeneralProtection(0) without it: STI opens a shadow when IF was 0, HLT
halts with IP past it (46_processor_control.md R356 to R358, with `HLT_RULE = iopl`; 60_exceptions.md R452, R462). -/
def Obligations.InterruptFlagAndHalt : Prop :=
  ∀ s : State, NoRep s →
    ((s.msw.pe = false ∨ s.cpl ≤ s.flags.iopl) →
      exec .cli s = .next (after s { s with flags := { s.flags with ifl := false } } s.ipNext) ∧
      (s.flags.ifl = true → exec .sti s = .next (after s s s.ipNext)) ∧
      (s.flags.ifl = false → exec .sti s = .next { after s { s with flags := { s.flags with ifl := true } } s.ipNext with
        shadow := .sti, trapPending := false }) ∧
      exec .hlt s = .next (after s { s with halted := true } s.ipNext)) ∧
    (s.msw.pe = true → s.flags.iopl < s.cpl →
      Raises .cli s (.generalProtection 0) ∧ Raises .sti s (.generalProtection 0) ∧ Raises .hlt s (.generalProtection 0))

/-- WAIT goes on when the extension is neither busy nor in error, idles while it is busy, and takes vector 7 with MP and TS set
and vector 16 on an error; ESC takes vector 7 with EM or TS set, which is all the spec gives it on a machine with no extension,
and is refused with both clear (46_processor_control.md R359, R360; 92_eei_decisions.md D10). The order of busy and error is
log 30, the refusal log 15; that a shadow opened before WAIT lasts while it idles is log 27. -/
def Obligations.WaitEsc : Prop :=
  (∀ s : State, NoRep s →
    (s.msw.mp = true → s.msw.ts = true → Raises .wait s .noProcessorExtension) ∧
    (s.msw.mp = false ∨ s.msw.ts = false →
      (s.pins.busy = false → s.pins.error = false → exec .wait s = .next (after s s s.ipNext)) ∧
      (s.pins.busy = true →
        exec .wait s = .next { s with trapPending := false, pfx := noPrefixes, again := none }) ∧
      (s.pins.busy = false → s.pins.error = true → Raises .wait s .extensionError))) ∧
  (∀ (op : BitVec 6) (rm : RM16) (s : State),
    (NoRep s → s.msw.em = true ∨ s.msw.ts = true →
      Raises (.esc op rm) s .noProcessorExtension) ∧
    (s.msw.em = true ∨ s.msw.ts = true → s.msw.pe = false → NoRep s → RealRoom s 7 →
      ∃ t, exec (.esc op rm) s = .next t ∧ RealEntry s t 7 s.ip) ∧
    (NoRep s → s.msw.em = false → s.msw.ts = false → s.pins.error = true → Raises (.esc op rm) s .extensionError) ∧
    (s.msw.em = false → s.msw.ts = false → s.pins.error = false → exec (.esc op rm) s = .refused .noProcessorExtension))

/-- A prefix byte is recorded, and a second one of its kind refused; LOCK needs the I/O privilege (30_encoding.md R122, R131;
46_processor_control.md R361; that a prefix byte is a step of its own is log 1). -/
def Sys2Proof.Claims.PrefixBytes : Prop :=
  ∀ s : State,
    (∀ i r, (i = Instr.segEs ∧ r = SReg.es) ∨ (i = .segCs ∧ r = .cs) ∨ (i = .segSs ∧ r = .ss) ∨ (i = .segDs ∧ r = .ds) →
      (s.pfx.seg = none → exec i s = .next { s with pfx := { s.pfx with seg := some r, count := s.pfx.count + 1 } }) ∧
      (s.pfx.seg ≠ none → exec i s = .refused .redundantPrefix)) ∧
    (∀ i p, (i = Instr.rep ∧ p = Rep.rep) ∨ (i = .repne ∧ p = .repne) →
      (s.pfx.rep = none → exec i s = .next { s with pfx := { s.pfx with rep := some p, count := s.pfx.count + 1 } }) ∧
      (s.pfx.rep ≠ none → exec i s = .refused .redundantPrefix)) ∧
    (s.pfx.lock = true → exec .lock s = .refused .redundantPrefix) ∧
    (s.pfx.lock = false →
      ((s.msw.pe = false ∨ s.cpl ≤ s.flags.iopl) →
        exec .lock s = .next { s with pfx := { s.pfx with lock := true, count := s.pfx.count + 1 } }) ∧
      (s.msw.pe = true → s.flags.iopl < s.cpl →
        exec .lock s = .next (s.deliver { exc := .generalProtection 0, context := none })))

/-- No instruction but the string instructions and the prefix bytes runs under a repeat prefix: all others are refused
(30_encoding.md R142; 92_eei_decisions.md D21). -/
def Sys2Proof.Claims.RepeatOnlyStrings : Prop :=
  ∀ (i : Instr) (s : State), s.pfx.rep ≠ none →
    i ∉ [Instr.movsb, .movsw, .cmpsb, .cmpsw, .scasb, .scasw, .lodsb, .lodsw, .stosb, .stosw, .insb, .insw, .outsb, .outsw,
      .segEs, .segCs, .segSs, .segDs, .rep, .repne, .lock] →
    ∃ r, exec i s = .refused r

/-- The prefix bytes, and the repeat prefix before an instruction that has none (30_encoding.md R122, R142). -/
def Obligations.Prefixes : Prop := PrefixBytes ∧ RepeatOnlyStrings

/-! Protection. -/

/-- Level 0 or Real Address Mode (60_exceptions.md R463). -/
def Sys2Proof.Claims.Kernel (s : State) : Prop := s.msw.pe = false ∨ s.cpl = 0

/-- LGDT and LIDT load limit and base from six bytes, SGDT and SIDT store them with an undefined sixth byte
(47_protected_mode.md R371, R372, R376, R377). That the six bytes are one access, which raises where they do not all fit, is the
model's choice, log 28; the sixth byte is log 8. -/
def Sys2Proof.Claims.TableRegisters : Prop :=
  ∀ (s : State) (m : Mem) (r : SReg) (o : Nat), NoRep s → r = s.segOf m → o = (s.ea m).toNat →
    (Kernel s → Fits s r o 6 false →
      exec (.lgdt m) s = .next (after s { s with gdtr :=
        { limit := wordAt s r o, base := byteAt s r (o + 4) ++ byteAt s r (o + 3) ++ byteAt s r (o + 2) } } s.ipNext) ∧
      exec (.lidt m) s = .next (after s { s with idtr :=
        { limit := wordAt s r o, base := byteAt s r (o + 4) ++ byteAt s r (o + 3) ++ byteAt s r (o + 2) } } s.ipNext)) ∧
    (Kernel s → ¬Fits s r o 6 false → ∀ e, AccessExc s r false e → Raises (.lgdt m) s e ∧ Raises (.lidt m) s e) ∧
    (∀ i g, (i = Instr.sgdt m ∧ g = s.gdtr) ∨ (i = .sidt m ∧ g = s.idtr) →
      (Fits s r o 6 true → ∃ t, exec i s = .next t ∧ t = after s { s with mem := t.mem } s.ipNext ∧
        t.physByte (cell s r o) = loByte g.limit ∧ t.physByte (cell s r (o + 1)) = hiByte g.limit ∧
        t.physByte (cell s r (o + 2)) = g.base.extractLsb' 0 8 ∧ t.physByte (cell s r (o + 3)) = g.base.extractLsb' 8 8 ∧
        t.physByte (cell s r (o + 4)) = g.base.extractLsb' 16 8 ∧
        ∀ p, (∀ k, k < 6 → p ≠ cell s r (o + k)) → t.physByte p = s.physByte p) ∧
      (¬Fits s r o 6 true → ∀ e, AccessExc s r true e → Raises i s e))

/-- LMSW loads MP, EM and TS and sets PE, never clears it; SMSW stores the four flags, the other bits undefined; CTS clears TS;
SLDT and STR store the selectors (47_protected_mode.md R374, R378 to R380, R392). That the level is 0 after PE is set is
47_protected_mode.md R374's corner case. -/
def Sys2Proof.Claims.StatusWordAndSelectors : Prop :=
  ∀ (s : State) (rm : RM16), NoRep s →
    (Kernel s → Readable16 s rm →
      exec (.lmsw rm) s = .next (after s { s with
        msw := { pe := s.msw.pe || (value16 s rm).getLsbD 0, mp := (value16 s rm).getLsbD 1, em := (value16 s rm).getLsbD 2
                 ts := (value16 s rm).getLsbD 3 }
        cpl := 0 } s.ipNext)) ∧
    (Kernel s → exec .cts s = .next (after s { s with msw := { s.msw with ts := false } } s.ipNext)) ∧
    (Writable16 s rm → ∃ v : Word,
      v.getLsbD 0 = s.msw.pe ∧ v.getLsbD 1 = s.msw.mp ∧ v.getLsbD 2 = s.msw.em ∧ v.getLsbD 3 = s.msw.ts ∧
        Replaces16 (.smsw rm) s rm v (· = s.flags)) ∧
    (s.msw.pe = true → Writable16 s rm →
      Replaces16 (.sldt rm) s rm s.ldtr.sel (· = s.flags) ∧ Replaces16 (.str rm) s rm s.tr.sel (· = s.flags))

/-- GDTR and IDTR loaded and stored, MSW loaded, stored and its TS cleared, LDTR and TR stored (47_protected_mode.md R371, R372,
R374, R376 to R380, R392). The model's choices in it are log 28, that the six bytes of a table register are one access, and
log 8, the bits the rules leave undefined. -/
def Obligations.SystemRegisters : Prop := TableRegisters ∧ StatusWordAndSelectors

/-- LLDT and LTR at level 0: the register gets the selector with the descriptor's base, limit and access byte, LTR marks the task state
segment busy, a null selector empties LDTR, and each check that fails raises (47_protected_mode.md R373, R375). -/
def Obligations.LoadLdtAndTask : Prop :=
  ∀ (s : State) (rm : RM16) (sel : Word), NoRep s → s.msw.pe = true → s.cpl = 0 → Readable16 s rm → sel = value16 s rm →
    (sel.toNat < 4 →
      exec (.lldt rm) s = .next (after s { s with ldtr := { s.ldtr with sel := sel, valid := false } } s.ipNext) ∧
      Raises (.ltr rm) s (.generalProtection 0)) ∧
    (4 ≤ sel.toNat → (sel.getLsbD 2 = true ∨ s.fetchDesc sel = none) →
      Raises (.lldt rm) s (.generalProtection (sel &&& 0xFFFC)) ∧ Raises (.ltr rm) s (.generalProtection (sel &&& 0xFFFC))) ∧
    (∀ d, 4 ≤ sel.toNat → sel.getLsbD 2 = false → s.fetchDesc sel = some d →
      (d.ar.getLsbD 4 = false ∧ d.ar.extractLsb' 0 4 = (2 : BitVec 4) →
        (arPresent d.ar = true → exec (.lldt rm) s = .next (after s { s with
          ldtr := { sel := sel, base := d.base, limit := d.limit, ar := d.ar, valid := true } } s.ipNext)) ∧
        (arPresent d.ar = false → Raises (.lldt rm) s (.notPresent (sel &&& 0xFFFC)))) ∧
      (¬(d.ar.getLsbD 4 = false ∧ d.ar.extractLsb' 0 4 = (2 : BitVec 4)) →
        Raises (.lldt rm) s (.generalProtection (sel &&& 0xFFFC))) ∧
      (d.ar.getLsbD 4 = false ∧ d.ar.extractLsb' 0 4 = (1 : BitVec 4) →
        (arPresent d.ar = true → ∃ t, exec (.ltr rm) s = .next t ∧
          t = after s { s with
            mem := t.mem, tr := { sel := sel, base := d.base, limit := d.limit, ar := d.ar, valid := true } } s.ipNext ∧
          t.physByte (physAddr true (d.addr + 5)) = d.ar ||| 2 ∧
          ∀ p, p ≠ physAddr true (d.addr + 5) → t.physByte p = s.physByte p) ∧
        (arPresent d.ar = false → Raises (.ltr rm) s (.notPresent (sel &&& 0xFFFC)))) ∧
      (¬(d.ar.getLsbD 4 = false ∧ d.ar.extractLsb' 0 4 = (1 : BitVec 4)) →
        Raises (.ltr rm) s (.generalProtection (sel &&& 0xFFFC))))

/-- The type and privilege tests of `Visible` (47_protected_mode.md R398), by the types each use accepts. -/
def Sys2Proof.Claims.Sees (s : State) (sel : Word) (d : Desc) (types : List (BitVec 4)) (segment : Bool) : Prop :=
  4 ≤ sel.toNat ∧ s.fetchDesc sel = some d ∧
    ((d.ar.getLsbD 4 = true ∧ segment = true) ∨ (d.ar.getLsbD 4 = false ∧ d.ar.extractLsb' 0 4 ∈ types)) ∧
    (arConforming d.ar = true ∨ (s.cpl ≤ arDpl d.ar ∧ selRpl sel ≤ arDpl d.ar))

/-- LAR, LSL, VERR and VERW: ZF says whether the descriptor is visible, LAR gives its access byte in the high half and LSL its
limit, and nothing else changes, whatever the selector (47_protected_mode.md R394 to R398). -/
def Sys2Proof.Claims.DescriptorProbes : Prop :=
  ∀ (s : State) (r : Reg16) (rm : RM16) (sel : Word), NoRep s → s.msw.pe = true → Readable16 s rm → sel = value16 s rm →
    (∀ d, Sees s sel d [1, 2, 3, 4, 5] true →
      Replaces16 (.lar r rm) s (.reg r) (d.ar ++ 0#8) (· = { s.flags with zf := true })) ∧
    ((∀ d, ¬Sees s sel d [1, 2, 3, 4, 5] true) →
      exec (.lar r rm) s = .next (after s { s with flags := { s.flags with zf := false } } s.ipNext)) ∧
    (∀ d, Sees s sel d [1, 2, 3] true →
      Replaces16 (.lsl r rm) s (.reg r) d.limit (· = { s.flags with zf := true })) ∧
    ((∀ d, ¬Sees s sel d [1, 2, 3] true) →
      exec (.lsl r rm) s = .next (after s { s with flags := { s.flags with zf := false } } s.ipNext)) ∧
    (∃ z, exec (.verr rm) s = .next (after s { s with flags := { s.flags with zf := z } } s.ipNext) ∧
      (z = true ↔ ∃ d, Sees s sel d [] (arReadable d.ar))) ∧
    (∃ z, exec (.verw rm) s = .next (after s { s with flags := { s.flags with zf := z } } s.ipNext) ∧
      (z = true ↔ ∃ d, Sees s sel d [] (arWritable d.ar)))

/-- ARPL raises the RPL of its operand to that of the register and says in ZF whether it did; BOUND goes on with the register
inside its signed limits and takes vector 5 outside (47_protected_mode.md R391, R393). -/
def Sys2Proof.Claims.ArplBound : Prop :=
  (∀ (s : State) (rm : RM16) (r : Reg16), NoRep s → s.msw.pe = true → Writable16 s rm →
    (selRpl (value16 s rm) < selRpl (s.reg16 r) →
      Replaces16 (.arpl rm r) s rm ((value16 s rm &&& 0xFFFC) ||| (s.reg16 r &&& 3)) (· = { s.flags with zf := true })) ∧
    (selRpl (s.reg16 r) ≤ selRpl (value16 s rm) →
      exec (.arpl rm r) s = .next (after s { s with flags := { s.flags with zf := false } } s.ipNext))) ∧
  (∀ (s : State) (r : Reg16) (m : Mem) (lo hi : Word), NoRep s → Fits s (s.segOf m) (s.ea m).toNat 4 false →
    lo = wordAt s (s.segOf m) (s.ea m).toNat → hi = wordAt s (s.segOf m) ((s.ea m).toNat + 2) →
    (lo.toInt ≤ (s.reg16 r).toInt ∧ (s.reg16 r).toInt ≤ hi.toInt → exec (.bound r m) s = .next (after s s s.ipNext)) ∧
    ((s.reg16 r).toInt < lo.toInt ∨ hi.toInt < (s.reg16 r).toInt → Raises (.bound r m) s .boundRange))

/-- LAR, LSL, VERR, VERW, ARPL and BOUND (47_protected_mode.md R391, R393 to R398). -/
def Obligations.PointerChecks : Prop := DescriptorProbes ∧ ArplBound

/-- The privileged instructions outside level 0 take GeneralProtection(0), and the instructions that exist only in Protected Mode
take InvalidOpcode in Real Address Mode, with nothing changed (47_protected_mode.md R370; 60_exceptions.md R463; 30_encoding.md
R141). -/
def Obligations.PrivilegeAndMode : Prop :=
  ∀ (s : State) (m : Mem) (rm : RM16) (r : Reg16), NoRep s →
    (s.msw.pe = true → s.cpl ≠ 0 →
      ∀ i ∈ [Instr.lgdt m, .lidt m, .lldt rm, .ltr rm, .lmsw rm, .cts], Raises i s (.generalProtection 0)) ∧
    (s.msw.pe = false →
      ∀ i ∈ [Instr.lldt rm, .ltr rm, .sldt rm, .str rm, .verr rm, .verw rm, .lar r rm, .lsl r rm, .arpl rm r],
        Raises i s .invalidOpcode)
end

