-- ==== Sys2Proof/Laws/State.lean ====
section
/-! SUPPORT. One lemma per field per update of the state, so that no proof unfolds a record update. -/

namespace Sys2Proof.Machine

@[simp] theorem setReg16_ip (s : State) (r : Reg16) (v : Word) : (s.setReg16 r v).ip = s.ip := by cases r <;> rfl
@[simp] theorem setReg16_ipNext (s : State) (r : Reg16) (v : Word) : (s.setReg16 r v).ipNext = s.ipNext := by cases r <;> rfl
@[simp] theorem setReg16_flags (s : State) (r : Reg16) (v : Word) : (s.setReg16 r v).flags = s.flags := by cases r <;> rfl
@[simp] theorem setReg16_cs (s : State) (r : Reg16) (v : Word) : (s.setReg16 r v).cs = s.cs := by cases r <;> rfl
@[simp] theorem setReg16_ds (s : State) (r : Reg16) (v : Word) : (s.setReg16 r v).ds = s.ds := by cases r <;> rfl
@[simp] theorem setReg16_es (s : State) (r : Reg16) (v : Word) : (s.setReg16 r v).es = s.es := by cases r <;> rfl
@[simp] theorem setReg16_ss (s : State) (r : Reg16) (v : Word) : (s.setReg16 r v).ss = s.ss := by cases r <;> rfl
@[simp] theorem setReg16_msw (s : State) (r : Reg16) (v : Word) : (s.setReg16 r v).msw = s.msw := by cases r <;> rfl
@[simp] theorem setReg16_gdtr (s : State) (r : Reg16) (v : Word) : (s.setReg16 r v).gdtr = s.gdtr := by cases r <;> rfl
@[simp] theorem setReg16_idtr (s : State) (r : Reg16) (v : Word) : (s.setReg16 r v).idtr = s.idtr := by cases r <;> rfl
@[simp] theorem setReg16_ldtr (s : State) (r : Reg16) (v : Word) : (s.setReg16 r v).ldtr = s.ldtr := by cases r <;> rfl
@[simp] theorem setReg16_tr (s : State) (r : Reg16) (v : Word) : (s.setReg16 r v).tr = s.tr := by cases r <;> rfl
@[simp] theorem setReg16_cpl (s : State) (r : Reg16) (v : Word) : (s.setReg16 r v).cpl = s.cpl := by cases r <;> rfl
@[simp] theorem setReg16_halted (s : State) (r : Reg16) (v : Word) : (s.setReg16 r v).halted = s.halted := by cases r <;> rfl
@[simp] theorem setReg16_shutdown (s : State) (r : Reg16) (v : Word) : (s.setReg16 r v).shutdown = s.shutdown := by cases r <;> rfl
@[simp] theorem setReg16_shadow (s : State) (r : Reg16) (v : Word) : (s.setReg16 r v).shadow = s.shadow := by cases r <;> rfl
@[simp] theorem setReg16_trapPending (s : State) (r : Reg16) (v : Word) : (s.setReg16 r v).trapPending = s.trapPending := by cases r <;> rfl
@[simp] theorem setReg16_nmiPending (s : State) (r : Reg16) (v : Word) : (s.setReg16 r v).nmiPending = s.nmiPending := by cases r <;> rfl
@[simp] theorem setReg16_nmiInService (s : State) (r : Reg16) (v : Word) : (s.setReg16 r v).nmiInService = s.nmiInService := by cases r <;> rfl
@[simp] theorem setReg16_pins (s : State) (r : Reg16) (v : Word) : (s.setReg16 r v).pins = s.pins := by cases r <;> rfl
@[simp] theorem setReg16_pfx (s : State) (r : Reg16) (v : Word) : (s.setReg16 r v).pfx = s.pfx := by cases r <;> rfl
@[simp] theorem setReg16_again (s : State) (r : Reg16) (v : Word) : (s.setReg16 r v).again = s.again := by cases r <;> rfl
@[simp] theorem setReg16_mem (s : State) (r : Reg16) (v : Word) : (s.setReg16 r v).mem = s.mem := by cases r <;> rfl
@[simp] theorem setReg16_portTrace (s : State) (r : Reg16) (v : Word) : (s.setReg16 r v).portTrace = s.portTrace := by cases r <;> rfl
@[simp] theorem setReg16_deviceTrace (s : State) (r : Reg16) (v : Word) : (s.setReg16 r v).deviceTrace = s.deviceTrace := by cases r <;> rfl
@[simp] theorem setReg16_queueEmpty (s : State) (r : Reg16) (v : Word) : (s.setReg16 r v).queueEmpty = s.queueEmpty := by cases r <;> rfl
@[simp] theorem setReg16_stale (s : State) (r : Reg16) (v : Word) : (s.setReg16 r v).stale = s.stale := by cases r <;> rfl
@[simp] theorem setReg16_clock (s : State) (r : Reg16) (v : Word) : (s.setReg16 r v).clock = s.clock := by cases r <;> rfl

@[simp] theorem setReg8_ip (s : State) (r : Reg8) (v : Byte) : (s.setReg8 r v).ip = s.ip := by simp [State.setReg8]
@[simp] theorem setReg8_ipNext (s : State) (r : Reg8) (v : Byte) : (s.setReg8 r v).ipNext = s.ipNext := by simp [State.setReg8]
@[simp] theorem setReg8_flags (s : State) (r : Reg8) (v : Byte) : (s.setReg8 r v).flags = s.flags := by simp [State.setReg8]
@[simp] theorem setReg8_cs (s : State) (r : Reg8) (v : Byte) : (s.setReg8 r v).cs = s.cs := by simp [State.setReg8]
@[simp] theorem setReg8_ds (s : State) (r : Reg8) (v : Byte) : (s.setReg8 r v).ds = s.ds := by simp [State.setReg8]
@[simp] theorem setReg8_es (s : State) (r : Reg8) (v : Byte) : (s.setReg8 r v).es = s.es := by simp [State.setReg8]
@[simp] theorem setReg8_ss (s : State) (r : Reg8) (v : Byte) : (s.setReg8 r v).ss = s.ss := by simp [State.setReg8]
@[simp] theorem setReg8_msw (s : State) (r : Reg8) (v : Byte) : (s.setReg8 r v).msw = s.msw := by simp [State.setReg8]
@[simp] theorem setReg8_gdtr (s : State) (r : Reg8) (v : Byte) : (s.setReg8 r v).gdtr = s.gdtr := by simp [State.setReg8]
@[simp] theorem setReg8_idtr (s : State) (r : Reg8) (v : Byte) : (s.setReg8 r v).idtr = s.idtr := by simp [State.setReg8]
@[simp] theorem setReg8_ldtr (s : State) (r : Reg8) (v : Byte) : (s.setReg8 r v).ldtr = s.ldtr := by simp [State.setReg8]
@[simp] theorem setReg8_tr (s : State) (r : Reg8) (v : Byte) : (s.setReg8 r v).tr = s.tr := by simp [State.setReg8]
@[simp] theorem setReg8_cpl (s : State) (r : Reg8) (v : Byte) : (s.setReg8 r v).cpl = s.cpl := by simp [State.setReg8]
@[simp] theorem setReg8_halted (s : State) (r : Reg8) (v : Byte) : (s.setReg8 r v).halted = s.halted := by simp [State.setReg8]
@[simp] theorem setReg8_shutdown (s : State) (r : Reg8) (v : Byte) : (s.setReg8 r v).shutdown = s.shutdown := by simp [State.setReg8]
@[simp] theorem setReg8_shadow (s : State) (r : Reg8) (v : Byte) : (s.setReg8 r v).shadow = s.shadow := by simp [State.setReg8]
@[simp] theorem setReg8_trapPending (s : State) (r : Reg8) (v : Byte) : (s.setReg8 r v).trapPending = s.trapPending := by simp [State.setReg8]
@[simp] theorem setReg8_nmiPending (s : State) (r : Reg8) (v : Byte) : (s.setReg8 r v).nmiPending = s.nmiPending := by simp [State.setReg8]
@[simp] theorem setReg8_nmiInService (s : State) (r : Reg8) (v : Byte) : (s.setReg8 r v).nmiInService = s.nmiInService := by simp [State.setReg8]
@[simp] theorem setReg8_pins (s : State) (r : Reg8) (v : Byte) : (s.setReg8 r v).pins = s.pins := by simp [State.setReg8]
@[simp] theorem setReg8_pfx (s : State) (r : Reg8) (v : Byte) : (s.setReg8 r v).pfx = s.pfx := by simp [State.setReg8]
@[simp] theorem setReg8_again (s : State) (r : Reg8) (v : Byte) : (s.setReg8 r v).again = s.again := by simp [State.setReg8]
@[simp] theorem setReg8_mem (s : State) (r : Reg8) (v : Byte) : (s.setReg8 r v).mem = s.mem := by simp [State.setReg8]
@[simp] theorem setReg8_portTrace (s : State) (r : Reg8) (v : Byte) : (s.setReg8 r v).portTrace = s.portTrace := by simp [State.setReg8]
@[simp] theorem setReg8_deviceTrace (s : State) (r : Reg8) (v : Byte) : (s.setReg8 r v).deviceTrace = s.deviceTrace := by simp [State.setReg8]
@[simp] theorem setReg8_queueEmpty (s : State) (r : Reg8) (v : Byte) : (s.setReg8 r v).queueEmpty = s.queueEmpty := by simp [State.setReg8]
@[simp] theorem setReg8_stale (s : State) (r : Reg8) (v : Byte) : (s.setReg8 r v).stale = s.stale := by simp [State.setReg8]
@[simp] theorem setReg8_clock (s : State) (r : Reg8) (v : Byte) : (s.setReg8 r v).clock = s.clock := by simp [State.setReg8]

@[simp] theorem setSeg_regs (s : State) (r : SReg) (g : SegReg) : (s.setSeg r g).regs = s.regs := by cases r <;> rfl
@[simp] theorem setSeg_ip (s : State) (r : SReg) (g : SegReg) : (s.setSeg r g).ip = s.ip := by cases r <;> rfl
@[simp] theorem setSeg_ipNext (s : State) (r : SReg) (g : SegReg) : (s.setSeg r g).ipNext = s.ipNext := by cases r <;> rfl
@[simp] theorem setSeg_flags (s : State) (r : SReg) (g : SegReg) : (s.setSeg r g).flags = s.flags := by cases r <;> rfl
@[simp] theorem setSeg_msw (s : State) (r : SReg) (g : SegReg) : (s.setSeg r g).msw = s.msw := by cases r <;> rfl
@[simp] theorem setSeg_gdtr (s : State) (r : SReg) (g : SegReg) : (s.setSeg r g).gdtr = s.gdtr := by cases r <;> rfl
@[simp] theorem setSeg_idtr (s : State) (r : SReg) (g : SegReg) : (s.setSeg r g).idtr = s.idtr := by cases r <;> rfl
@[simp] theorem setSeg_ldtr (s : State) (r : SReg) (g : SegReg) : (s.setSeg r g).ldtr = s.ldtr := by cases r <;> rfl
@[simp] theorem setSeg_tr (s : State) (r : SReg) (g : SegReg) : (s.setSeg r g).tr = s.tr := by cases r <;> rfl
@[simp] theorem setSeg_cpl (s : State) (r : SReg) (g : SegReg) : (s.setSeg r g).cpl = s.cpl := by cases r <;> rfl
@[simp] theorem setSeg_halted (s : State) (r : SReg) (g : SegReg) : (s.setSeg r g).halted = s.halted := by cases r <;> rfl
@[simp] theorem setSeg_shutdown (s : State) (r : SReg) (g : SegReg) : (s.setSeg r g).shutdown = s.shutdown := by cases r <;> rfl
@[simp] theorem setSeg_shadow (s : State) (r : SReg) (g : SegReg) : (s.setSeg r g).shadow = s.shadow := by cases r <;> rfl
@[simp] theorem setSeg_trapPending (s : State) (r : SReg) (g : SegReg) : (s.setSeg r g).trapPending = s.trapPending := by cases r <;> rfl
@[simp] theorem setSeg_nmiPending (s : State) (r : SReg) (g : SegReg) : (s.setSeg r g).nmiPending = s.nmiPending := by cases r <;> rfl
@[simp] theorem setSeg_nmiInService (s : State) (r : SReg) (g : SegReg) : (s.setSeg r g).nmiInService = s.nmiInService := by cases r <;> rfl
@[simp] theorem setSeg_pins (s : State) (r : SReg) (g : SegReg) : (s.setSeg r g).pins = s.pins := by cases r <;> rfl
@[simp] theorem setSeg_pfx (s : State) (r : SReg) (g : SegReg) : (s.setSeg r g).pfx = s.pfx := by cases r <;> rfl
@[simp] theorem setSeg_again (s : State) (r : SReg) (g : SegReg) : (s.setSeg r g).again = s.again := by cases r <;> rfl
@[simp] theorem setSeg_mem (s : State) (r : SReg) (g : SegReg) : (s.setSeg r g).mem = s.mem := by cases r <;> rfl
@[simp] theorem setSeg_portTrace (s : State) (r : SReg) (g : SegReg) : (s.setSeg r g).portTrace = s.portTrace := by cases r <;> rfl
@[simp] theorem setSeg_deviceTrace (s : State) (r : SReg) (g : SegReg) : (s.setSeg r g).deviceTrace = s.deviceTrace := by cases r <;> rfl
@[simp] theorem setSeg_queueEmpty (s : State) (r : SReg) (g : SegReg) : (s.setSeg r g).queueEmpty = s.queueEmpty := by cases r <;> rfl
@[simp] theorem setSeg_stale (s : State) (r : SReg) (g : SegReg) : (s.setSeg r g).stale = s.stale := by cases r <;> rfl
@[simp] theorem setSeg_clock (s : State) (r : SReg) (g : SegReg) : (s.setSeg r g).clock = s.clock := by cases r <;> rfl

@[simp] theorem write8_regs (s : State) (a : Nat) (v : Byte) : (s.write8 a v).regs = s.regs := rfl
@[simp] theorem write8_ip (s : State) (a : Nat) (v : Byte) : (s.write8 a v).ip = s.ip := rfl
@[simp] theorem write8_ipNext (s : State) (a : Nat) (v : Byte) : (s.write8 a v).ipNext = s.ipNext := rfl
@[simp] theorem write8_flags (s : State) (a : Nat) (v : Byte) : (s.write8 a v).flags = s.flags := rfl
@[simp] theorem write8_cs (s : State) (a : Nat) (v : Byte) : (s.write8 a v).cs = s.cs := rfl
@[simp] theorem write8_ds (s : State) (a : Nat) (v : Byte) : (s.write8 a v).ds = s.ds := rfl
@[simp] theorem write8_es (s : State) (a : Nat) (v : Byte) : (s.write8 a v).es = s.es := rfl
@[simp] theorem write8_ss (s : State) (a : Nat) (v : Byte) : (s.write8 a v).ss = s.ss := rfl
@[simp] theorem write8_msw (s : State) (a : Nat) (v : Byte) : (s.write8 a v).msw = s.msw := rfl
@[simp] theorem write8_gdtr (s : State) (a : Nat) (v : Byte) : (s.write8 a v).gdtr = s.gdtr := rfl
@[simp] theorem write8_idtr (s : State) (a : Nat) (v : Byte) : (s.write8 a v).idtr = s.idtr := rfl
@[simp] theorem write8_ldtr (s : State) (a : Nat) (v : Byte) : (s.write8 a v).ldtr = s.ldtr := rfl
@[simp] theorem write8_tr (s : State) (a : Nat) (v : Byte) : (s.write8 a v).tr = s.tr := rfl
@[simp] theorem write8_cpl (s : State) (a : Nat) (v : Byte) : (s.write8 a v).cpl = s.cpl := rfl
@[simp] theorem write8_halted (s : State) (a : Nat) (v : Byte) : (s.write8 a v).halted = s.halted := rfl
@[simp] theorem write8_shutdown (s : State) (a : Nat) (v : Byte) : (s.write8 a v).shutdown = s.shutdown := rfl
@[simp] theorem write8_shadow (s : State) (a : Nat) (v : Byte) : (s.write8 a v).shadow = s.shadow := rfl
@[simp] theorem write8_trapPending (s : State) (a : Nat) (v : Byte) : (s.write8 a v).trapPending = s.trapPending := rfl
@[simp] theorem write8_nmiPending (s : State) (a : Nat) (v : Byte) : (s.write8 a v).nmiPending = s.nmiPending := rfl
@[simp] theorem write8_nmiInService (s : State) (a : Nat) (v : Byte) : (s.write8 a v).nmiInService = s.nmiInService := rfl
@[simp] theorem write8_pins (s : State) (a : Nat) (v : Byte) : (s.write8 a v).pins = s.pins := rfl
@[simp] theorem write8_pfx (s : State) (a : Nat) (v : Byte) : (s.write8 a v).pfx = s.pfx := rfl
@[simp] theorem write8_again (s : State) (a : Nat) (v : Byte) : (s.write8 a v).again = s.again := rfl
@[simp] theorem write8_portTrace (s : State) (a : Nat) (v : Byte) : (s.write8 a v).portTrace = s.portTrace := rfl
@[simp] theorem write8_deviceTrace (s : State) (a : Nat) (v : Byte) : (s.write8 a v).deviceTrace = s.deviceTrace := rfl
@[simp] theorem write8_queueEmpty (s : State) (a : Nat) (v : Byte) : (s.write8 a v).queueEmpty = s.queueEmpty := rfl
@[simp] theorem write8_stale (s : State) (a : Nat) (v : Byte) : (s.write8 a v).stale = s.stale := rfl
@[simp] theorem write8_clock (s : State) (a : Nat) (v : Byte) : (s.write8 a v).clock = s.clock := rfl

@[simp] theorem write16_regs (s : State) (a : Nat) (v : Word) : (s.write16 a v).regs = s.regs := rfl
@[simp] theorem write16_ip (s : State) (a : Nat) (v : Word) : (s.write16 a v).ip = s.ip := rfl
@[simp] theorem write16_ipNext (s : State) (a : Nat) (v : Word) : (s.write16 a v).ipNext = s.ipNext := rfl
@[simp] theorem write16_flags (s : State) (a : Nat) (v : Word) : (s.write16 a v).flags = s.flags := rfl
@[simp] theorem write16_cs (s : State) (a : Nat) (v : Word) : (s.write16 a v).cs = s.cs := rfl
@[simp] theorem write16_ds (s : State) (a : Nat) (v : Word) : (s.write16 a v).ds = s.ds := rfl
@[simp] theorem write16_es (s : State) (a : Nat) (v : Word) : (s.write16 a v).es = s.es := rfl
@[simp] theorem write16_ss (s : State) (a : Nat) (v : Word) : (s.write16 a v).ss = s.ss := rfl
@[simp] theorem write16_msw (s : State) (a : Nat) (v : Word) : (s.write16 a v).msw = s.msw := rfl
@[simp] theorem write16_gdtr (s : State) (a : Nat) (v : Word) : (s.write16 a v).gdtr = s.gdtr := rfl
@[simp] theorem write16_idtr (s : State) (a : Nat) (v : Word) : (s.write16 a v).idtr = s.idtr := rfl
@[simp] theorem write16_ldtr (s : State) (a : Nat) (v : Word) : (s.write16 a v).ldtr = s.ldtr := rfl
@[simp] theorem write16_tr (s : State) (a : Nat) (v : Word) : (s.write16 a v).tr = s.tr := rfl
@[simp] theorem write16_cpl (s : State) (a : Nat) (v : Word) : (s.write16 a v).cpl = s.cpl := rfl
@[simp] theorem write16_halted (s : State) (a : Nat) (v : Word) : (s.write16 a v).halted = s.halted := rfl
@[simp] theorem write16_shutdown (s : State) (a : Nat) (v : Word) : (s.write16 a v).shutdown = s.shutdown := rfl
@[simp] theorem write16_shadow (s : State) (a : Nat) (v : Word) : (s.write16 a v).shadow = s.shadow := rfl
@[simp] theorem write16_trapPending (s : State) (a : Nat) (v : Word) : (s.write16 a v).trapPending = s.trapPending := rfl
@[simp] theorem write16_nmiPending (s : State) (a : Nat) (v : Word) : (s.write16 a v).nmiPending = s.nmiPending := rfl
@[simp] theorem write16_nmiInService (s : State) (a : Nat) (v : Word) : (s.write16 a v).nmiInService = s.nmiInService := rfl
@[simp] theorem write16_pins (s : State) (a : Nat) (v : Word) : (s.write16 a v).pins = s.pins := rfl
@[simp] theorem write16_pfx (s : State) (a : Nat) (v : Word) : (s.write16 a v).pfx = s.pfx := rfl
@[simp] theorem write16_again (s : State) (a : Nat) (v : Word) : (s.write16 a v).again = s.again := rfl
@[simp] theorem write16_portTrace (s : State) (a : Nat) (v : Word) : (s.write16 a v).portTrace = s.portTrace := rfl
@[simp] theorem write16_deviceTrace (s : State) (a : Nat) (v : Word) : (s.write16 a v).deviceTrace = s.deviceTrace := rfl
@[simp] theorem write16_queueEmpty (s : State) (a : Nat) (v : Word) : (s.write16 a v).queueEmpty = s.queueEmpty := rfl
@[simp] theorem write16_stale (s : State) (a : Nat) (v : Word) : (s.write16 a v).stale = s.stale := rfl
@[simp] theorem write16_clock (s : State) (a : Nat) (v : Word) : (s.write16 a v).clock = s.clock := rfl

@[simp] theorem advance_regs (s : State) : (s.advance).regs = s.regs := rfl
@[simp] theorem advance_ipNext (s : State) : (s.advance).ipNext = s.ipNext := rfl
@[simp] theorem advance_flags (s : State) : (s.advance).flags = s.flags := rfl
@[simp] theorem advance_cs (s : State) : (s.advance).cs = s.cs := rfl
@[simp] theorem advance_ds (s : State) : (s.advance).ds = s.ds := rfl
@[simp] theorem advance_es (s : State) : (s.advance).es = s.es := rfl
@[simp] theorem advance_ss (s : State) : (s.advance).ss = s.ss := rfl
@[simp] theorem advance_msw (s : State) : (s.advance).msw = s.msw := rfl
@[simp] theorem advance_gdtr (s : State) : (s.advance).gdtr = s.gdtr := rfl
@[simp] theorem advance_idtr (s : State) : (s.advance).idtr = s.idtr := rfl
@[simp] theorem advance_ldtr (s : State) : (s.advance).ldtr = s.ldtr := rfl
@[simp] theorem advance_tr (s : State) : (s.advance).tr = s.tr := rfl
@[simp] theorem advance_cpl (s : State) : (s.advance).cpl = s.cpl := rfl
@[simp] theorem advance_halted (s : State) : (s.advance).halted = s.halted := rfl
@[simp] theorem advance_shutdown (s : State) : (s.advance).shutdown = s.shutdown := rfl
@[simp] theorem advance_shadow (s : State) : (s.advance).shadow = s.shadow := rfl
@[simp] theorem advance_trapPending (s : State) : (s.advance).trapPending = s.trapPending := rfl
@[simp] theorem advance_nmiPending (s : State) : (s.advance).nmiPending = s.nmiPending := rfl
@[simp] theorem advance_nmiInService (s : State) : (s.advance).nmiInService = s.nmiInService := rfl
@[simp] theorem advance_pins (s : State) : (s.advance).pins = s.pins := rfl
@[simp] theorem advance_pfx (s : State) : (s.advance).pfx = s.pfx := rfl
@[simp] theorem advance_again (s : State) : (s.advance).again = s.again := rfl
@[simp] theorem advance_mem (s : State) : (s.advance).mem = s.mem := rfl
@[simp] theorem advance_portTrace (s : State) : (s.advance).portTrace = s.portTrace := rfl
@[simp] theorem advance_deviceTrace (s : State) : (s.advance).deviceTrace = s.deviceTrace := rfl
@[simp] theorem advance_queueEmpty (s : State) : (s.advance).queueEmpty = s.queueEmpty := rfl
@[simp] theorem advance_stale (s : State) : (s.advance).stale = s.stale := rfl
@[simp] theorem advance_clock (s : State) : (s.advance).clock = s.clock := rfl

@[simp] theorem advance_ip (s : State) : s.advance.ip = s.ipNext := rfl

@[simp] theorem begin_regs (s : State) : (s.begin).regs = s.regs := rfl
@[simp] theorem begin_ip (s : State) : (s.begin).ip = s.ip := rfl
@[simp] theorem begin_ipNext (s : State) : (s.begin).ipNext = s.ipNext := rfl
@[simp] theorem begin_flags (s : State) : (s.begin).flags = s.flags := rfl
@[simp] theorem begin_cs (s : State) : (s.begin).cs = s.cs := rfl
@[simp] theorem begin_ds (s : State) : (s.begin).ds = s.ds := rfl
@[simp] theorem begin_es (s : State) : (s.begin).es = s.es := rfl
@[simp] theorem begin_ss (s : State) : (s.begin).ss = s.ss := rfl
@[simp] theorem begin_msw (s : State) : (s.begin).msw = s.msw := rfl
@[simp] theorem begin_gdtr (s : State) : (s.begin).gdtr = s.gdtr := rfl
@[simp] theorem begin_idtr (s : State) : (s.begin).idtr = s.idtr := rfl
@[simp] theorem begin_ldtr (s : State) : (s.begin).ldtr = s.ldtr := rfl
@[simp] theorem begin_tr (s : State) : (s.begin).tr = s.tr := rfl
@[simp] theorem begin_cpl (s : State) : (s.begin).cpl = s.cpl := rfl
@[simp] theorem begin_halted (s : State) : (s.begin).halted = s.halted := rfl
@[simp] theorem begin_shutdown (s : State) : (s.begin).shutdown = s.shutdown := rfl
@[simp] theorem begin_nmiPending (s : State) : (s.begin).nmiPending = s.nmiPending := rfl
@[simp] theorem begin_nmiInService (s : State) : (s.begin).nmiInService = s.nmiInService := rfl
@[simp] theorem begin_pins (s : State) : (s.begin).pins = s.pins := rfl
@[simp] theorem begin_pfx (s : State) : (s.begin).pfx = s.pfx := rfl
@[simp] theorem begin_again (s : State) : (s.begin).again = s.again := rfl
@[simp] theorem begin_mem (s : State) : (s.begin).mem = s.mem := rfl
@[simp] theorem begin_portTrace (s : State) : (s.begin).portTrace = s.portTrace := rfl
@[simp] theorem begin_deviceTrace (s : State) : (s.begin).deviceTrace = s.deviceTrace := rfl
@[simp] theorem begin_queueEmpty (s : State) : (s.begin).queueEmpty = s.queueEmpty := rfl
@[simp] theorem begin_stale (s : State) : (s.begin).stale = s.stale := rfl
@[simp] theorem begin_clock (s : State) : (s.begin).clock = s.clock := rfl

@[simp] theorem begin_shadow (s : State) : s.begin.shadow = .none := rfl
@[simp] theorem begin_trapPending (s : State) : s.begin.trapPending = false := rfl

@[simp] theorem completed_regs (s t : State) : (s.completed t).regs = t.regs := rfl
@[simp] theorem completed_ip (s t : State) : (s.completed t).ip = t.ip := rfl
@[simp] theorem completed_ipNext (s t : State) : (s.completed t).ipNext = t.ipNext := rfl
@[simp] theorem completed_flags (s t : State) : (s.completed t).flags = t.flags := rfl
@[simp] theorem completed_cs (s t : State) : (s.completed t).cs = t.cs := rfl
@[simp] theorem completed_ds (s t : State) : (s.completed t).ds = t.ds := rfl
@[simp] theorem completed_es (s t : State) : (s.completed t).es = t.es := rfl
@[simp] theorem completed_ss (s t : State) : (s.completed t).ss = t.ss := rfl
@[simp] theorem completed_msw (s t : State) : (s.completed t).msw = t.msw := rfl
@[simp] theorem completed_gdtr (s t : State) : (s.completed t).gdtr = t.gdtr := rfl
@[simp] theorem completed_idtr (s t : State) : (s.completed t).idtr = t.idtr := rfl
@[simp] theorem completed_ldtr (s t : State) : (s.completed t).ldtr = t.ldtr := rfl
@[simp] theorem completed_tr (s t : State) : (s.completed t).tr = t.tr := rfl
@[simp] theorem completed_cpl (s t : State) : (s.completed t).cpl = t.cpl := rfl
@[simp] theorem completed_halted (s t : State) : (s.completed t).halted = t.halted := rfl
@[simp] theorem completed_shutdown (s t : State) : (s.completed t).shutdown = t.shutdown := rfl
@[simp] theorem completed_shadow (s t : State) : (s.completed t).shadow = t.shadow := rfl
@[simp] theorem completed_nmiPending (s t : State) : (s.completed t).nmiPending = t.nmiPending := rfl
@[simp] theorem completed_nmiInService (s t : State) : (s.completed t).nmiInService = t.nmiInService := rfl
@[simp] theorem completed_pins (s t : State) : (s.completed t).pins = t.pins := rfl
@[simp] theorem completed_mem (s t : State) : (s.completed t).mem = t.mem := rfl
@[simp] theorem completed_portTrace (s t : State) : (s.completed t).portTrace = t.portTrace := rfl
@[simp] theorem completed_deviceTrace (s t : State) : (s.completed t).deviceTrace = t.deviceTrace := rfl
@[simp] theorem completed_queueEmpty (s t : State) : (s.completed t).queueEmpty = t.queueEmpty := rfl
@[simp] theorem completed_stale (s t : State) : (s.completed t).stale = t.stale := rfl
@[simp] theorem completed_clock (s t : State) : (s.completed t).clock = t.clock := rfl
@[simp] theorem completed_pfx (s t : State) : (s.completed t).pfx = noPrefixes := rfl
@[simp] theorem completed_again (s t : State) : (s.completed t).again = none := rfl

@[simp] theorem interrupted_regs (s : State) : (s.interrupted).regs = s.regs := rfl
@[simp] theorem interrupted_ip (s : State) : (s.interrupted).ip = s.ip := rfl
@[simp] theorem interrupted_ipNext (s : State) : (s.interrupted).ipNext = s.ipNext := rfl
@[simp] theorem interrupted_flags (s : State) : (s.interrupted).flags = s.flags := rfl
@[simp] theorem interrupted_cs (s : State) : (s.interrupted).cs = s.cs := rfl
@[simp] theorem interrupted_ds (s : State) : (s.interrupted).ds = s.ds := rfl
@[simp] theorem interrupted_es (s : State) : (s.interrupted).es = s.es := rfl
@[simp] theorem interrupted_ss (s : State) : (s.interrupted).ss = s.ss := rfl
@[simp] theorem interrupted_msw (s : State) : (s.interrupted).msw = s.msw := rfl
@[simp] theorem interrupted_gdtr (s : State) : (s.interrupted).gdtr = s.gdtr := rfl
@[simp] theorem interrupted_idtr (s : State) : (s.interrupted).idtr = s.idtr := rfl
@[simp] theorem interrupted_ldtr (s : State) : (s.interrupted).ldtr = s.ldtr := rfl
@[simp] theorem interrupted_tr (s : State) : (s.interrupted).tr = s.tr := rfl
@[simp] theorem interrupted_cpl (s : State) : (s.interrupted).cpl = s.cpl := rfl
@[simp] theorem interrupted_nmiPending (s : State) : (s.interrupted).nmiPending = s.nmiPending := rfl
@[simp] theorem interrupted_nmiInService (s : State) : (s.interrupted).nmiInService = s.nmiInService := rfl
@[simp] theorem interrupted_pins (s : State) : (s.interrupted).pins = s.pins := rfl
@[simp] theorem interrupted_mem (s : State) : (s.interrupted).mem = s.mem := rfl
@[simp] theorem interrupted_portTrace (s : State) : (s.interrupted).portTrace = s.portTrace := rfl
@[simp] theorem interrupted_deviceTrace (s : State) : (s.interrupted).deviceTrace = s.deviceTrace := rfl
@[simp] theorem interrupted_stale (s : State) : (s.interrupted).stale = s.stale := rfl
@[simp] theorem interrupted_clock (s : State) : (s.interrupted).clock = s.clock := rfl

@[simp] theorem between_regs (s t : State) (op : StringOp) : (s.between t op).regs = t.regs := rfl
@[simp] theorem between_ip (s t : State) (op : StringOp) : (s.between t op).ip = t.ip := rfl
@[simp] theorem between_ipNext (s t : State) (op : StringOp) : (s.between t op).ipNext = t.ipNext := rfl
@[simp] theorem between_flags (s t : State) (op : StringOp) : (s.between t op).flags = t.flags := rfl
@[simp] theorem between_cs (s t : State) (op : StringOp) : (s.between t op).cs = t.cs := rfl
@[simp] theorem between_ds (s t : State) (op : StringOp) : (s.between t op).ds = t.ds := rfl
@[simp] theorem between_es (s t : State) (op : StringOp) : (s.between t op).es = t.es := rfl
@[simp] theorem between_ss (s t : State) (op : StringOp) : (s.between t op).ss = t.ss := rfl
@[simp] theorem between_msw (s t : State) (op : StringOp) : (s.between t op).msw = t.msw := rfl
@[simp] theorem between_gdtr (s t : State) (op : StringOp) : (s.between t op).gdtr = t.gdtr := rfl
@[simp] theorem between_idtr (s t : State) (op : StringOp) : (s.between t op).idtr = t.idtr := rfl
@[simp] theorem between_ldtr (s t : State) (op : StringOp) : (s.between t op).ldtr = t.ldtr := rfl
@[simp] theorem between_tr (s t : State) (op : StringOp) : (s.between t op).tr = t.tr := rfl
@[simp] theorem between_cpl (s t : State) (op : StringOp) : (s.between t op).cpl = t.cpl := rfl
@[simp] theorem between_halted (s t : State) (op : StringOp) : (s.between t op).halted = t.halted := rfl
@[simp] theorem between_shutdown (s t : State) (op : StringOp) : (s.between t op).shutdown = t.shutdown := rfl
@[simp] theorem between_nmiPending (s t : State) (op : StringOp) : (s.between t op).nmiPending = t.nmiPending := rfl
@[simp] theorem between_nmiInService (s t : State) (op : StringOp) : (s.between t op).nmiInService = t.nmiInService := rfl
@[simp] theorem between_pins (s t : State) (op : StringOp) : (s.between t op).pins = t.pins := rfl
@[simp] theorem between_mem (s t : State) (op : StringOp) : (s.between t op).mem = t.mem := rfl
@[simp] theorem between_portTrace (s t : State) (op : StringOp) : (s.between t op).portTrace = t.portTrace := rfl
@[simp] theorem between_deviceTrace (s t : State) (op : StringOp) : (s.between t op).deviceTrace = t.deviceTrace := rfl
@[simp] theorem between_queueEmpty (s t : State) (op : StringOp) : (s.between t op).queueEmpty = t.queueEmpty := rfl
@[simp] theorem between_stale (s t : State) (op : StringOp) : (s.between t op).stale = t.stale := rfl
@[simp] theorem between_clock (s t : State) (op : StringOp) : (s.between t op).clock = t.clock := rfl

@[simp] theorem between_pfx (s t : State) (op : StringOp) : (s.between t op).pfx = s.pfx := rfl
@[simp] theorem between_again (s t : State) (op : StringOp) : (s.between t op).again = some op := rfl
@[simp] theorem between_shadow (s t : State) (op : StringOp) : (s.between t op).shadow = s.shadow := rfl
@[simp] theorem between_trapPending (s t : State) (op : StringOp) :
    (s.between t op).trapPending = (s.flags.tf && decide (s.shadow = .none)) := rfl

@[simp] theorem portOut_regs (s : State) (p : Word) (n : Nat) (v : Word) : (s.portOut p n v).regs = s.regs := rfl
@[simp] theorem portOut_ip (s : State) (p : Word) (n : Nat) (v : Word) : (s.portOut p n v).ip = s.ip := rfl
@[simp] theorem portOut_ipNext (s : State) (p : Word) (n : Nat) (v : Word) : (s.portOut p n v).ipNext = s.ipNext := rfl
@[simp] theorem portOut_flags (s : State) (p : Word) (n : Nat) (v : Word) : (s.portOut p n v).flags = s.flags := rfl
@[simp] theorem portOut_cs (s : State) (p : Word) (n : Nat) (v : Word) : (s.portOut p n v).cs = s.cs := rfl
@[simp] theorem portOut_ds (s : State) (p : Word) (n : Nat) (v : Word) : (s.portOut p n v).ds = s.ds := rfl
@[simp] theorem portOut_es (s : State) (p : Word) (n : Nat) (v : Word) : (s.portOut p n v).es = s.es := rfl
@[simp] theorem portOut_ss (s : State) (p : Word) (n : Nat) (v : Word) : (s.portOut p n v).ss = s.ss := rfl
@[simp] theorem portOut_msw (s : State) (p : Word) (n : Nat) (v : Word) : (s.portOut p n v).msw = s.msw := rfl
@[simp] theorem portOut_gdtr (s : State) (p : Word) (n : Nat) (v : Word) : (s.portOut p n v).gdtr = s.gdtr := rfl
@[simp] theorem portOut_idtr (s : State) (p : Word) (n : Nat) (v : Word) : (s.portOut p n v).idtr = s.idtr := rfl
@[simp] theorem portOut_ldtr (s : State) (p : Word) (n : Nat) (v : Word) : (s.portOut p n v).ldtr = s.ldtr := rfl
@[simp] theorem portOut_tr (s : State) (p : Word) (n : Nat) (v : Word) : (s.portOut p n v).tr = s.tr := rfl
@[simp] theorem portOut_cpl (s : State) (p : Word) (n : Nat) (v : Word) : (s.portOut p n v).cpl = s.cpl := rfl
@[simp] theorem portOut_halted (s : State) (p : Word) (n : Nat) (v : Word) : (s.portOut p n v).halted = s.halted := rfl
@[simp] theorem portOut_shutdown (s : State) (p : Word) (n : Nat) (v : Word) : (s.portOut p n v).shutdown = s.shutdown := rfl
@[simp] theorem portOut_shadow (s : State) (p : Word) (n : Nat) (v : Word) : (s.portOut p n v).shadow = s.shadow := rfl
@[simp] theorem portOut_trapPending (s : State) (p : Word) (n : Nat) (v : Word) : (s.portOut p n v).trapPending = s.trapPending := rfl
@[simp] theorem portOut_nmiPending (s : State) (p : Word) (n : Nat) (v : Word) : (s.portOut p n v).nmiPending = s.nmiPending := rfl
@[simp] theorem portOut_nmiInService (s : State) (p : Word) (n : Nat) (v : Word) : (s.portOut p n v).nmiInService = s.nmiInService := rfl
@[simp] theorem portOut_pins (s : State) (p : Word) (n : Nat) (v : Word) : (s.portOut p n v).pins = s.pins := rfl
@[simp] theorem portOut_pfx (s : State) (p : Word) (n : Nat) (v : Word) : (s.portOut p n v).pfx = s.pfx := rfl
@[simp] theorem portOut_again (s : State) (p : Word) (n : Nat) (v : Word) : (s.portOut p n v).again = s.again := rfl
@[simp] theorem portOut_mem (s : State) (p : Word) (n : Nat) (v : Word) : (s.portOut p n v).mem = s.mem := rfl
@[simp] theorem portOut_queueEmpty (s : State) (p : Word) (n : Nat) (v : Word) : (s.portOut p n v).queueEmpty = s.queueEmpty := rfl
@[simp] theorem portOut_stale (s : State) (p : Word) (n : Nat) (v : Word) : (s.portOut p n v).stale = s.stale := rfl
@[simp] theorem portOut_clock (s : State) (p : Word) (n : Nat) (v : Word) : (s.portOut p n v).clock = s.clock := rfl

@[simp] theorem stepSi_ip (s : State) (n : Nat) : (s.stepSi n).ip = s.ip := rfl
@[simp] theorem stepSi_ipNext (s : State) (n : Nat) : (s.stepSi n).ipNext = s.ipNext := rfl
@[simp] theorem stepSi_flags (s : State) (n : Nat) : (s.stepSi n).flags = s.flags := rfl
@[simp] theorem stepSi_cs (s : State) (n : Nat) : (s.stepSi n).cs = s.cs := rfl
@[simp] theorem stepSi_ds (s : State) (n : Nat) : (s.stepSi n).ds = s.ds := rfl
@[simp] theorem stepSi_es (s : State) (n : Nat) : (s.stepSi n).es = s.es := rfl
@[simp] theorem stepSi_ss (s : State) (n : Nat) : (s.stepSi n).ss = s.ss := rfl
@[simp] theorem stepSi_msw (s : State) (n : Nat) : (s.stepSi n).msw = s.msw := rfl
@[simp] theorem stepSi_gdtr (s : State) (n : Nat) : (s.stepSi n).gdtr = s.gdtr := rfl
@[simp] theorem stepSi_idtr (s : State) (n : Nat) : (s.stepSi n).idtr = s.idtr := rfl
@[simp] theorem stepSi_ldtr (s : State) (n : Nat) : (s.stepSi n).ldtr = s.ldtr := rfl
@[simp] theorem stepSi_tr (s : State) (n : Nat) : (s.stepSi n).tr = s.tr := rfl
@[simp] theorem stepSi_cpl (s : State) (n : Nat) : (s.stepSi n).cpl = s.cpl := rfl
@[simp] theorem stepSi_halted (s : State) (n : Nat) : (s.stepSi n).halted = s.halted := rfl
@[simp] theorem stepSi_shutdown (s : State) (n : Nat) : (s.stepSi n).shutdown = s.shutdown := rfl
@[simp] theorem stepSi_shadow (s : State) (n : Nat) : (s.stepSi n).shadow = s.shadow := rfl
@[simp] theorem stepSi_trapPending (s : State) (n : Nat) : (s.stepSi n).trapPending = s.trapPending := rfl
@[simp] theorem stepSi_nmiPending (s : State) (n : Nat) : (s.stepSi n).nmiPending = s.nmiPending := rfl
@[simp] theorem stepSi_nmiInService (s : State) (n : Nat) : (s.stepSi n).nmiInService = s.nmiInService := rfl
@[simp] theorem stepSi_pins (s : State) (n : Nat) : (s.stepSi n).pins = s.pins := rfl
@[simp] theorem stepSi_pfx (s : State) (n : Nat) : (s.stepSi n).pfx = s.pfx := rfl
@[simp] theorem stepSi_again (s : State) (n : Nat) : (s.stepSi n).again = s.again := rfl
@[simp] theorem stepSi_mem (s : State) (n : Nat) : (s.stepSi n).mem = s.mem := rfl
@[simp] theorem stepSi_portTrace (s : State) (n : Nat) : (s.stepSi n).portTrace = s.portTrace := rfl
@[simp] theorem stepSi_deviceTrace (s : State) (n : Nat) : (s.stepSi n).deviceTrace = s.deviceTrace := rfl
@[simp] theorem stepSi_queueEmpty (s : State) (n : Nat) : (s.stepSi n).queueEmpty = s.queueEmpty := rfl
@[simp] theorem stepSi_stale (s : State) (n : Nat) : (s.stepSi n).stale = s.stale := rfl
@[simp] theorem stepSi_clock (s : State) (n : Nat) : (s.stepSi n).clock = s.clock := rfl

@[simp] theorem stepDi_ip (s : State) (n : Nat) : (s.stepDi n).ip = s.ip := rfl
@[simp] theorem stepDi_ipNext (s : State) (n : Nat) : (s.stepDi n).ipNext = s.ipNext := rfl
@[simp] theorem stepDi_flags (s : State) (n : Nat) : (s.stepDi n).flags = s.flags := rfl
@[simp] theorem stepDi_cs (s : State) (n : Nat) : (s.stepDi n).cs = s.cs := rfl
@[simp] theorem stepDi_ds (s : State) (n : Nat) : (s.stepDi n).ds = s.ds := rfl
@[simp] theorem stepDi_es (s : State) (n : Nat) : (s.stepDi n).es = s.es := rfl
@[simp] theorem stepDi_ss (s : State) (n : Nat) : (s.stepDi n).ss = s.ss := rfl
@[simp] theorem stepDi_msw (s : State) (n : Nat) : (s.stepDi n).msw = s.msw := rfl
@[simp] theorem stepDi_gdtr (s : State) (n : Nat) : (s.stepDi n).gdtr = s.gdtr := rfl
@[simp] theorem stepDi_idtr (s : State) (n : Nat) : (s.stepDi n).idtr = s.idtr := rfl
@[simp] theorem stepDi_ldtr (s : State) (n : Nat) : (s.stepDi n).ldtr = s.ldtr := rfl
@[simp] theorem stepDi_tr (s : State) (n : Nat) : (s.stepDi n).tr = s.tr := rfl
@[simp] theorem stepDi_cpl (s : State) (n : Nat) : (s.stepDi n).cpl = s.cpl := rfl
@[simp] theorem stepDi_halted (s : State) (n : Nat) : (s.stepDi n).halted = s.halted := rfl
@[simp] theorem stepDi_shutdown (s : State) (n : Nat) : (s.stepDi n).shutdown = s.shutdown := rfl
@[simp] theorem stepDi_shadow (s : State) (n : Nat) : (s.stepDi n).shadow = s.shadow := rfl
@[simp] theorem stepDi_trapPending (s : State) (n : Nat) : (s.stepDi n).trapPending = s.trapPending := rfl
@[simp] theorem stepDi_nmiPending (s : State) (n : Nat) : (s.stepDi n).nmiPending = s.nmiPending := rfl
@[simp] theorem stepDi_nmiInService (s : State) (n : Nat) : (s.stepDi n).nmiInService = s.nmiInService := rfl
@[simp] theorem stepDi_pins (s : State) (n : Nat) : (s.stepDi n).pins = s.pins := rfl
@[simp] theorem stepDi_pfx (s : State) (n : Nat) : (s.stepDi n).pfx = s.pfx := rfl
@[simp] theorem stepDi_again (s : State) (n : Nat) : (s.stepDi n).again = s.again := rfl
@[simp] theorem stepDi_mem (s : State) (n : Nat) : (s.stepDi n).mem = s.mem := rfl
@[simp] theorem stepDi_portTrace (s : State) (n : Nat) : (s.stepDi n).portTrace = s.portTrace := rfl
@[simp] theorem stepDi_deviceTrace (s : State) (n : Nat) : (s.stepDi n).deviceTrace = s.deviceTrace := rfl
@[simp] theorem stepDi_queueEmpty (s : State) (n : Nat) : (s.stepDi n).queueEmpty = s.queueEmpty := rfl
@[simp] theorem stepDi_stale (s : State) (n : Nat) : (s.stepDi n).stale = s.stale := rfl
@[simp] theorem stepDi_clock (s : State) (n : Nat) : (s.stepDi n).clock = s.clock := rfl

@[simp] theorem setZf_regs (s : State) (z : Bool) : (s.setZf z).regs = s.regs := rfl
@[simp] theorem setZf_ip (s : State) (z : Bool) : (s.setZf z).ip = s.ip := rfl
@[simp] theorem setZf_ipNext (s : State) (z : Bool) : (s.setZf z).ipNext = s.ipNext := rfl
@[simp] theorem setZf_cs (s : State) (z : Bool) : (s.setZf z).cs = s.cs := rfl
@[simp] theorem setZf_ds (s : State) (z : Bool) : (s.setZf z).ds = s.ds := rfl
@[simp] theorem setZf_es (s : State) (z : Bool) : (s.setZf z).es = s.es := rfl
@[simp] theorem setZf_ss (s : State) (z : Bool) : (s.setZf z).ss = s.ss := rfl
@[simp] theorem setZf_msw (s : State) (z : Bool) : (s.setZf z).msw = s.msw := rfl
@[simp] theorem setZf_gdtr (s : State) (z : Bool) : (s.setZf z).gdtr = s.gdtr := rfl
@[simp] theorem setZf_idtr (s : State) (z : Bool) : (s.setZf z).idtr = s.idtr := rfl
@[simp] theorem setZf_ldtr (s : State) (z : Bool) : (s.setZf z).ldtr = s.ldtr := rfl
@[simp] theorem setZf_tr (s : State) (z : Bool) : (s.setZf z).tr = s.tr := rfl
@[simp] theorem setZf_cpl (s : State) (z : Bool) : (s.setZf z).cpl = s.cpl := rfl
@[simp] theorem setZf_halted (s : State) (z : Bool) : (s.setZf z).halted = s.halted := rfl
@[simp] theorem setZf_shutdown (s : State) (z : Bool) : (s.setZf z).shutdown = s.shutdown := rfl
@[simp] theorem setZf_shadow (s : State) (z : Bool) : (s.setZf z).shadow = s.shadow := rfl
@[simp] theorem setZf_trapPending (s : State) (z : Bool) : (s.setZf z).trapPending = s.trapPending := rfl
@[simp] theorem setZf_nmiPending (s : State) (z : Bool) : (s.setZf z).nmiPending = s.nmiPending := rfl
@[simp] theorem setZf_nmiInService (s : State) (z : Bool) : (s.setZf z).nmiInService = s.nmiInService := rfl
@[simp] theorem setZf_pins (s : State) (z : Bool) : (s.setZf z).pins = s.pins := rfl
@[simp] theorem setZf_pfx (s : State) (z : Bool) : (s.setZf z).pfx = s.pfx := rfl
@[simp] theorem setZf_again (s : State) (z : Bool) : (s.setZf z).again = s.again := rfl
@[simp] theorem setZf_mem (s : State) (z : Bool) : (s.setZf z).mem = s.mem := rfl
@[simp] theorem setZf_portTrace (s : State) (z : Bool) : (s.setZf z).portTrace = s.portTrace := rfl
@[simp] theorem setZf_deviceTrace (s : State) (z : Bool) : (s.setZf z).deviceTrace = s.deviceTrace := rfl
@[simp] theorem setZf_queueEmpty (s : State) (z : Bool) : (s.setZf z).queueEmpty = s.queueEmpty := rfl
@[simp] theorem setZf_stale (s : State) (z : Bool) : (s.setZf z).stale = s.stale := rfl
@[simp] theorem setZf_clock (s : State) (z : Bool) : (s.setZf z).clock = s.clock := rfl

@[simp] theorem countCx_ip (s : State) : (s.countCx).ip = s.ip := rfl
@[simp] theorem countCx_ipNext (s : State) : (s.countCx).ipNext = s.ipNext := rfl
@[simp] theorem countCx_flags (s : State) : (s.countCx).flags = s.flags := rfl
@[simp] theorem countCx_cs (s : State) : (s.countCx).cs = s.cs := rfl
@[simp] theorem countCx_ds (s : State) : (s.countCx).ds = s.ds := rfl
@[simp] theorem countCx_es (s : State) : (s.countCx).es = s.es := rfl
@[simp] theorem countCx_ss (s : State) : (s.countCx).ss = s.ss := rfl
@[simp] theorem countCx_msw (s : State) : (s.countCx).msw = s.msw := rfl
@[simp] theorem countCx_gdtr (s : State) : (s.countCx).gdtr = s.gdtr := rfl
@[simp] theorem countCx_idtr (s : State) : (s.countCx).idtr = s.idtr := rfl
@[simp] theorem countCx_ldtr (s : State) : (s.countCx).ldtr = s.ldtr := rfl
@[simp] theorem countCx_tr (s : State) : (s.countCx).tr = s.tr := rfl
@[simp] theorem countCx_cpl (s : State) : (s.countCx).cpl = s.cpl := rfl
@[simp] theorem countCx_halted (s : State) : (s.countCx).halted = s.halted := rfl
@[simp] theorem countCx_shutdown (s : State) : (s.countCx).shutdown = s.shutdown := rfl
@[simp] theorem countCx_shadow (s : State) : (s.countCx).shadow = s.shadow := rfl
@[simp] theorem countCx_trapPending (s : State) : (s.countCx).trapPending = s.trapPending := rfl
@[simp] theorem countCx_nmiPending (s : State) : (s.countCx).nmiPending = s.nmiPending := rfl
@[simp] theorem countCx_nmiInService (s : State) : (s.countCx).nmiInService = s.nmiInService := rfl
@[simp] theorem countCx_pins (s : State) : (s.countCx).pins = s.pins := rfl
@[simp] theorem countCx_pfx (s : State) : (s.countCx).pfx = s.pfx := rfl
@[simp] theorem countCx_again (s : State) : (s.countCx).again = s.again := rfl
@[simp] theorem countCx_mem (s : State) : (s.countCx).mem = s.mem := rfl
@[simp] theorem countCx_portTrace (s : State) : (s.countCx).portTrace = s.portTrace := rfl
@[simp] theorem countCx_deviceTrace (s : State) : (s.countCx).deviceTrace = s.deviceTrace := rfl
@[simp] theorem countCx_queueEmpty (s : State) : (s.countCx).queueEmpty = s.queueEmpty := rfl
@[simp] theorem countCx_stale (s : State) : (s.countCx).stale = s.stale := rfl
@[simp] theorem countCx_clock (s : State) : (s.countCx).clock = s.clock := rfl

@[simp] theorem realFar_regs (s : State) (sel off : Word) : (s.realFar sel off).regs = s.regs := rfl
@[simp] theorem realFar_ipNext (s : State) (sel off : Word) : (s.realFar sel off).ipNext = s.ipNext := rfl
@[simp] theorem realFar_flags (s : State) (sel off : Word) : (s.realFar sel off).flags = s.flags := rfl
@[simp] theorem realFar_ds (s : State) (sel off : Word) : (s.realFar sel off).ds = s.ds := rfl
@[simp] theorem realFar_es (s : State) (sel off : Word) : (s.realFar sel off).es = s.es := rfl
@[simp] theorem realFar_ss (s : State) (sel off : Word) : (s.realFar sel off).ss = s.ss := rfl
@[simp] theorem realFar_msw (s : State) (sel off : Word) : (s.realFar sel off).msw = s.msw := rfl
@[simp] theorem realFar_gdtr (s : State) (sel off : Word) : (s.realFar sel off).gdtr = s.gdtr := rfl
@[simp] theorem realFar_idtr (s : State) (sel off : Word) : (s.realFar sel off).idtr = s.idtr := rfl
@[simp] theorem realFar_ldtr (s : State) (sel off : Word) : (s.realFar sel off).ldtr = s.ldtr := rfl
@[simp] theorem realFar_tr (s : State) (sel off : Word) : (s.realFar sel off).tr = s.tr := rfl
@[simp] theorem realFar_cpl (s : State) (sel off : Word) : (s.realFar sel off).cpl = s.cpl := rfl
@[simp] theorem realFar_halted (s : State) (sel off : Word) : (s.realFar sel off).halted = s.halted := rfl
@[simp] theorem realFar_shutdown (s : State) (sel off : Word) : (s.realFar sel off).shutdown = s.shutdown := rfl
@[simp] theorem realFar_shadow (s : State) (sel off : Word) : (s.realFar sel off).shadow = s.shadow := rfl
@[simp] theorem realFar_trapPending (s : State) (sel off : Word) : (s.realFar sel off).trapPending = s.trapPending := rfl
@[simp] theorem realFar_nmiPending (s : State) (sel off : Word) : (s.realFar sel off).nmiPending = s.nmiPending := rfl
@[simp] theorem realFar_nmiInService (s : State) (sel off : Word) : (s.realFar sel off).nmiInService = s.nmiInService := rfl
@[simp] theorem realFar_pins (s : State) (sel off : Word) : (s.realFar sel off).pins = s.pins := rfl
@[simp] theorem realFar_pfx (s : State) (sel off : Word) : (s.realFar sel off).pfx = s.pfx := rfl
@[simp] theorem realFar_again (s : State) (sel off : Word) : (s.realFar sel off).again = s.again := rfl
@[simp] theorem realFar_mem (s : State) (sel off : Word) : (s.realFar sel off).mem = s.mem := rfl
@[simp] theorem realFar_portTrace (s : State) (sel off : Word) : (s.realFar sel off).portTrace = s.portTrace := rfl
@[simp] theorem realFar_deviceTrace (s : State) (sel off : Word) : (s.realFar sel off).deviceTrace = s.deviceTrace := rfl
@[simp] theorem realFar_stale (s : State) (sel off : Word) : (s.realFar sel off).stale = s.stale := rfl
@[simp] theorem realFar_clock (s : State) (sel off : Word) : (s.realFar sel off).clock = s.clock := rfl

@[simp] theorem markAccessed_regs (s : State) (d : Desc) : (s.markAccessed d).regs = s.regs := by unfold State.markAccessed; split <;> rfl
@[simp] theorem markAccessed_ip (s : State) (d : Desc) : (s.markAccessed d).ip = s.ip := by unfold State.markAccessed; split <;> rfl
@[simp] theorem markAccessed_ipNext (s : State) (d : Desc) : (s.markAccessed d).ipNext = s.ipNext := by unfold State.markAccessed; split <;> rfl
@[simp] theorem markAccessed_flags (s : State) (d : Desc) : (s.markAccessed d).flags = s.flags := by unfold State.markAccessed; split <;> rfl
@[simp] theorem markAccessed_cs (s : State) (d : Desc) : (s.markAccessed d).cs = s.cs := by unfold State.markAccessed; split <;> rfl
@[simp] theorem markAccessed_ds (s : State) (d : Desc) : (s.markAccessed d).ds = s.ds := by unfold State.markAccessed; split <;> rfl
@[simp] theorem markAccessed_es (s : State) (d : Desc) : (s.markAccessed d).es = s.es := by unfold State.markAccessed; split <;> rfl
@[simp] theorem markAccessed_ss (s : State) (d : Desc) : (s.markAccessed d).ss = s.ss := by unfold State.markAccessed; split <;> rfl
@[simp] theorem markAccessed_msw (s : State) (d : Desc) : (s.markAccessed d).msw = s.msw := by unfold State.markAccessed; split <;> rfl
@[simp] theorem markAccessed_gdtr (s : State) (d : Desc) : (s.markAccessed d).gdtr = s.gdtr := by unfold State.markAccessed; split <;> rfl
@[simp] theorem markAccessed_idtr (s : State) (d : Desc) : (s.markAccessed d).idtr = s.idtr := by unfold State.markAccessed; split <;> rfl
@[simp] theorem markAccessed_ldtr (s : State) (d : Desc) : (s.markAccessed d).ldtr = s.ldtr := by unfold State.markAccessed; split <;> rfl
@[simp] theorem markAccessed_tr (s : State) (d : Desc) : (s.markAccessed d).tr = s.tr := by unfold State.markAccessed; split <;> rfl
@[simp] theorem markAccessed_cpl (s : State) (d : Desc) : (s.markAccessed d).cpl = s.cpl := by unfold State.markAccessed; split <;> rfl
@[simp] theorem markAccessed_halted (s : State) (d : Desc) : (s.markAccessed d).halted = s.halted := by unfold State.markAccessed; split <;> rfl
@[simp] theorem markAccessed_shutdown (s : State) (d : Desc) : (s.markAccessed d).shutdown = s.shutdown := by unfold State.markAccessed; split <;> rfl
@[simp] theorem markAccessed_shadow (s : State) (d : Desc) : (s.markAccessed d).shadow = s.shadow := by unfold State.markAccessed; split <;> rfl
@[simp] theorem markAccessed_trapPending (s : State) (d : Desc) : (s.markAccessed d).trapPending = s.trapPending := by unfold State.markAccessed; split <;> rfl
@[simp] theorem markAccessed_nmiPending (s : State) (d : Desc) : (s.markAccessed d).nmiPending = s.nmiPending := by unfold State.markAccessed; split <;> rfl
@[simp] theorem markAccessed_nmiInService (s : State) (d : Desc) : (s.markAccessed d).nmiInService = s.nmiInService := by unfold State.markAccessed; split <;> rfl
@[simp] theorem markAccessed_pins (s : State) (d : Desc) : (s.markAccessed d).pins = s.pins := by unfold State.markAccessed; split <;> rfl
@[simp] theorem markAccessed_pfx (s : State) (d : Desc) : (s.markAccessed d).pfx = s.pfx := by unfold State.markAccessed; split <;> rfl
@[simp] theorem markAccessed_again (s : State) (d : Desc) : (s.markAccessed d).again = s.again := by unfold State.markAccessed; split <;> rfl
@[simp] theorem markAccessed_portTrace (s : State) (d : Desc) : (s.markAccessed d).portTrace = s.portTrace := by unfold State.markAccessed; split <;> rfl
@[simp] theorem markAccessed_deviceTrace (s : State) (d : Desc) : (s.markAccessed d).deviceTrace = s.deviceTrace := by unfold State.markAccessed; split <;> rfl
@[simp] theorem markAccessed_queueEmpty (s : State) (d : Desc) : (s.markAccessed d).queueEmpty = s.queueEmpty := by unfold State.markAccessed; split <;> rfl
@[simp] theorem markAccessed_stale (s : State) (d : Desc) : (s.markAccessed d).stale = s.stale := by unfold State.markAccessed; split <;> rfl
@[simp] theorem markAccessed_clock (s : State) (d : Desc) : (s.markAccessed d).clock = s.clock := by unfold State.markAccessed; split <;> rfl

@[simp] theorem markBusy_regs (s : State) (d : Desc) : (s.markBusy d).regs = s.regs := rfl
@[simp] theorem markBusy_ip (s : State) (d : Desc) : (s.markBusy d).ip = s.ip := rfl
@[simp] theorem markBusy_ipNext (s : State) (d : Desc) : (s.markBusy d).ipNext = s.ipNext := rfl
@[simp] theorem markBusy_flags (s : State) (d : Desc) : (s.markBusy d).flags = s.flags := rfl
@[simp] theorem markBusy_cs (s : State) (d : Desc) : (s.markBusy d).cs = s.cs := rfl
@[simp] theorem markBusy_ds (s : State) (d : Desc) : (s.markBusy d).ds = s.ds := rfl
@[simp] theorem markBusy_es (s : State) (d : Desc) : (s.markBusy d).es = s.es := rfl
@[simp] theorem markBusy_ss (s : State) (d : Desc) : (s.markBusy d).ss = s.ss := rfl
@[simp] theorem markBusy_msw (s : State) (d : Desc) : (s.markBusy d).msw = s.msw := rfl
@[simp] theorem markBusy_gdtr (s : State) (d : Desc) : (s.markBusy d).gdtr = s.gdtr := rfl
@[simp] theorem markBusy_idtr (s : State) (d : Desc) : (s.markBusy d).idtr = s.idtr := rfl
@[simp] theorem markBusy_ldtr (s : State) (d : Desc) : (s.markBusy d).ldtr = s.ldtr := rfl
@[simp] theorem markBusy_tr (s : State) (d : Desc) : (s.markBusy d).tr = s.tr := rfl
@[simp] theorem markBusy_cpl (s : State) (d : Desc) : (s.markBusy d).cpl = s.cpl := rfl
@[simp] theorem markBusy_halted (s : State) (d : Desc) : (s.markBusy d).halted = s.halted := rfl
@[simp] theorem markBusy_shutdown (s : State) (d : Desc) : (s.markBusy d).shutdown = s.shutdown := rfl
@[simp] theorem markBusy_shadow (s : State) (d : Desc) : (s.markBusy d).shadow = s.shadow := rfl
@[simp] theorem markBusy_trapPending (s : State) (d : Desc) : (s.markBusy d).trapPending = s.trapPending := rfl
@[simp] theorem markBusy_nmiPending (s : State) (d : Desc) : (s.markBusy d).nmiPending = s.nmiPending := rfl
@[simp] theorem markBusy_nmiInService (s : State) (d : Desc) : (s.markBusy d).nmiInService = s.nmiInService := rfl
@[simp] theorem markBusy_pins (s : State) (d : Desc) : (s.markBusy d).pins = s.pins := rfl
@[simp] theorem markBusy_pfx (s : State) (d : Desc) : (s.markBusy d).pfx = s.pfx := rfl
@[simp] theorem markBusy_again (s : State) (d : Desc) : (s.markBusy d).again = s.again := rfl
@[simp] theorem markBusy_portTrace (s : State) (d : Desc) : (s.markBusy d).portTrace = s.portTrace := rfl
@[simp] theorem markBusy_deviceTrace (s : State) (d : Desc) : (s.markBusy d).deviceTrace = s.deviceTrace := rfl
@[simp] theorem markBusy_queueEmpty (s : State) (d : Desc) : (s.markBusy d).queueEmpty = s.queueEmpty := rfl
@[simp] theorem markBusy_stale (s : State) (d : Desc) : (s.markBusy d).stale = s.stale := rfl
@[simp] theorem markBusy_clock (s : State) (d : Desc) : (s.markBusy d).clock = s.clock := rfl

@[simp] theorem reg16_setReg16 (s : State) (r : Reg16) (v : Word) : (s.setReg16 r v).reg16 r = v := by cases r <;> rfl

theorem reg16_setReg16_ne (s : State) {r q : Reg16} (v : Word) (h : q ≠ r) : (s.setReg16 r v).reg16 q = s.reg16 q := by
  cases r <;> cases q <;> first | rfl | exact absurd rfl h

theorem getLsbD_wordOf (a b : Byte) (i : Nat) :
    (wordOf a b).getLsbD i = if i < 8 then a.getLsbD i else b.getLsbD (i - 8) :=
  BitVec.getLsbD_append

@[simp] theorem loByte_wordOf (a b : Byte) : loByte (wordOf a b) = a := by
  apply BitVec.eq_of_getLsbD_eq
  intro i h
  simp [loByte, getLsbD_wordOf, h]

@[simp] theorem hiByte_wordOf (a b : Byte) : hiByte (wordOf a b) = b := by
  apply BitVec.eq_of_getLsbD_eq
  intro i h
  simp [hiByte, getLsbD_wordOf, h]

@[simp] theorem wordOf_lo_hi (w : Word) : wordOf (loByte w) (hiByte w) = w := by
  apply BitVec.eq_of_getLsbD_eq
  intro i h
  rw [getLsbD_wordOf]
  split
  next h8 => simp [loByte, h8]
  next h8 => simp [hiByte, show i - 8 < 8 by omega, show 8 + (i - 8) = i by omega]

@[simp] theorem reg8_setReg8 (s : State) (r : Reg8) (v : Byte) : (s.setReg8 r v).reg8 r = v := by
  cases r <;> simp [State.reg8, State.setReg8, isHigh, wholeOf]

theorem reg8_setReg8_ne (s : State) {r q : Reg8} (v : Byte) (h : q ≠ r) : (s.setReg8 r v).reg8 q = s.reg8 q := by
  cases r <;> cases q <;>
    first
    | exact absurd rfl h
    | rfl
    | simp [State.reg8, State.setReg8, isHigh, wholeOf]

@[simp] theorem seg_setSeg (s : State) (r : SReg) (g : SegReg) : (s.setSeg r g).seg r = g := by cases r <;> rfl

theorem seg_setSeg_ne (s : State) {r q : SReg} (g : SegReg) (h : q ≠ r) : (s.setSeg r g).seg q = s.seg q := by
  cases r <;> cases q <;> first | rfl | exact absurd rfl h

end Sys2Proof.Machine
end

