-- ==== Sys2Proof/Laws/Memory.lean ====
section
/-! SUPPORT. Reading what was written, writing elsewhere, and the canonical form of memory (20_memory.md R80, R85). -/

namespace Sys2Proof.Machine

theorem memRead_memErase (m : Memory) (a b : Nat) :
    memRead (memErase m a) b = if b = a then 0 else memRead m b := by
  induction m with
  | nil => simp [memErase, memRead]
  | cons c rest ih =>
    obtain ⟨k, v⟩ := c
    by_cases hk : k = a <;> by_cases hb : k = b <;> by_cases ha : b = a <;> simp_all [memErase, memRead]

theorem memRead_memInsert (m : Memory) (a b : Nat) (v : Byte) :
    memRead (memInsert m a v) b = if b = a then v else memRead m b := by
  induction m with
  | nil => simp [memInsert, memRead, eq_comm]
  | cons c rest ih =>
    obtain ⟨k, w⟩ := c
    simp only [memInsert]
    split
    · simp [memRead, eq_comm]
    · split
      next h =>
        subst h
        by_cases hb : b = a
        · simp [memRead, hb]
        · simp [memRead, hb, Ne.symm hb]
      next h =>
        simp only [memRead, ih]
        by_cases hb : k = b
        · simp [hb, show b ≠ a from fun hba => h (hba ▸ hb).symm]
        · simp [hb]

/-- A write is read back, and every other address reads as before. -/
theorem memRead_memWrite (m : Memory) (a b : Nat) (v : Byte) :
    memRead (memWrite m a v) b = if b = a then v else memRead m b := by
  unfold memWrite
  split
  next h => rw [memRead_memErase, h]
  next h => exact memRead_memInsert m a b v

@[simp] theorem write8_physByte_same (s : State) (a : Nat) (v : Byte) :
    (s.write8 a v).physByte (physAddr s.msw.pe a) = v := by
  simp [State.write8, State.physByte, Config.region, memRead_memWrite]

theorem write8_physByte (s : State) (a : Nat) (v : Byte) (p : Nat) :
    (s.write8 a v).physByte p = if p = physAddr s.msw.pe a then v else s.physByte p := by
  simp [State.write8, State.physByte, Config.region, memRead_memWrite]

theorem write8_physByte_ne (s : State) (a : Nat) (v : Byte) {p : Nat} (h : p ≠ physAddr s.msw.pe a) :
    (s.write8 a v).physByte p = s.physByte p := by
  simp [write8_physByte, h]

theorem write16_physByte_ne (s : State) (a : Nat) (v : Word) {p : Nat} (h0 : p ≠ physAddr s.msw.pe a)
    (h1 : p ≠ physAddr s.msw.pe (a + 1)) : (s.write16 a v).physByte p = s.physByte p := by
  simp [State.write16, write8_physByte, h0, h1]

/-- With address bit 20 passed, the physical address is the sum modulo 2^24 (20_memory.md R82). -/
theorem physAddr_eq (pe : Bool) (a : Nat) : physAddr pe a = a % 2 ^ 24 := by
  simp [physAddr, Config.a20Passed]

theorem physAddr_lt (pe : Bool) (a : Nat) : physAddr pe a < 2 ^ 24 := by
  rw [physAddr_eq]; exact Nat.mod_lt _ (by norm_num)

theorem physAddr_succ_ne (pe : Bool) (a : Nat) : physAddr pe a ≠ physAddr pe (a + 1) := by
  simp only [physAddr_eq]; omega

/-- A word written is read back (20_memory.md R85). -/
@[simp] theorem read16_write16 (s : State) (a : Nat) (v : Word) : (s.write16 a v).read16 a = v := by
  simp [State.read16, State.read8, State.write16, write8_physByte, physAddr_succ_ne]

/-- A list whose addresses rise from above `a`. -/
theorem risingFrom_mono {m : Memory} {a b : Nat} (hab : a ≤ b) (h : risingFrom b m = true) : risingFrom a m = true := by
  cases m with
  | nil => rfl
  | cons c rest =>
    obtain ⟨k, v⟩ := c
    simp only [risingFrom, Bool.and_eq_true, decide_eq_true_eq] at h ⊢
    exact ⟨by omega, h.2⟩

theorem risingFrom_memErase {m : Memory} {a : Nat} (b : Nat) (h : risingFrom a m = true) :
    risingFrom a (memErase m b) = true := by
  induction m generalizing a with
  | nil => rfl
  | cons c rest ih =>
    obtain ⟨k, v⟩ := c
    simp only [risingFrom, Bool.and_eq_true, decide_eq_true_eq] at h
    simp only [memErase]
    split
    · exact ih (risingFrom_mono (Nat.le_of_lt h.1) h.2)
    · simp only [risingFrom, Bool.and_eq_true, decide_eq_true_eq]
      exact ⟨h.1, ih h.2⟩

theorem risingFrom_memInsert {m : Memory} {a b : Nat} (v : Byte) (hab : a < b) (h : risingFrom a m = true) :
    risingFrom a (memInsert m b v) = true := by
  induction m generalizing a with
  | nil => simp [memInsert, risingFrom, hab]
  | cons c rest ih =>
    obtain ⟨k, w⟩ := c
    simp only [risingFrom, Bool.and_eq_true, decide_eq_true_eq] at h
    simp only [memInsert]
    split
    next hk => simp [risingFrom, hab, hk, h.2]
    next hk =>
      split
      next hb => subst hb; simp [risingFrom, hab, h.2]
      next hb =>
        simp only [risingFrom, Bool.and_eq_true, decide_eq_true_eq]
        exact ⟨h.1, ih (by omega) h.2⟩

/-- The canonical form, with the rise of addresses said from below the first. -/
theorem wf_iff (m : Memory) : Memory.wf m = true ↔
    (m = [] ∨ ∃ k v rest, m = (k, v) :: rest ∧ risingFrom k rest = true) ∧
      ∀ c ∈ m, c.1 < 2 ^ 24 ∧ c.2 ≠ 0 := by
  cases m with
  | nil => simp [Memory.wf]
  | cons c rest =>
    obtain ⟨k, v⟩ := c
    simp only [Memory.wf, Bool.and_eq_true, List.all_eq_true, decide_eq_true_eq]
    constructor
    · rintro ⟨h1, h2⟩; exact ⟨.inr ⟨k, v, rest, rfl, h1⟩, h2⟩
    · rintro ⟨h1, h2⟩
      refine ⟨?_, h2⟩
      rcases h1 with h1 | ⟨k', v', rest', h, h1⟩
      · cases h1
      · cases h; exact h1

theorem mem_memErase {m : Memory} {a : Nat} {c : Host.Cell} (h : c ∈ memErase m a) : c ∈ m := by
  induction m with
  | nil => exact h
  | cons d rest ih =>
    obtain ⟨k, v⟩ := d
    simp only [memErase] at h
    split at h
    · exact List.mem_cons_of_mem _ (ih h)
    · rcases List.mem_cons.1 h with h | h
      · exact h ▸ List.mem_cons_self
      · exact List.mem_cons_of_mem _ (ih h)

theorem mem_memInsert {m : Memory} {a : Nat} {v : Byte} {c : Host.Cell} (h : c ∈ memInsert m a v) :
    c = (a, v) ∨ c ∈ m := by
  induction m with
  | nil => simpa [memInsert] using h
  | cons d rest ih =>
    obtain ⟨k, w⟩ := d
    simp only [memInsert] at h
    split at h
    · simpa using h
    · split at h
      · rcases List.mem_cons.1 h with h | h
        · exact .inl h
        · exact .inr (List.mem_cons_of_mem _ h)
      · rcases List.mem_cons.1 h with h | h
        · exact .inr (h ▸ List.mem_cons_self)
        · exact (ih h).imp id (List.mem_cons_of_mem _)

theorem wf_memErase {m : Memory} (a : Nat) (h : Memory.wf m = true) : Memory.wf (memErase m a) = true := by
  obtain ⟨h1, h2⟩ := (wf_iff m).1 h
  refine (wf_iff _).2 ⟨?_, fun c hc => h2 c (mem_memErase hc)⟩
  rcases h1 with rfl | ⟨k, v, rest, rfl, hr⟩
  · exact .inl rfl
  · have hm := risingFrom_memErase a hr
    simp only [memErase]
    split
    · cases he : memErase rest a with
      | nil => exact .inl rfl
      | cons c l =>
        rw [he] at hm
        simp only [risingFrom, Bool.and_eq_true] at hm
        exact .inr ⟨c.1, c.2, l, rfl, hm.2⟩
    · exact .inr ⟨k, v, _, rfl, hm⟩

theorem wf_memInsert {m : Memory} {a : Nat} {v : Byte} (ha : a < 2 ^ 24) (hv : v ≠ 0) (h : Memory.wf m = true) :
    Memory.wf (memInsert m a v) = true := by
  obtain ⟨h1, h2⟩ := (wf_iff m).1 h
  refine (wf_iff _).2 ⟨?_, fun c hc => ?_⟩
  · rcases h1 with rfl | ⟨k, w, rest, rfl, hr⟩
    · exact .inr ⟨a, v, [], rfl, rfl⟩
    · simp only [memInsert]
      split
      next hk => exact .inr ⟨a, v, _, rfl, by simp [risingFrom, hk, hr]⟩
      next hk =>
        split
        next hb => subst hb; exact .inr ⟨a, v, _, rfl, hr⟩
        next hb => exact .inr ⟨k, w, _, rfl, risingFrom_memInsert v (by omega) hr⟩
  · rcases mem_memInsert hc with rfl | hc
    · exact ⟨ha, hv⟩
    · exact h2 c hc

/-- A write keeps the canonical form. -/
theorem wf_memWrite {m : Memory} {a : Nat} (v : Byte) (ha : a < 2 ^ 24) (h : Memory.wf m = true) :
    Memory.wf (memWrite m a v) = true := by
  unfold memWrite
  split
  · exact wf_memErase a h
  · exact wf_memInsert ha (by assumption) h

theorem wf_write8 {s : State} (a : Nat) (v : Byte) (h : Memory.wf s.mem = true) :
    Memory.wf (s.write8 a v).mem = true :=
  wf_memWrite v (physAddr_lt _ _) h

theorem wf_write16 {s : State} (a : Nat) (v : Word) (h : Memory.wf s.mem = true) :
    Memory.wf (s.write16 a v).mem = true :=
  wf_write8 _ _ (wf_write8 _ _ h)

theorem wf_markAccessed {s : State} (d : Desc) (h : Memory.wf s.mem = true) :
    Memory.wf (s.markAccessed d).mem = true := by
  unfold State.markAccessed
  split
  · exact h
  · exact wf_write8 _ _ h

theorem wf_markBusy {s : State} (d : Desc) (h : Memory.wf s.mem = true) : Memory.wf (s.markBusy d).mem = true := wf_write8 _ _ h

/-- The Accessed bit is set in the byte as it stands, and no other byte changes (20_memory.md R97). -/
theorem markAccessed_physByte (s : State) (d : Desc) (p : Nat) :
    (s.markAccessed d).physByte p =
      if p = physAddr s.msw.pe (d.addr + 5) then s.physByte p ||| 1 else s.physByte p := by
  unfold State.markAccessed
  split
  case isTrue h =>
    split
    case isTrue hp =>
      subst hp
      refine BitVec.eq_of_getLsbD_eq fun i hi => ?_
      have h0 : (s.physByte (physAddr s.msw.pe (d.addr + 5))).getLsbD 0 = true := h
      rw [BitVec.getLsbD_or]
      rcases i with _ | i
      · simp [h0]
      · simp
    case isFalse => rfl
  case isFalse =>
    rw [write8_physByte]
    split
    case isTrue hp => rw [hp]; rfl
    case isFalse => rfl

theorem wf_saveTask {s : State} (a : Nat) (ip : Word) (f : Flags) (h : Memory.wf s.mem = true) :
    Memory.wf (s.saveTask a ip f).mem = true := by
  unfold State.saveTask
  simp only []
  repeat' apply wf_write16
  exact h

theorem wf_storeBytes {s : State} (a : Nat) (bs : List Byte) (h : Memory.wf s.mem = true) :
    Memory.wf (s.storeBytes a bs).mem = true := by
  induction bs generalizing s a with
  | nil => exact h
  | cons b bs ih => exact ih _ (wf_write8 _ _ h)

/-- Nothing is listed after reset. -/
theorem wf_reset : Memory.wf State.reset.mem = true := rfl

/-- RESET keeps memory (70_reset_and_hazards.md R480). -/
theorem wf_doReset {s : State} (h : Memory.wf s.mem = true) : Memory.wf s.doReset.mem = true := h

end Sys2Proof.Machine
end

