-- ==== Sys2Proof/Laws/Ops.lean ====
section
/-! SUPPORT. One lemma per shared operation that says once all it can do: what it answers and under which conditions. Proofs
cite these instead of unfolding the operation. -/

namespace Sys2Proof.Machine

/-- A sequence answers exactly when its parts do. -/
theorem bind_ok {α β : Type} {m : Res α} {f : α → Res β} {b : β} :
    (m >>= f) = .ok b ↔ ∃ a, m = .ok a ∧ f a = .ok b := by
  cases m with
  | ok a => exact ⟨fun h => ⟨a, rfl, h⟩, fun ⟨_, ha, h⟩ => by cases ha; exact h⟩
  | error e => exact ⟨fun h => (nomatch h), fun ⟨_, ha, _⟩ => (nomatch ha)⟩

theorem pure_ok {α : Type} {a b : α} : (pure a : Res α) = .ok b ↔ a = b :=
  ⟨fun h => Except.ok.inj h, fun h => congrArg Except.ok h⟩

theorem map_ok {α β : Type} {m : Res α} {f : α → β} {b : β} : (f <$> m) = .ok b ↔ ∃ a, m = .ok a ∧ f a = b := by
  cases m with
  | ok a => exact ⟨fun h => ⟨a, rfl, Except.ok.inj h⟩, fun ⟨_, ha, h⟩ => by cases ha; exact congrArg Except.ok h⟩
  | error e => exact ⟨fun h => (nomatch h), fun ⟨_, ha, _⟩ => (nomatch ha)⟩

/-- A check answers the one value of its type. -/
theorem exists_unit {p : Unit → Prop} : (∃ u, p u) ↔ p () := ⟨fun ⟨(), h⟩ => h, fun h => ⟨(), h⟩⟩

theorem raise_ok {α : Type} {e : Exc} {a : α} : (raise e : Res α) = .ok a ↔ False :=
  ⟨fun h => (nomatch h), False.elim⟩

theorem require_ok {b : Bool} {e : Exc} {u : Unit} : require b e = .ok u ↔ b = true := by
  cases b <;> simp [require, raise]

@[simp] theorem require_true {e : Exc} : require true e = .ok () := rfl

theorem require_error {b : Bool} {e : Exc} {r : Raise} :
    require b e = .error r ↔ b = false ∧ r = { exc := e, context := none } := by
  cases b <;> simp [require, raise, eq_comm]

theorem inContext_ok {α : Type} {t : State} {m : Res α} {a : α} : inContext t m = .ok a ↔ m = .ok a := by
  cases m <;> simp [inContext]

/-- An error in a context carries a state: its own or the context. -/
theorem inContext_error {α : Type} {t : State} {m : Res α} {r : Raise} :
    inContext t m = .error r ↔ ∃ q, m = .error q ∧ r = { q with context := some (q.context.getD t) } := by
  cases m <;> simp [inContext, eq_comm]

/-- The check of an access in Real Address Mode (20_memory.md R93). -/
theorem check_real {s : State} {r : SReg} {off n : Nat} {write : Bool} {code : Word} (h : s.msw.pe = false) :
    s.check r off n write code = .ok () ↔ off + n ≤ 0x10000 := by
  simp [State.check, h, require_ok]

/-- The check of an access in Protected Mode (20_memory.md R90 to R92). -/
theorem check_protected {s : State} {r : SReg} {off n : Nat} {write : Bool} {code : Word} (h : s.msw.pe = true) :
    s.check r off n write code = .ok () ↔
      (s.seg r).valid = true ∧
      (if write then r ≠ .cs ∧ arWritable (s.seg r).ar = true else arReadable (s.seg r).ar = true) ∧
      insideLimit (s.seg r) off n = true := by
  cases write <;> simp [State.check, h, bind_ok, require_ok]

theorem lread8_ok {s : State} {r : SReg} {off : Word} {v : Byte} :
    s.lread8 r off = .ok v ↔ s.check r off.toNat 1 false 0 = .ok () ∧ s.read8 (s.linear r off.toNat) = v := by
  simp only [State.lread8, bind_ok, pure_ok, exists_unit]

theorem lread16_ok {s : State} {r : SReg} {off : Word} {v : Word} :
    s.lread16 r off = .ok v ↔ s.check r off.toNat 2 false 0 = .ok () ∧ s.read16 (s.linear r off.toNat) = v := by
  simp only [State.lread16, bind_ok, pure_ok, exists_unit]

theorem lwrite8_ok {s t : State} {r : SReg} {off : Word} {v : Byte} :
    s.lwrite8 r off v = .ok t ↔ s.check r off.toNat 1 true 0 = .ok () ∧ s.write8 (s.linear r off.toNat) v = t := by
  simp only [State.lwrite8, bind_ok, pure_ok, exists_unit]

theorem lwrite16_ok {s t : State} {r : SReg} {off : Word} {v : Word} :
    s.lwrite16 r off v = .ok t ↔ s.check r off.toNat 2 true 0 = .ok () ∧ s.write16 (s.linear r off.toNat) v = t := by
  simp only [State.lwrite16, bind_ok, pure_ok, exists_unit]

theorem push_ok {s t : State} {code v : Word} :
    s.push code v = .ok t ↔ s.check .ss (s.regs.sp - 2).toNat 2 true code = .ok () ∧
      { s.write16 (s.linear .ss (s.regs.sp - 2).toNat) v with regs := { s.regs with sp := s.regs.sp - 2 } } = t := by
  simp only [State.push, bind_ok, pure_ok, exists_unit]

/-- Pushes change memory and SP alone. -/
theorem pushAll_ok {s t : State} {code : Word} {vs : List Word} (h : s.pushAll code vs = .ok t) :
    t = { s with mem := t.mem, regs := { s.regs with sp := s.regs.sp - BitVec.ofNat 16 (2 * vs.length) } } := by
  induction vs generalizing s with
  | nil => cases h; simp
  | cons v vs ih =>
    simp only [State.pushAll] at h
    split at h
    next u hu =>
      obtain ⟨_, rfl⟩ := push_ok.1 hu
      rw [ih h]
      simp only [List.length_cons, write16_ip, write16_ipNext, write16_flags, write16_cs, write16_ds, write16_es, write16_ss,
        write16_msw, write16_gdtr, write16_idtr, write16_ldtr, write16_tr, write16_cpl, write16_halted, write16_shutdown,
        write16_shadow, write16_trapPending, write16_nmiPending, write16_nmiInService, write16_pins, write16_pfx,
        write16_again, write16_portTrace, write16_deviceTrace, write16_queueEmpty, write16_stale, write16_clock]
      congr 2
      rw [show 2 * (vs.length + 1) = 2 + 2 * vs.length by ring, BitVec.ofNat_add, BitVec.sub_sub]
      rfl
    next => cases h

theorem pop_ok {s t : State} {v : Word} :
    s.pop = .ok (v, t) ↔ s.lread16 .ss s.regs.sp = .ok v ∧ { s with regs := { s.regs with sp := s.regs.sp + 2 } } = t := by
  simp [State.pop, map_ok, Prod.ext_iff]

theorem jumpNear_ok {s t : State} {target : Word} :
    s.jumpNear target = .ok t ↔ target.toNat ≤ s.codeLimit ∧ { s with ip := target, queueEmpty := true } = t := by
  simp only [State.jumpNear, bind_ok, pure_ok, require_ok, exists_unit, decide_eq_true_eq]

theorem fetchOr_ok {s : State} {sel : Word} {e : Exc} {d : Desc} :
    s.fetchOr sel e = .ok d ↔ s.fetchDesc sel = some d := by
  unfold State.fetchOr
  split <;> simp_all [raise]

/-- The checks of a load of DS or ES (20_memory.md R95). -/
theorem checkDataDesc_ok {cpl : Level} {sel : Word} {d : Desc} {bad absent : Exc} {u : Unit} :
    checkDataDesc cpl sel d bad absent = .ok u ↔
      arSegment d.ar = true ∧ arReadable d.ar = true ∧
        (arConforming d.ar = true ∨ lvlMax cpl (selRpl sel) ≤ arDpl d.ar) ∧ arPresent d.ar = true := by
  simp only [checkDataDesc, bind_ok, require_ok, exists_unit, Bool.or_eq_true, decide_eq_true_eq]

/-- `LoadDataSeg` (20_memory.md R95): a null selector makes the register invalid, any other must pass the checks. -/
theorem loadDataSeg_ok {s t : State} {r : SReg} {sel : Word} :
    s.loadDataSeg r sel = .ok t ↔
      (selNull sel = true ∧ t = s.setSeg r { s.seg r with sel := sel, valid := false }) ∨
      (selNull sel = false ∧ ∃ d, s.fetchDesc sel = some d ∧ arSegment d.ar = true ∧ arReadable d.ar = true ∧
        (arConforming d.ar = true ∨ lvlMax s.cpl (selRpl sel) ≤ arDpl d.ar) ∧ arPresent d.ar = true ∧
        t = (s.markAccessed d).setSeg r (d.toSeg sel)) := by
  unfold State.loadDataSeg
  cases hn : selNull sel
  · simp only [Bool.false_eq_true, if_false, bind_ok, fetchOr_ok, checkDataDesc_ok, pure_ok, exists_unit, false_and, false_or,
      true_and, and_assoc, eq_comm (a := t)]
  · simp only [if_true, true_and, Bool.true_eq_false, false_and, or_false, eq_comm (a := t)]
    exact ⟨Except.ok.inj, congrArg _⟩

/-- `LoadSS` (20_memory.md R96). -/
theorem loadSs_ok {s t : State} {sel : Word} :
    s.loadSs sel = .ok t ↔
      selNull sel = false ∧ ∃ d, s.fetchDesc sel = some d ∧ selRpl sel = s.cpl ∧ arWritable d.ar = true ∧
        arDpl d.ar = s.cpl ∧ arPresent d.ar = true ∧ t = (s.markAccessed d).setSeg .ss (d.toSeg sel) := by
  simp only [State.loadSs, bind_ok, fetchOr_ok, require_ok, pure_ok, exists_unit, Bool.not_eq_true', decide_eq_true_eq,
    eq_comm (a := t)]

/-- The checks of a selector that a task gate or a back link holds (44_control_transfer.md R321; 60_exceptions.md R446, R448). -/
theorem tssDesc_ok {s : State} {sel : Word} {type : BitVec 4} {bad absent : Exc} {d : Desc} :
    s.tssDesc sel type bad absent = .ok d ↔
      selNull sel = false ∧ selLocal sel = false ∧ s.fetchDesc sel = some d ∧ arControl d.ar type = true ∧
        arPresent d.ar = true := by
  simp only [State.tssDesc, bind_ok, fetchOr_ok, require_ok, pure_ok, exists_unit, Bool.not_eq_true']
  constructor
  · rintro ⟨hn, hl, d', hd, hc, hp, rfl⟩
    exact ⟨hn, hl, hd, hc, hp⟩
  · rintro ⟨hn, hl, hd, hc, hp⟩
    exact ⟨hn, hl, d, hd, hc, hp, rfl⟩

theorem readRm8_ok {s : State} {rm : RM8} {v : Byte} :
    s.readRm8 rm = .ok v ↔
      match rm with
      | .reg r => s.reg8 r = v
      | .mem m => s.lread8 (s.segOf m) (s.ea m) = .ok v := by
  cases rm <;> simp [State.readRm8]

theorem readRm16_ok {s : State} {rm : RM16} {v : Word} :
    s.readRm16 rm = .ok v ↔
      match rm with
      | .reg r => s.reg16 r = v
      | .mem m => s.lread16 (s.segOf m) (s.ea m) = .ok v := by
  cases rm <;> simp [State.readRm16]

theorem writeRm8_ok {s t : State} {rm : RM8} {v : Byte} :
    s.writeRm8 rm v = .ok t ↔
      match rm with
      | .reg r => s.setReg8 r v = t
      | .mem m => s.lwrite8 (s.segOf m) (s.ea m) v = .ok t := by
  cases rm <;> simp [State.writeRm8]

theorem writeRm16_ok {s t : State} {rm : RM16} {v : Word} :
    s.writeRm16 rm v = .ok t ↔
      match rm with
      | .reg r => s.setReg16 r v = t
      | .mem m => s.lwrite16 (s.segOf m) (s.ea m) v = .ok t := by
  cases rm <;> simp [State.writeRm16]

theorem updRm8_ok {s t : State} {rm : RM8} {op : Byte → Byte × Flags} :
    s.updRm8 rm op = .ok t ↔ ∃ a u, s.readRm8 rm = .ok a ∧ s.writeRm8 rm (op a).1 = .ok u ∧ { u with flags := (op a).2 } = t := by
  simp only [State.updRm8, bind_ok, pure_ok]
  exact ⟨fun ⟨a, h1, u, h2, h3⟩ => ⟨a, u, h1, h2, h3⟩, fun ⟨a, u, h1, h2, h3⟩ => ⟨a, h1, u, h2, h3⟩⟩

theorem updRm16_ok {s t : State} {rm : RM16} {op : Word → Word × Flags} :
    s.updRm16 rm op = .ok t ↔
      ∃ a u, s.readRm16 rm = .ok a ∧ s.writeRm16 rm (op a).1 = .ok u ∧ { u with flags := (op a).2 } = t := by
  simp only [State.updRm16, bind_ok, pure_ok]
  exact ⟨fun ⟨a, h1, u, h2, h3⟩ => ⟨a, u, h1, h2, h3⟩, fun ⟨a, u, h1, h2, h3⟩ => ⟨a, h1, u, h2, h3⟩⟩

theorem flagsRm8_ok {s t : State} {rm : RM8} {op : Byte → Byte × Flags} :
    s.flagsRm8 rm op = .ok t ↔ ∃ a, s.readRm8 rm = .ok a ∧ { s with flags := (op a).2 } = t := by
  simp only [State.flagsRm8, bind_ok, pure_ok]

theorem flagsRm16_ok {s t : State} {rm : RM16} {op : Word → Word × Flags} :
    s.flagsRm16 rm op = .ok t ↔ ∃ a, s.readRm16 rm = .ok a ∧ { s with flags := (op a).2 } = t := by
  simp only [State.flagsRm16, bind_ok, pure_ok]

theorem readPointer_ok {s : State} {m : Mem} {p : Word × Word} :
    s.readPointer m = .ok p ↔ s.check (s.segOf m) (s.ea m).toNat 4 false 0 = .ok () ∧
      (s.read16 (s.linear (s.segOf m) (s.ea m).toNat), s.read16 (s.linear (s.segOf m) ((s.ea m).toNat + 2))) = p := by
  simp only [State.readPointer, bind_ok, pure_ok, exists_unit]

/-- A meaning ends with the completed state, or with its exception taken. -/
theorem settle_next {s t : State} {m : Res State} :
    settle s m = .next t ↔ (∃ u, m = .ok u ∧ s.completed u = t) ∨ (∃ r, m = .error r ∧ s.begin.deliver r = t) := by
  cases m <;> simp [settle]

/-- `transfer` refuses a repeat prefix and else settles. -/
theorem transfer_next {s t : State} {f : State → Res State} :
    transfer s f = .next t ↔ s.pfx.rep = none ∧ settle s (f s.begin) = .next t := by
  cases h : s.pfx.rep <;> simp [transfer, h]

theorem transfer_ok {s u : State} {f : State → Res State} (hp : s.pfx.rep = none) (h : f s.begin = .ok u) :
    transfer s f = .next (s.completed u) := by
  simp [transfer, hp, h, settle]

theorem transfer_error {s : State} {r : Raise} {f : State → Res State} (hp : s.pfx.rep = none)
    (h : f s.begin = .error r) : transfer s f = .next (s.begin.deliver r) := by
  simp [transfer, hp, h, settle]

/-- An instruction that completes goes on at `ip_next` (40_data_transfer.md R160). -/
theorem plain_ok {s u : State} {f : State → Res State} (hp : s.pfx.rep = none) (h : f s.begin = .ok u) :
    plain s f = .next (s.completed u.advance) :=
  transfer_ok hp (bind_ok.2 ⟨u, h, rfl⟩)

theorem plain_error {s : State} {r : Raise} {f : State → Res State} (hp : s.pfx.rep = none)
    (h : f s.begin = .error r) : plain s f = .next (s.begin.deliver r) :=
  transfer_error hp (by rw [h]; rfl)

/-- All that `plain` can answer. -/
theorem plain_next {s t : State} {f : State → Res State} :
    plain s f = .next t ↔ s.pfx.rep = none ∧
      ((∃ u, f s.begin = .ok u ∧ s.completed u.advance = t) ∨ (∃ r, f s.begin = .error r ∧ s.begin.deliver r = t)) := by
  rw [plain, transfer_next, settle_next]
  refine and_congr_right fun _ => or_congr ?_ ?_
  · cases f s.begin <;> simp [bind, Except.bind, pure, Except.pure]
  · cases f s.begin <;> simp [bind, Except.bind, pure, Except.pure]

/-- One string instruction without a repeat prefix (43_string.md R278). -/
theorem stringInstr_single {s u : State} {op : StringOp} {f : State → Res State} (hp : s.pfx.rep = none)
    (h : f s.begin = .ok u) : stringInstr s op f = .next (s.completed u.advance) := by
  simp only [stringInstr, hp]
  exact plain_ok hp h

theorem stringInstr_error {s : State} {r : Raise} {op : StringOp} {f : State → Res State} (hp : s.pfx.rep = none)
    (h : f s.begin = .error r) : stringInstr s op f = .next (s.begin.deliver r) := by
  simp only [stringInstr, hp]
  exact plain_error hp h

/-- A turn of the loop: nothing with CX = 0, else one element (43_string.md R278). -/
theorem repeatTurn_ok {s t : State} {op : StringOp} {p : Rep} {f : State → Res State} :
    repeatTurn s op p f = .ok t ↔
      (s.regs.cx = 0 ∧ s.completed s.begin.advance = t) ∨
      (s.regs.cx ≠ 0 ∧ ∃ u, f s.begin = .ok u ∧ ∀ v, v = { u with regs := { u.regs with cx := u.regs.cx - 1 } } →
        (if repeatDone p op.compares v then s.completed v.advance else s.between v op) = t) := by
  by_cases h : s.regs.cx = 0
  · rw [repeatTurn, if_pos h]
    exact ⟨fun e => .inl ⟨h, Except.ok.inj e⟩, fun e => e.elim (fun e => congrArg _ e.2) fun e => absurd h e.1⟩
  · rw [repeatTurn, if_neg h, bind_ok]
    simp only [pure_ok, ne_eq, h, false_and, false_or, not_false_eq_true, true_and, forall_eq]

/-- A repeated string instruction: all it can answer under a repeat prefix that it takes (43_string.md R278, R279). -/
theorem stringInstr_repeated {s t : State} {op : StringOp} {p : Rep} {f : State → Res State} (hp : s.pfx.rep = some p)
    (hc : p = .rep ∨ op.compares = true) :
    stringInstr s op f = .next t ↔
      repeatTurn s op p f = .ok t ∨ ∃ r, repeatTurn s op p f = .error r ∧ s.begin.deliver r = t := by
  have h : (decide (p = .repne) && !op.compares) = false := by
    rcases hc with rfl | h
    · rfl
    · simp [h]
  simp only [stringInstr, hp, h, Bool.false_eq_true, if_false]
  cases repeatTurn s op p f <;> simp

/-- What holds of a state and is kept by every entry and by shutdown is kept by taking an exception (60_exceptions.md R435,
R436). -/
theorem deliver_keeps (P : State → Prop) (hok : ∀ s e t, P s → s.enterExc e = .ok t → P t)
    (herr : ∀ s e r, P s → s.enterExc e = .error r → P (r.context.getD s)) (hsd : ∀ s, P s → P s.shutDown)
    {s : State} {r : Raise} (h : P (r.context.getD s)) : P (s.deliver r) := by
  have hdf : ∀ s, P s → P s.doubleFault := by
    intro s hs
    unfold State.doubleFault
    split
    next t ht => exact hok _ _ _ hs ht
    next q hq => exact hsd _ (herr _ _ _ hs hq)
  unfold State.deliver
  simp only []
  split
  · exact hdf _ h
  · split
    next t ht => exact hok _ _ _ h ht
    next q hq =>
      have hc := herr _ _ _ h hq
      split
      · exact hdf _ hc
      · unfold State.deliverSecond
        split
        next t ht => exact hok _ _ _ hc ht
        next q2 hq2 => exact hdf _ (herr _ _ _ hc hq2)

theorem wf_lwrite8 {s t : State} {r : SReg} {off : Word} {v : Byte} (h : Memory.wf s.mem = true)
    (hw : s.lwrite8 r off v = .ok t) : Memory.wf t.mem = true := by
  obtain ⟨_, rfl⟩ := lwrite8_ok.1 hw
  exact wf_write8 _ _ h

theorem wf_lwrite16 {s t : State} {r : SReg} {off : Word} {v : Word} (h : Memory.wf s.mem = true)
    (hw : s.lwrite16 r off v = .ok t) : Memory.wf t.mem = true := by
  obtain ⟨_, rfl⟩ := lwrite16_ok.1 hw
  exact wf_write16 _ _ h

theorem wf_push {s t : State} {code v : Word} (h : Memory.wf s.mem = true) (hw : s.push code v = .ok t) :
    Memory.wf t.mem = true := by
  obtain ⟨_, rfl⟩ := push_ok.1 hw
  exact wf_write16 _ _ h

theorem wf_pushAll {s t : State} {code : Word} {vs : List Word} (h : Memory.wf s.mem = true)
    (hw : s.pushAll code vs = .ok t) : Memory.wf t.mem = true := by
  induction vs generalizing s with
  | nil => cases hw; exact h
  | cons v vs ih =>
    simp only [State.pushAll] at hw
    split at hw
    next u hu => exact ih (wf_push h hu) hw
    next => cases hw

end Sys2Proof.Machine
end

