-- ==== Sys2Proof/Laws/PerInstr.lean ====
section
/-! SUPPORT. What is said of every instruction as syntax, one lemma per constructor: its own bytes are 1 to 6, so that with
prefix bytes it can stay inside the 10 bytes of 30_encoding.md R121. -/

namespace Sys2Proof

theorem Mem.bytes_length (m : Mem) (g : BitVec 3) : 1 ≤ (m.bytes g).length ∧ (m.bytes g).length ≤ 3 := by
  cases m <;> simp [Mem.bytes]

theorem RM8.bytes_length (rm : RM8) (g : BitVec 3) : 1 ≤ (rm.bytes g).length ∧ (rm.bytes g).length ≤ 3 := by
  cases rm with
  | reg r => simp [RM8.bytes]
  | mem m => exact m.bytes_length g

theorem RM16.bytes_length (rm : RM16) (g : BitVec 3) : 1 ≤ (rm.bytes g).length ∧ (rm.bytes g).length ≤ 3 := by
  cases rm with
  | reg r => simp [RM16.bytes]
  | mem m => exact m.bytes_length g

namespace Laws.EncodeLength

/-- The encoding of an instruction, prefixes not counted, is 1 to 6 bytes. -/
def Statement (i : Instr) : Prop := 1 ≤ (encode i).length ∧ (encode i).length ≤ 6

/-- One opcode byte and a ModRM operand. -/
theorem op_rm {a : Byte} {l : List Byte} (h : 1 ≤ l.length ∧ l.length ≤ 3) :
    1 ≤ (a :: l).length ∧ (a :: l).length ≤ 6 := by
  simp only [List.length_cons]; omega

/-- Two opcode bytes and a ModRM operand. -/
theorem op_op_rm {a b : Byte} {l : List Byte} (h : 1 ≤ l.length ∧ l.length ≤ 3) :
    1 ≤ (a :: b :: l).length ∧ (a :: b :: l).length ≤ 6 := by
  simp only [List.length_cons]; omega

/-- One opcode byte, a ModRM operand and a byte. -/
theorem op_rm_byte {a x : Byte} {l : List Byte} (h : 1 ≤ l.length ∧ l.length ≤ 3) :
    1 ≤ (a :: (l ++ [x])).length ∧ (a :: (l ++ [x])).length ≤ 6 := by
  simp only [List.length_cons, List.length_append, List.length_nil]; omega

/-- One opcode byte, a ModRM operand and a word. -/
theorem op_rm_word {a : Byte} {x : Word} {l : List Byte} (h : 1 ≤ l.length ∧ l.length ≤ 3) :
    1 ≤ (a :: (l ++ wordBytes x)).length ∧ (a :: (l ++ wordBytes x)).length ≤ 6 := by
  simp only [wordBytes, List.length_cons, List.length_append, List.length_nil]; omega

theorem addRm8R8 (rm : RM8) (r : Reg8) : Statement (.addRm8R8 rm r) := op_rm (rm.bytes_length _)

theorem addRm16R16 (rm : RM16) (r : Reg16) : Statement (.addRm16R16 rm r) := op_rm (rm.bytes_length _)

theorem addR8Rm8 (r : Reg8) (rm : RM8) : Statement (.addR8Rm8 r rm) := op_rm (rm.bytes_length _)

theorem addR16Rm16 (r : Reg16) (rm : RM16) : Statement (.addR16Rm16 r rm) := op_rm (rm.bytes_length _)

theorem addAlImm8 (imm : Byte) : Statement (.addAlImm8 imm) := ⟨Nat.le_of_ble_eq_true rfl, Nat.le_of_ble_eq_true rfl⟩

theorem addAxImm16 (imm : Word) : Statement (.addAxImm16 imm) := ⟨Nat.le_of_ble_eq_true rfl, Nat.le_of_ble_eq_true rfl⟩

theorem orRm8R8 (rm : RM8) (r : Reg8) : Statement (.orRm8R8 rm r) := op_rm (rm.bytes_length _)

theorem orRm16R16 (rm : RM16) (r : Reg16) : Statement (.orRm16R16 rm r) := op_rm (rm.bytes_length _)

theorem orR8Rm8 (r : Reg8) (rm : RM8) : Statement (.orR8Rm8 r rm) := op_rm (rm.bytes_length _)

theorem orR16Rm16 (r : Reg16) (rm : RM16) : Statement (.orR16Rm16 r rm) := op_rm (rm.bytes_length _)

theorem orAlImm8 (imm : Byte) : Statement (.orAlImm8 imm) := ⟨Nat.le_of_ble_eq_true rfl, Nat.le_of_ble_eq_true rfl⟩

theorem orAxImm16 (imm : Word) : Statement (.orAxImm16 imm) := ⟨Nat.le_of_ble_eq_true rfl, Nat.le_of_ble_eq_true rfl⟩

theorem adcRm8R8 (rm : RM8) (r : Reg8) : Statement (.adcRm8R8 rm r) := op_rm (rm.bytes_length _)

theorem adcRm16R16 (rm : RM16) (r : Reg16) : Statement (.adcRm16R16 rm r) := op_rm (rm.bytes_length _)

theorem adcR8Rm8 (r : Reg8) (rm : RM8) : Statement (.adcR8Rm8 r rm) := op_rm (rm.bytes_length _)

theorem adcR16Rm16 (r : Reg16) (rm : RM16) : Statement (.adcR16Rm16 r rm) := op_rm (rm.bytes_length _)

theorem adcAlImm8 (imm : Byte) : Statement (.adcAlImm8 imm) := ⟨Nat.le_of_ble_eq_true rfl, Nat.le_of_ble_eq_true rfl⟩

theorem adcAxImm16 (imm : Word) : Statement (.adcAxImm16 imm) := ⟨Nat.le_of_ble_eq_true rfl, Nat.le_of_ble_eq_true rfl⟩

theorem sbbRm8R8 (rm : RM8) (r : Reg8) : Statement (.sbbRm8R8 rm r) := op_rm (rm.bytes_length _)

theorem sbbRm16R16 (rm : RM16) (r : Reg16) : Statement (.sbbRm16R16 rm r) := op_rm (rm.bytes_length _)

theorem sbbR8Rm8 (r : Reg8) (rm : RM8) : Statement (.sbbR8Rm8 r rm) := op_rm (rm.bytes_length _)

theorem sbbR16Rm16 (r : Reg16) (rm : RM16) : Statement (.sbbR16Rm16 r rm) := op_rm (rm.bytes_length _)

theorem sbbAlImm8 (imm : Byte) : Statement (.sbbAlImm8 imm) := ⟨Nat.le_of_ble_eq_true rfl, Nat.le_of_ble_eq_true rfl⟩

theorem sbbAxImm16 (imm : Word) : Statement (.sbbAxImm16 imm) := ⟨Nat.le_of_ble_eq_true rfl, Nat.le_of_ble_eq_true rfl⟩

theorem andRm8R8 (rm : RM8) (r : Reg8) : Statement (.andRm8R8 rm r) := op_rm (rm.bytes_length _)

theorem andRm16R16 (rm : RM16) (r : Reg16) : Statement (.andRm16R16 rm r) := op_rm (rm.bytes_length _)

theorem andR8Rm8 (r : Reg8) (rm : RM8) : Statement (.andR8Rm8 r rm) := op_rm (rm.bytes_length _)

theorem andR16Rm16 (r : Reg16) (rm : RM16) : Statement (.andR16Rm16 r rm) := op_rm (rm.bytes_length _)

theorem andAlImm8 (imm : Byte) : Statement (.andAlImm8 imm) := ⟨Nat.le_of_ble_eq_true rfl, Nat.le_of_ble_eq_true rfl⟩

theorem andAxImm16 (imm : Word) : Statement (.andAxImm16 imm) := ⟨Nat.le_of_ble_eq_true rfl, Nat.le_of_ble_eq_true rfl⟩

theorem subRm8R8 (rm : RM8) (r : Reg8) : Statement (.subRm8R8 rm r) := op_rm (rm.bytes_length _)

theorem subRm16R16 (rm : RM16) (r : Reg16) : Statement (.subRm16R16 rm r) := op_rm (rm.bytes_length _)

theorem subR8Rm8 (r : Reg8) (rm : RM8) : Statement (.subR8Rm8 r rm) := op_rm (rm.bytes_length _)

theorem subR16Rm16 (r : Reg16) (rm : RM16) : Statement (.subR16Rm16 r rm) := op_rm (rm.bytes_length _)

theorem subAlImm8 (imm : Byte) : Statement (.subAlImm8 imm) := ⟨Nat.le_of_ble_eq_true rfl, Nat.le_of_ble_eq_true rfl⟩

theorem subAxImm16 (imm : Word) : Statement (.subAxImm16 imm) := ⟨Nat.le_of_ble_eq_true rfl, Nat.le_of_ble_eq_true rfl⟩

theorem xorRm8R8 (rm : RM8) (r : Reg8) : Statement (.xorRm8R8 rm r) := op_rm (rm.bytes_length _)

theorem xorRm16R16 (rm : RM16) (r : Reg16) : Statement (.xorRm16R16 rm r) := op_rm (rm.bytes_length _)

theorem xorR8Rm8 (r : Reg8) (rm : RM8) : Statement (.xorR8Rm8 r rm) := op_rm (rm.bytes_length _)

theorem xorR16Rm16 (r : Reg16) (rm : RM16) : Statement (.xorR16Rm16 r rm) := op_rm (rm.bytes_length _)

theorem xorAlImm8 (imm : Byte) : Statement (.xorAlImm8 imm) := ⟨Nat.le_of_ble_eq_true rfl, Nat.le_of_ble_eq_true rfl⟩

theorem xorAxImm16 (imm : Word) : Statement (.xorAxImm16 imm) := ⟨Nat.le_of_ble_eq_true rfl, Nat.le_of_ble_eq_true rfl⟩

theorem cmpRm8R8 (rm : RM8) (r : Reg8) : Statement (.cmpRm8R8 rm r) := op_rm (rm.bytes_length _)

theorem cmpRm16R16 (rm : RM16) (r : Reg16) : Statement (.cmpRm16R16 rm r) := op_rm (rm.bytes_length _)

theorem cmpR8Rm8 (r : Reg8) (rm : RM8) : Statement (.cmpR8Rm8 r rm) := op_rm (rm.bytes_length _)

theorem cmpR16Rm16 (r : Reg16) (rm : RM16) : Statement (.cmpR16Rm16 r rm) := op_rm (rm.bytes_length _)

theorem cmpAlImm8 (imm : Byte) : Statement (.cmpAlImm8 imm) := ⟨Nat.le_of_ble_eq_true rfl, Nat.le_of_ble_eq_true rfl⟩

theorem cmpAxImm16 (imm : Word) : Statement (.cmpAxImm16 imm) := ⟨Nat.le_of_ble_eq_true rfl, Nat.le_of_ble_eq_true rfl⟩

theorem incR16 (r : Reg16) : Statement (.incR16 r) := ⟨Nat.le_of_ble_eq_true rfl, Nat.le_of_ble_eq_true rfl⟩

theorem decR16 (r : Reg16) : Statement (.decR16 r) := ⟨Nat.le_of_ble_eq_true rfl, Nat.le_of_ble_eq_true rfl⟩

theorem pushR16 (r : Reg16) : Statement (.pushR16 r) := ⟨Nat.le_of_ble_eq_true rfl, Nat.le_of_ble_eq_true rfl⟩

theorem popR16 (r : Reg16) : Statement (.popR16 r) := ⟨Nat.le_of_ble_eq_true rfl, Nat.le_of_ble_eq_true rfl⟩

theorem bound (r : Reg16) (m : Mem) : Statement (.bound r m) := op_rm (m.bytes_length _)

theorem arpl (rm : RM16) (r : Reg16) : Statement (.arpl rm r) := op_rm (rm.bytes_length _)

theorem pushImm16 (imm : Word) : Statement (.pushImm16 imm) := ⟨Nat.le_of_ble_eq_true rfl, Nat.le_of_ble_eq_true rfl⟩

theorem imulR16Rm16Imm16 (r : Reg16) (rm : RM16) (imm : Word) : Statement (.imulR16Rm16Imm16 r rm imm) := op_rm_word (rm.bytes_length _)

theorem pushImm8 (imm : Byte) : Statement (.pushImm8 imm) := ⟨Nat.le_of_ble_eq_true rfl, Nat.le_of_ble_eq_true rfl⟩

theorem imulR16Rm16Imm8 (r : Reg16) (rm : RM16) (imm : Byte) : Statement (.imulR16Rm16Imm8 r rm imm) := op_rm_byte (rm.bytes_length _)

theorem jo (rel : Byte) : Statement (.jo rel) := ⟨Nat.le_of_ble_eq_true rfl, Nat.le_of_ble_eq_true rfl⟩

theorem jno (rel : Byte) : Statement (.jno rel) := ⟨Nat.le_of_ble_eq_true rfl, Nat.le_of_ble_eq_true rfl⟩

theorem jb (rel : Byte) : Statement (.jb rel) := ⟨Nat.le_of_ble_eq_true rfl, Nat.le_of_ble_eq_true rfl⟩

theorem jnb (rel : Byte) : Statement (.jnb rel) := ⟨Nat.le_of_ble_eq_true rfl, Nat.le_of_ble_eq_true rfl⟩

theorem je (rel : Byte) : Statement (.je rel) := ⟨Nat.le_of_ble_eq_true rfl, Nat.le_of_ble_eq_true rfl⟩

theorem jne (rel : Byte) : Statement (.jne rel) := ⟨Nat.le_of_ble_eq_true rfl, Nat.le_of_ble_eq_true rfl⟩

theorem jbe (rel : Byte) : Statement (.jbe rel) := ⟨Nat.le_of_ble_eq_true rfl, Nat.le_of_ble_eq_true rfl⟩

theorem jnbe (rel : Byte) : Statement (.jnbe rel) := ⟨Nat.le_of_ble_eq_true rfl, Nat.le_of_ble_eq_true rfl⟩

theorem js (rel : Byte) : Statement (.js rel) := ⟨Nat.le_of_ble_eq_true rfl, Nat.le_of_ble_eq_true rfl⟩

theorem jns (rel : Byte) : Statement (.jns rel) := ⟨Nat.le_of_ble_eq_true rfl, Nat.le_of_ble_eq_true rfl⟩

theorem jp (rel : Byte) : Statement (.jp rel) := ⟨Nat.le_of_ble_eq_true rfl, Nat.le_of_ble_eq_true rfl⟩

theorem jnp (rel : Byte) : Statement (.jnp rel) := ⟨Nat.le_of_ble_eq_true rfl, Nat.le_of_ble_eq_true rfl⟩

theorem jl (rel : Byte) : Statement (.jl rel) := ⟨Nat.le_of_ble_eq_true rfl, Nat.le_of_ble_eq_true rfl⟩

theorem jnl (rel : Byte) : Statement (.jnl rel) := ⟨Nat.le_of_ble_eq_true rfl, Nat.le_of_ble_eq_true rfl⟩

theorem jle (rel : Byte) : Statement (.jle rel) := ⟨Nat.le_of_ble_eq_true rfl, Nat.le_of_ble_eq_true rfl⟩

theorem jnle (rel : Byte) : Statement (.jnle rel) := ⟨Nat.le_of_ble_eq_true rfl, Nat.le_of_ble_eq_true rfl⟩

theorem addRm8Imm8 (rm : RM8) (imm : Byte) : Statement (.addRm8Imm8 rm imm) := op_rm_byte (rm.bytes_length _)

theorem orRm8Imm8 (rm : RM8) (imm : Byte) : Statement (.orRm8Imm8 rm imm) := op_rm_byte (rm.bytes_length _)

theorem adcRm8Imm8 (rm : RM8) (imm : Byte) : Statement (.adcRm8Imm8 rm imm) := op_rm_byte (rm.bytes_length _)

theorem sbbRm8Imm8 (rm : RM8) (imm : Byte) : Statement (.sbbRm8Imm8 rm imm) := op_rm_byte (rm.bytes_length _)

theorem andRm8Imm8 (rm : RM8) (imm : Byte) : Statement (.andRm8Imm8 rm imm) := op_rm_byte (rm.bytes_length _)

theorem subRm8Imm8 (rm : RM8) (imm : Byte) : Statement (.subRm8Imm8 rm imm) := op_rm_byte (rm.bytes_length _)

theorem xorRm8Imm8 (rm : RM8) (imm : Byte) : Statement (.xorRm8Imm8 rm imm) := op_rm_byte (rm.bytes_length _)

theorem cmpRm8Imm8 (rm : RM8) (imm : Byte) : Statement (.cmpRm8Imm8 rm imm) := op_rm_byte (rm.bytes_length _)

theorem addRm16Imm16 (rm : RM16) (imm : Word) : Statement (.addRm16Imm16 rm imm) := op_rm_word (rm.bytes_length _)

theorem orRm16Imm16 (rm : RM16) (imm : Word) : Statement (.orRm16Imm16 rm imm) := op_rm_word (rm.bytes_length _)

theorem adcRm16Imm16 (rm : RM16) (imm : Word) : Statement (.adcRm16Imm16 rm imm) := op_rm_word (rm.bytes_length _)

theorem sbbRm16Imm16 (rm : RM16) (imm : Word) : Statement (.sbbRm16Imm16 rm imm) := op_rm_word (rm.bytes_length _)

theorem andRm16Imm16 (rm : RM16) (imm : Word) : Statement (.andRm16Imm16 rm imm) := op_rm_word (rm.bytes_length _)

theorem subRm16Imm16 (rm : RM16) (imm : Word) : Statement (.subRm16Imm16 rm imm) := op_rm_word (rm.bytes_length _)

theorem xorRm16Imm16 (rm : RM16) (imm : Word) : Statement (.xorRm16Imm16 rm imm) := op_rm_word (rm.bytes_length _)

theorem cmpRm16Imm16 (rm : RM16) (imm : Word) : Statement (.cmpRm16Imm16 rm imm) := op_rm_word (rm.bytes_length _)

theorem addRm8Imm8Dup (rm : RM8) (imm : Byte) : Statement (.addRm8Imm8Dup rm imm) := op_rm_byte (rm.bytes_length _)

theorem orRm8Imm8Dup (rm : RM8) (imm : Byte) : Statement (.orRm8Imm8Dup rm imm) := op_rm_byte (rm.bytes_length _)

theorem adcRm8Imm8Dup (rm : RM8) (imm : Byte) : Statement (.adcRm8Imm8Dup rm imm) := op_rm_byte (rm.bytes_length _)

theorem sbbRm8Imm8Dup (rm : RM8) (imm : Byte) : Statement (.sbbRm8Imm8Dup rm imm) := op_rm_byte (rm.bytes_length _)

theorem andRm8Imm8Dup (rm : RM8) (imm : Byte) : Statement (.andRm8Imm8Dup rm imm) := op_rm_byte (rm.bytes_length _)

theorem subRm8Imm8Dup (rm : RM8) (imm : Byte) : Statement (.subRm8Imm8Dup rm imm) := op_rm_byte (rm.bytes_length _)

theorem xorRm8Imm8Dup (rm : RM8) (imm : Byte) : Statement (.xorRm8Imm8Dup rm imm) := op_rm_byte (rm.bytes_length _)

theorem cmpRm8Imm8Dup (rm : RM8) (imm : Byte) : Statement (.cmpRm8Imm8Dup rm imm) := op_rm_byte (rm.bytes_length _)

theorem addRm16Imm8 (rm : RM16) (imm : Byte) : Statement (.addRm16Imm8 rm imm) := op_rm_byte (rm.bytes_length _)

theorem orRm16Imm8 (rm : RM16) (imm : Byte) : Statement (.orRm16Imm8 rm imm) := op_rm_byte (rm.bytes_length _)

theorem adcRm16Imm8 (rm : RM16) (imm : Byte) : Statement (.adcRm16Imm8 rm imm) := op_rm_byte (rm.bytes_length _)

theorem sbbRm16Imm8 (rm : RM16) (imm : Byte) : Statement (.sbbRm16Imm8 rm imm) := op_rm_byte (rm.bytes_length _)

theorem andRm16Imm8 (rm : RM16) (imm : Byte) : Statement (.andRm16Imm8 rm imm) := op_rm_byte (rm.bytes_length _)

theorem subRm16Imm8 (rm : RM16) (imm : Byte) : Statement (.subRm16Imm8 rm imm) := op_rm_byte (rm.bytes_length _)

theorem xorRm16Imm8 (rm : RM16) (imm : Byte) : Statement (.xorRm16Imm8 rm imm) := op_rm_byte (rm.bytes_length _)

theorem cmpRm16Imm8 (rm : RM16) (imm : Byte) : Statement (.cmpRm16Imm8 rm imm) := op_rm_byte (rm.bytes_length _)

theorem testRm8R8 (rm : RM8) (r : Reg8) : Statement (.testRm8R8 rm r) := op_rm (rm.bytes_length _)

theorem testRm16R16 (rm : RM16) (r : Reg16) : Statement (.testRm16R16 rm r) := op_rm (rm.bytes_length _)

theorem xchgRm8R8 (rm : RM8) (r : Reg8) : Statement (.xchgRm8R8 rm r) := op_rm (rm.bytes_length _)

theorem xchgRm16R16 (rm : RM16) (r : Reg16) : Statement (.xchgRm16R16 rm r) := op_rm (rm.bytes_length _)

theorem movRm8R8 (rm : RM8) (r : Reg8) : Statement (.movRm8R8 rm r) := op_rm (rm.bytes_length _)

theorem movRm16R16 (rm : RM16) (r : Reg16) : Statement (.movRm16R16 rm r) := op_rm (rm.bytes_length _)

theorem movR8Rm8 (r : Reg8) (rm : RM8) : Statement (.movR8Rm8 r rm) := op_rm (rm.bytes_length _)

theorem movR16Rm16 (r : Reg16) (rm : RM16) : Statement (.movR16Rm16 r rm) := op_rm (rm.bytes_length _)

theorem movRm16Sreg (rm : RM16) (sr : SReg) : Statement (.movRm16Sreg rm sr) := op_rm (rm.bytes_length _)

theorem lea (r : Reg16) (m : Mem) : Statement (.lea r m) := op_rm (m.bytes_length _)

theorem movSregRm16 (sr : SReg) (rm : RM16) : Statement (.movSregRm16 sr rm) := op_rm (rm.bytes_length _)

theorem popRm16 (rm : RM16) : Statement (.popRm16 rm) := op_rm (rm.bytes_length _)

theorem xchgAxR16 (r : Reg16) : Statement (.xchgAxR16 r) := ⟨Nat.le_of_ble_eq_true rfl, Nat.le_of_ble_eq_true rfl⟩

theorem callPtr (sel : Word) (off : Word) : Statement (.callPtr sel off) := ⟨Nat.le_of_ble_eq_true rfl, Nat.le_of_ble_eq_true rfl⟩

theorem movAlMoffs (off : Word) : Statement (.movAlMoffs off) := ⟨Nat.le_of_ble_eq_true rfl, Nat.le_of_ble_eq_true rfl⟩

theorem movAxMoffs (off : Word) : Statement (.movAxMoffs off) := ⟨Nat.le_of_ble_eq_true rfl, Nat.le_of_ble_eq_true rfl⟩

theorem movMoffsAl (off : Word) : Statement (.movMoffsAl off) := ⟨Nat.le_of_ble_eq_true rfl, Nat.le_of_ble_eq_true rfl⟩

theorem movMoffsAx (off : Word) : Statement (.movMoffsAx off) := ⟨Nat.le_of_ble_eq_true rfl, Nat.le_of_ble_eq_true rfl⟩

theorem testAlImm8 (imm : Byte) : Statement (.testAlImm8 imm) := ⟨Nat.le_of_ble_eq_true rfl, Nat.le_of_ble_eq_true rfl⟩

theorem testAxImm16 (imm : Word) : Statement (.testAxImm16 imm) := ⟨Nat.le_of_ble_eq_true rfl, Nat.le_of_ble_eq_true rfl⟩

theorem movR8Imm8 (r : Reg8) (imm : Byte) : Statement (.movR8Imm8 r imm) := ⟨Nat.le_of_ble_eq_true rfl, Nat.le_of_ble_eq_true rfl⟩

theorem movR16Imm16 (r : Reg16) (imm : Word) : Statement (.movR16Imm16 r imm) := ⟨Nat.le_of_ble_eq_true rfl, Nat.le_of_ble_eq_true rfl⟩

theorem rolRm8Imm8 (rm : RM8) (imm : Byte) : Statement (.rolRm8Imm8 rm imm) := op_rm_byte (rm.bytes_length _)

theorem rorRm8Imm8 (rm : RM8) (imm : Byte) : Statement (.rorRm8Imm8 rm imm) := op_rm_byte (rm.bytes_length _)

theorem rclRm8Imm8 (rm : RM8) (imm : Byte) : Statement (.rclRm8Imm8 rm imm) := op_rm_byte (rm.bytes_length _)

theorem rcrRm8Imm8 (rm : RM8) (imm : Byte) : Statement (.rcrRm8Imm8 rm imm) := op_rm_byte (rm.bytes_length _)

theorem shlRm8Imm8 (rm : RM8) (imm : Byte) : Statement (.shlRm8Imm8 rm imm) := op_rm_byte (rm.bytes_length _)

theorem shrRm8Imm8 (rm : RM8) (imm : Byte) : Statement (.shrRm8Imm8 rm imm) := op_rm_byte (rm.bytes_length _)

theorem sarRm8Imm8 (rm : RM8) (imm : Byte) : Statement (.sarRm8Imm8 rm imm) := op_rm_byte (rm.bytes_length _)

theorem rolRm16Imm8 (rm : RM16) (imm : Byte) : Statement (.rolRm16Imm8 rm imm) := op_rm_byte (rm.bytes_length _)

theorem rorRm16Imm8 (rm : RM16) (imm : Byte) : Statement (.rorRm16Imm8 rm imm) := op_rm_byte (rm.bytes_length _)

theorem rclRm16Imm8 (rm : RM16) (imm : Byte) : Statement (.rclRm16Imm8 rm imm) := op_rm_byte (rm.bytes_length _)

theorem rcrRm16Imm8 (rm : RM16) (imm : Byte) : Statement (.rcrRm16Imm8 rm imm) := op_rm_byte (rm.bytes_length _)

theorem shlRm16Imm8 (rm : RM16) (imm : Byte) : Statement (.shlRm16Imm8 rm imm) := op_rm_byte (rm.bytes_length _)

theorem shrRm16Imm8 (rm : RM16) (imm : Byte) : Statement (.shrRm16Imm8 rm imm) := op_rm_byte (rm.bytes_length _)

theorem sarRm16Imm8 (rm : RM16) (imm : Byte) : Statement (.sarRm16Imm8 rm imm) := op_rm_byte (rm.bytes_length _)

theorem rolRm8One (rm : RM8) : Statement (.rolRm8One rm) := op_rm (rm.bytes_length _)

theorem rorRm8One (rm : RM8) : Statement (.rorRm8One rm) := op_rm (rm.bytes_length _)

theorem rclRm8One (rm : RM8) : Statement (.rclRm8One rm) := op_rm (rm.bytes_length _)

theorem rcrRm8One (rm : RM8) : Statement (.rcrRm8One rm) := op_rm (rm.bytes_length _)

theorem shlRm8One (rm : RM8) : Statement (.shlRm8One rm) := op_rm (rm.bytes_length _)

theorem shrRm8One (rm : RM8) : Statement (.shrRm8One rm) := op_rm (rm.bytes_length _)

theorem sarRm8One (rm : RM8) : Statement (.sarRm8One rm) := op_rm (rm.bytes_length _)

theorem rolRm16One (rm : RM16) : Statement (.rolRm16One rm) := op_rm (rm.bytes_length _)

theorem rorRm16One (rm : RM16) : Statement (.rorRm16One rm) := op_rm (rm.bytes_length _)

theorem rclRm16One (rm : RM16) : Statement (.rclRm16One rm) := op_rm (rm.bytes_length _)

theorem rcrRm16One (rm : RM16) : Statement (.rcrRm16One rm) := op_rm (rm.bytes_length _)

theorem shlRm16One (rm : RM16) : Statement (.shlRm16One rm) := op_rm (rm.bytes_length _)

theorem shrRm16One (rm : RM16) : Statement (.shrRm16One rm) := op_rm (rm.bytes_length _)

theorem sarRm16One (rm : RM16) : Statement (.sarRm16One rm) := op_rm (rm.bytes_length _)

theorem rolRm8Cl (rm : RM8) : Statement (.rolRm8Cl rm) := op_rm (rm.bytes_length _)

theorem rorRm8Cl (rm : RM8) : Statement (.rorRm8Cl rm) := op_rm (rm.bytes_length _)

theorem rclRm8Cl (rm : RM8) : Statement (.rclRm8Cl rm) := op_rm (rm.bytes_length _)

theorem rcrRm8Cl (rm : RM8) : Statement (.rcrRm8Cl rm) := op_rm (rm.bytes_length _)

theorem shlRm8Cl (rm : RM8) : Statement (.shlRm8Cl rm) := op_rm (rm.bytes_length _)

theorem shrRm8Cl (rm : RM8) : Statement (.shrRm8Cl rm) := op_rm (rm.bytes_length _)

theorem sarRm8Cl (rm : RM8) : Statement (.sarRm8Cl rm) := op_rm (rm.bytes_length _)

theorem rolRm16Cl (rm : RM16) : Statement (.rolRm16Cl rm) := op_rm (rm.bytes_length _)

theorem rorRm16Cl (rm : RM16) : Statement (.rorRm16Cl rm) := op_rm (rm.bytes_length _)

theorem rclRm16Cl (rm : RM16) : Statement (.rclRm16Cl rm) := op_rm (rm.bytes_length _)

theorem rcrRm16Cl (rm : RM16) : Statement (.rcrRm16Cl rm) := op_rm (rm.bytes_length _)

theorem shlRm16Cl (rm : RM16) : Statement (.shlRm16Cl rm) := op_rm (rm.bytes_length _)

theorem shrRm16Cl (rm : RM16) : Statement (.shrRm16Cl rm) := op_rm (rm.bytes_length _)

theorem sarRm16Cl (rm : RM16) : Statement (.sarRm16Cl rm) := op_rm (rm.bytes_length _)

theorem retImm16 (imm : Word) : Statement (.retImm16 imm) := ⟨Nat.le_of_ble_eq_true rfl, Nat.le_of_ble_eq_true rfl⟩

theorem les (r : Reg16) (m : Mem) : Statement (.les r m) := op_rm (m.bytes_length _)

theorem lds (r : Reg16) (m : Mem) : Statement (.lds r m) := op_rm (m.bytes_length _)

theorem movRm8Imm8 (rm : RM8) (imm : Byte) : Statement (.movRm8Imm8 rm imm) := op_rm_byte (rm.bytes_length _)

theorem movRm16Imm16 (rm : RM16) (imm : Word) : Statement (.movRm16Imm16 rm imm) := op_rm_word (rm.bytes_length _)

theorem enter (imm : Word) (level : Byte) : Statement (.enter imm level) := ⟨Nat.le_of_ble_eq_true rfl, Nat.le_of_ble_eq_true rfl⟩

theorem retfImm16 (imm : Word) : Statement (.retfImm16 imm) := ⟨Nat.le_of_ble_eq_true rfl, Nat.le_of_ble_eq_true rfl⟩

theorem intImm8 (imm : Byte) : Statement (.intImm8 imm) := ⟨Nat.le_of_ble_eq_true rfl, Nat.le_of_ble_eq_true rfl⟩

theorem aam (base : Byte) : Statement (.aam base) := ⟨Nat.le_of_ble_eq_true rfl, Nat.le_of_ble_eq_true rfl⟩

theorem aad (base : Byte) : Statement (.aad base) := ⟨Nat.le_of_ble_eq_true rfl, Nat.le_of_ble_eq_true rfl⟩

theorem esc (op : BitVec 6) (rm : RM16) : Statement (.esc op rm) := op_rm (rm.bytes_length _)

theorem loopnz (rel : Byte) : Statement (.loopnz rel) := ⟨Nat.le_of_ble_eq_true rfl, Nat.le_of_ble_eq_true rfl⟩

theorem loopz (rel : Byte) : Statement (.loopz rel) := ⟨Nat.le_of_ble_eq_true rfl, Nat.le_of_ble_eq_true rfl⟩

theorem loop (rel : Byte) : Statement (.loop rel) := ⟨Nat.le_of_ble_eq_true rfl, Nat.le_of_ble_eq_true rfl⟩

theorem jcxz (rel : Byte) : Statement (.jcxz rel) := ⟨Nat.le_of_ble_eq_true rfl, Nat.le_of_ble_eq_true rfl⟩

theorem inAlImm8 (imm : Byte) : Statement (.inAlImm8 imm) := ⟨Nat.le_of_ble_eq_true rfl, Nat.le_of_ble_eq_true rfl⟩

theorem inAxImm8 (imm : Byte) : Statement (.inAxImm8 imm) := ⟨Nat.le_of_ble_eq_true rfl, Nat.le_of_ble_eq_true rfl⟩

theorem outImm8Al (imm : Byte) : Statement (.outImm8Al imm) := ⟨Nat.le_of_ble_eq_true rfl, Nat.le_of_ble_eq_true rfl⟩

theorem outImm8Ax (imm : Byte) : Statement (.outImm8Ax imm) := ⟨Nat.le_of_ble_eq_true rfl, Nat.le_of_ble_eq_true rfl⟩

theorem callRel16 (rel : Word) : Statement (.callRel16 rel) := ⟨Nat.le_of_ble_eq_true rfl, Nat.le_of_ble_eq_true rfl⟩

theorem jmpRel16 (rel : Word) : Statement (.jmpRel16 rel) := ⟨Nat.le_of_ble_eq_true rfl, Nat.le_of_ble_eq_true rfl⟩

theorem jmpPtr (sel : Word) (off : Word) : Statement (.jmpPtr sel off) := ⟨Nat.le_of_ble_eq_true rfl, Nat.le_of_ble_eq_true rfl⟩

theorem jmpRel8 (rel : Byte) : Statement (.jmpRel8 rel) := ⟨Nat.le_of_ble_eq_true rfl, Nat.le_of_ble_eq_true rfl⟩

theorem testRm8Imm8 (rm : RM8) (imm : Byte) : Statement (.testRm8Imm8 rm imm) := op_rm_byte (rm.bytes_length _)

theorem notRm8 (rm : RM8) : Statement (.notRm8 rm) := op_rm (rm.bytes_length _)

theorem negRm8 (rm : RM8) : Statement (.negRm8 rm) := op_rm (rm.bytes_length _)

theorem mulRm8 (rm : RM8) : Statement (.mulRm8 rm) := op_rm (rm.bytes_length _)

theorem imulRm8 (rm : RM8) : Statement (.imulRm8 rm) := op_rm (rm.bytes_length _)

theorem divRm8 (rm : RM8) : Statement (.divRm8 rm) := op_rm (rm.bytes_length _)

theorem idivRm8 (rm : RM8) : Statement (.idivRm8 rm) := op_rm (rm.bytes_length _)

theorem testRm16Imm16 (rm : RM16) (imm : Word) : Statement (.testRm16Imm16 rm imm) := op_rm_word (rm.bytes_length _)

theorem notRm16 (rm : RM16) : Statement (.notRm16 rm) := op_rm (rm.bytes_length _)

theorem negRm16 (rm : RM16) : Statement (.negRm16 rm) := op_rm (rm.bytes_length _)

theorem mulRm16 (rm : RM16) : Statement (.mulRm16 rm) := op_rm (rm.bytes_length _)

theorem imulRm16 (rm : RM16) : Statement (.imulRm16 rm) := op_rm (rm.bytes_length _)

theorem divRm16 (rm : RM16) : Statement (.divRm16 rm) := op_rm (rm.bytes_length _)

theorem idivRm16 (rm : RM16) : Statement (.idivRm16 rm) := op_rm (rm.bytes_length _)

theorem incRm8 (rm : RM8) : Statement (.incRm8 rm) := op_rm (rm.bytes_length _)

theorem decRm8 (rm : RM8) : Statement (.decRm8 rm) := op_rm (rm.bytes_length _)

theorem incRm16 (rm : RM16) : Statement (.incRm16 rm) := op_rm (rm.bytes_length _)

theorem decRm16 (rm : RM16) : Statement (.decRm16 rm) := op_rm (rm.bytes_length _)

theorem callRm16 (rm : RM16) : Statement (.callRm16 rm) := op_rm (rm.bytes_length _)

theorem callM16_16 (m : Mem) : Statement (.callM16_16 m) := op_rm (m.bytes_length _)

theorem jmpRm16 (rm : RM16) : Statement (.jmpRm16 rm) := op_rm (rm.bytes_length _)

theorem jmpM16_16 (m : Mem) : Statement (.jmpM16_16 m) := op_rm (m.bytes_length _)

theorem pushRm16 (rm : RM16) : Statement (.pushRm16 rm) := op_rm (rm.bytes_length _)

theorem sldt (rm : RM16) : Statement (.sldt rm) := op_op_rm (rm.bytes_length _)

theorem str (rm : RM16) : Statement (.str rm) := op_op_rm (rm.bytes_length _)

theorem lldt (rm : RM16) : Statement (.lldt rm) := op_op_rm (rm.bytes_length _)

theorem ltr (rm : RM16) : Statement (.ltr rm) := op_op_rm (rm.bytes_length _)

theorem verr (rm : RM16) : Statement (.verr rm) := op_op_rm (rm.bytes_length _)

theorem verw (rm : RM16) : Statement (.verw rm) := op_op_rm (rm.bytes_length _)

theorem sgdt (m : Mem) : Statement (.sgdt m) := op_op_rm (m.bytes_length _)

theorem sidt (m : Mem) : Statement (.sidt m) := op_op_rm (m.bytes_length _)

theorem lgdt (m : Mem) : Statement (.lgdt m) := op_op_rm (m.bytes_length _)

theorem lidt (m : Mem) : Statement (.lidt m) := op_op_rm (m.bytes_length _)

theorem smsw (rm : RM16) : Statement (.smsw rm) := op_op_rm (rm.bytes_length _)

theorem lmsw (rm : RM16) : Statement (.lmsw rm) := op_op_rm (rm.bytes_length _)

theorem lar (r : Reg16) (rm : RM16) : Statement (.lar r rm) := op_op_rm (rm.bytes_length _)

theorem lsl (r : Reg16) (rm : RM16) : Statement (.lsl r rm) := op_op_rm (rm.bytes_length _)

theorem pushEs : Statement .pushEs := ⟨Nat.le_of_ble_eq_true rfl, Nat.le_of_ble_eq_true rfl⟩

theorem pushCs : Statement .pushCs := ⟨Nat.le_of_ble_eq_true rfl, Nat.le_of_ble_eq_true rfl⟩

theorem pushSs : Statement .pushSs := ⟨Nat.le_of_ble_eq_true rfl, Nat.le_of_ble_eq_true rfl⟩

theorem pushDs : Statement .pushDs := ⟨Nat.le_of_ble_eq_true rfl, Nat.le_of_ble_eq_true rfl⟩

theorem popEs : Statement .popEs := ⟨Nat.le_of_ble_eq_true rfl, Nat.le_of_ble_eq_true rfl⟩

theorem popSs : Statement .popSs := ⟨Nat.le_of_ble_eq_true rfl, Nat.le_of_ble_eq_true rfl⟩

theorem popDs : Statement .popDs := ⟨Nat.le_of_ble_eq_true rfl, Nat.le_of_ble_eq_true rfl⟩

theorem segEs : Statement .segEs := ⟨Nat.le_of_ble_eq_true rfl, Nat.le_of_ble_eq_true rfl⟩

theorem segCs : Statement .segCs := ⟨Nat.le_of_ble_eq_true rfl, Nat.le_of_ble_eq_true rfl⟩

theorem segSs : Statement .segSs := ⟨Nat.le_of_ble_eq_true rfl, Nat.le_of_ble_eq_true rfl⟩

theorem segDs : Statement .segDs := ⟨Nat.le_of_ble_eq_true rfl, Nat.le_of_ble_eq_true rfl⟩

theorem lock : Statement .lock := ⟨Nat.le_of_ble_eq_true rfl, Nat.le_of_ble_eq_true rfl⟩

theorem repne : Statement .repne := ⟨Nat.le_of_ble_eq_true rfl, Nat.le_of_ble_eq_true rfl⟩

theorem rep : Statement .rep := ⟨Nat.le_of_ble_eq_true rfl, Nat.le_of_ble_eq_true rfl⟩

theorem daa : Statement .daa := ⟨Nat.le_of_ble_eq_true rfl, Nat.le_of_ble_eq_true rfl⟩

theorem das : Statement .das := ⟨Nat.le_of_ble_eq_true rfl, Nat.le_of_ble_eq_true rfl⟩

theorem aaa : Statement .aaa := ⟨Nat.le_of_ble_eq_true rfl, Nat.le_of_ble_eq_true rfl⟩

theorem aas : Statement .aas := ⟨Nat.le_of_ble_eq_true rfl, Nat.le_of_ble_eq_true rfl⟩

theorem pusha : Statement .pusha := ⟨Nat.le_of_ble_eq_true rfl, Nat.le_of_ble_eq_true rfl⟩

theorem popa : Statement .popa := ⟨Nat.le_of_ble_eq_true rfl, Nat.le_of_ble_eq_true rfl⟩

theorem insb : Statement .insb := ⟨Nat.le_of_ble_eq_true rfl, Nat.le_of_ble_eq_true rfl⟩

theorem insw : Statement .insw := ⟨Nat.le_of_ble_eq_true rfl, Nat.le_of_ble_eq_true rfl⟩

theorem outsb : Statement .outsb := ⟨Nat.le_of_ble_eq_true rfl, Nat.le_of_ble_eq_true rfl⟩

theorem outsw : Statement .outsw := ⟨Nat.le_of_ble_eq_true rfl, Nat.le_of_ble_eq_true rfl⟩

theorem nop : Statement .nop := ⟨Nat.le_of_ble_eq_true rfl, Nat.le_of_ble_eq_true rfl⟩

theorem cbw : Statement .cbw := ⟨Nat.le_of_ble_eq_true rfl, Nat.le_of_ble_eq_true rfl⟩

theorem cwd : Statement .cwd := ⟨Nat.le_of_ble_eq_true rfl, Nat.le_of_ble_eq_true rfl⟩

theorem wait : Statement .wait := ⟨Nat.le_of_ble_eq_true rfl, Nat.le_of_ble_eq_true rfl⟩

theorem pushf : Statement .pushf := ⟨Nat.le_of_ble_eq_true rfl, Nat.le_of_ble_eq_true rfl⟩

theorem popf : Statement .popf := ⟨Nat.le_of_ble_eq_true rfl, Nat.le_of_ble_eq_true rfl⟩

theorem sahf : Statement .sahf := ⟨Nat.le_of_ble_eq_true rfl, Nat.le_of_ble_eq_true rfl⟩

theorem lahf : Statement .lahf := ⟨Nat.le_of_ble_eq_true rfl, Nat.le_of_ble_eq_true rfl⟩

theorem movsb : Statement .movsb := ⟨Nat.le_of_ble_eq_true rfl, Nat.le_of_ble_eq_true rfl⟩

theorem movsw : Statement .movsw := ⟨Nat.le_of_ble_eq_true rfl, Nat.le_of_ble_eq_true rfl⟩

theorem cmpsb : Statement .cmpsb := ⟨Nat.le_of_ble_eq_true rfl, Nat.le_of_ble_eq_true rfl⟩

theorem cmpsw : Statement .cmpsw := ⟨Nat.le_of_ble_eq_true rfl, Nat.le_of_ble_eq_true rfl⟩

theorem stosb : Statement .stosb := ⟨Nat.le_of_ble_eq_true rfl, Nat.le_of_ble_eq_true rfl⟩

theorem stosw : Statement .stosw := ⟨Nat.le_of_ble_eq_true rfl, Nat.le_of_ble_eq_true rfl⟩

theorem lodsb : Statement .lodsb := ⟨Nat.le_of_ble_eq_true rfl, Nat.le_of_ble_eq_true rfl⟩

theorem lodsw : Statement .lodsw := ⟨Nat.le_of_ble_eq_true rfl, Nat.le_of_ble_eq_true rfl⟩

theorem scasb : Statement .scasb := ⟨Nat.le_of_ble_eq_true rfl, Nat.le_of_ble_eq_true rfl⟩

theorem scasw : Statement .scasw := ⟨Nat.le_of_ble_eq_true rfl, Nat.le_of_ble_eq_true rfl⟩

theorem ret : Statement .ret := ⟨Nat.le_of_ble_eq_true rfl, Nat.le_of_ble_eq_true rfl⟩

theorem leave : Statement .leave := ⟨Nat.le_of_ble_eq_true rfl, Nat.le_of_ble_eq_true rfl⟩

theorem retf : Statement .retf := ⟨Nat.le_of_ble_eq_true rfl, Nat.le_of_ble_eq_true rfl⟩

theorem int3 : Statement .int3 := ⟨Nat.le_of_ble_eq_true rfl, Nat.le_of_ble_eq_true rfl⟩

theorem into : Statement .into := ⟨Nat.le_of_ble_eq_true rfl, Nat.le_of_ble_eq_true rfl⟩

theorem iret : Statement .iret := ⟨Nat.le_of_ble_eq_true rfl, Nat.le_of_ble_eq_true rfl⟩

theorem xlat : Statement .xlat := ⟨Nat.le_of_ble_eq_true rfl, Nat.le_of_ble_eq_true rfl⟩

theorem inAlDx : Statement .inAlDx := ⟨Nat.le_of_ble_eq_true rfl, Nat.le_of_ble_eq_true rfl⟩

theorem inAxDx : Statement .inAxDx := ⟨Nat.le_of_ble_eq_true rfl, Nat.le_of_ble_eq_true rfl⟩

theorem outDxAl : Statement .outDxAl := ⟨Nat.le_of_ble_eq_true rfl, Nat.le_of_ble_eq_true rfl⟩

theorem outDxAx : Statement .outDxAx := ⟨Nat.le_of_ble_eq_true rfl, Nat.le_of_ble_eq_true rfl⟩

theorem hlt : Statement .hlt := ⟨Nat.le_of_ble_eq_true rfl, Nat.le_of_ble_eq_true rfl⟩

theorem cmc : Statement .cmc := ⟨Nat.le_of_ble_eq_true rfl, Nat.le_of_ble_eq_true rfl⟩

theorem clc : Statement .clc := ⟨Nat.le_of_ble_eq_true rfl, Nat.le_of_ble_eq_true rfl⟩

theorem stc : Statement .stc := ⟨Nat.le_of_ble_eq_true rfl, Nat.le_of_ble_eq_true rfl⟩

theorem cli : Statement .cli := ⟨Nat.le_of_ble_eq_true rfl, Nat.le_of_ble_eq_true rfl⟩

theorem sti : Statement .sti := ⟨Nat.le_of_ble_eq_true rfl, Nat.le_of_ble_eq_true rfl⟩

theorem cld : Statement .cld := ⟨Nat.le_of_ble_eq_true rfl, Nat.le_of_ble_eq_true rfl⟩

theorem std : Statement .std := ⟨Nat.le_of_ble_eq_true rfl, Nat.le_of_ble_eq_true rfl⟩

theorem cts : Statement .cts := ⟨Nat.le_of_ble_eq_true rfl, Nat.le_of_ble_eq_true rfl⟩

end Laws.EncodeLength

end Sys2Proof
end

