-- ==== Sys2Proof/Tests/Slice0.lean ====
section
/-! SUPPORT. The model's own tests: one word of every instruction decoded and encoded back, one step of some instructions with
the results of the spec's vectors, the terms and bytes that are refused, and a state that meets the hypotheses of every
statement that has some. -/

open Sys2Proof Sys2Proof.Machine Sys2Proof.Claims

namespace Sys2Proof.Tests

set_option Elab.async false

/-- A state with bytes stored. -/
def filled (s : State) (l : List (Nat × List Byte)) : State := l.foldl (fun t c => t.storeBytes c.1 c.2) s

/-- A state of Real Address Mode in the middle of a program. -/
def real : State :=
  { State.reset with
    regs := { ax := 0x1234, cx := 2, dx := 0x0040, bx := 0x0010, sp := 0x0100, bp := 0x0200, si := 0x0300, di := 0x0400 }
    ip := 0x0010, ipNext := 0x0012, queueEmpty := false }

/-- A segment register with a cached descriptor. -/
def cached (sel : Word) (base : Base24) (limit : Word) (ar : Byte) : SegReg :=
  { sel := sel, base := base, limit := limit, ar := ar, valid := true }

/-- The descriptor tables and task state segments of the Protected Mode tests (20_memory.md R98 to R100; 60_exceptions.md
R471). -/
def tables : List (Nat × List Byte) :=
  [(0x1008, [0xFF, 0xFF, 0x00, 0x00, 0x01, 0x9A]),  -- 08: code, level 0
    (0x1010, [0xFF, 0xFF, 0x00, 0x00, 0x02, 0x92]),  -- 10: data, level 0
    (0x1018, [0xFF, 0x0F, 0x00, 0x00, 0x03, 0xFA]),  -- 18: code, level 3, limit 0FFF
    (0x1020, [0xFF, 0xFF, 0x00, 0x00, 0x04, 0xF2]),  -- 20: data, level 3
    (0x1028, [0x0F, 0x00, 0x00, 0x18, 0x00, 0x82]),  -- 28: local descriptor table
    (0x1030, [0x2B, 0x00, 0x00, 0x30, 0x00, 0xE1]),  -- 30: available task state segment, level 3
    (0x1038, [0x2B, 0x00, 0x00, 0x31, 0x00, 0x83]),  -- 38: busy task state segment, the current one
    (0x1040, [0x23, 0x01, 0x08, 0x00, 0x02, 0xE4]),  -- 40: call gate, level 3, to 08:0123 with two words
    (0x1048, [0xFF, 0x0F, 0x00, 0x00, 0x05, 0x9E]),  -- 48: conforming code, level 0, limit 0FFF
    (0x1050, [0xFF, 0xFF, 0x00, 0x00, 0x02, 0x12]),  -- 50: data, not present
    (0x1058, [0xFF, 0x0F, 0x48, 0x00, 0x00, 0xE4]),  -- 58: call gate, level 3, to 48:0FFF
    (0x1060, [0xFF, 0xFF, 0x00, 0x00, 0x01, 0x1A]),  -- 60: code, not present
    (0x1068, [0x0F, 0x00, 0x00, 0x18, 0x00, 0x02]),  -- 68: local descriptor table, not present
    (0x1070, [0x2B, 0x00, 0x00, 0x30, 0x00, 0x01]),  -- 70: task state segment, not present
    (0x1078, [0x00, 0x00, 0x08, 0x00, 0x00, 0x64]),  -- 78: call gate, not present
    (0x1080, [0x2B, 0x00, 0x00, 0x30, 0x00, 0x83]),  -- 80: busy task state segment
    (0x1808, [0xFF, 0x00, 0x00, 0x00, 0x06, 0xF3]),  -- 0C: data of the local table, level 3
    (0x2018, [0x00, 0x01, 0x08, 0x00, 0x00, 0xE6]),  -- vector 3: interrupt gate, level 3, to 08:0100
    (0x2020, [0xFF, 0x0F, 0x48, 0x00, 0x00, 0xE7]),  -- vector 4: trap gate, level 3, to 48:0FFF
    (0x2068, [0x00, 0x02, 0x08, 0x00, 0x00, 0x86]),  -- vector 13: interrupt gate, level 0, to 08:0200
    (0x3000, [0x00, 0x00, 0x00, 0x01, 0x10, 0x00]),  -- the other task: back link, SP and SS of level 0
    (0x300E, [0x40, 0x00, 0x02, 0x02]),              -- IP, FLAGS
    (0x301A, [0x00, 0x02]),                          -- SP
    (0x3022, [0x00, 0x00, 0x08, 0x00, 0x10, 0x00]),  -- ES, CS, SS
    (0x3100, [0x80, 0x00, 0x00, 0x03, 0x10, 0x00])]  -- the current task: back link, SP and SS of level 0

/-- The cells of rising rows of bytes. -/
def placed (l : List (Nat × List Byte)) : Memory :=
  l.flatMap fun c => (c.2.zipIdx.filter fun b => b.1 != 0).map fun b => (c.1 + b.2, b.1)

theorem test_tables_wf : Memory.wf (placed tables) := by decide +kernel

/-- Protected Mode, level 0. -/
def kernel : State :=
  { real with
    mem := placed tables
    msw := { pe := true, mp := false, em := false, ts := false }
    cs := cached 0x0008 0x010000 0xFFFF 0x9B, ss := cached 0x0010 0x020000 0xFFFF 0x93
    ds := cached 0x0010 0x020000 0xFFFF 0x93, es := cached 0x0020 0x040000 0xFFFF 0xF3
    gdtr := { base := 0x1000, limit := 0x0087 }, idtr := { base := 0x2000, limit := 0x006F }
    ldtr := { sel := 0x0028, base := 0x1800, limit := 0x000F, ar := 0x82, valid := true }
    tr := { sel := 0x0038, base := 0x3100, limit := 0x002B, ar := 0x83, valid := true } }

/-- The same machine at level 3. -/
def user : State :=
  { kernel with
    cpl := 3
    cs := cached 0x001B 0x030000 0x0FFF 0xFB, ss := cached 0x0023 0x040000 0xFFFF 0xF3
    ds := cached 0x0023 0x040000 0xFFFF 0xF3, es := cached 0x0023 0x040000 0xFFFF 0xF3 }

/-- An access that passes its check fits. -/
theorem fits_of_check {s : State} {r : SReg} {off n : Nat} {w : Bool} (h : s.check r off n w 0 = .ok ()) : Fits s r off n w := by
  cases hp : s.msw.pe
  · simpa [Fits, Within, hp] using (check_real hp).1 h
  · obtain ⟨h1, h2, h3⟩ := (check_protected hp).1 h
    refine ⟨fun _ => ⟨h1, h2⟩, ?_⟩
    simp only [insideLimit] at h3
    cases hx : arExpandDown (s.seg r).ar <;> simpa [Within, hp, hx] using h3

/-- An access that fits passes its check. -/
theorem check_of_fits {s : State} {r : SReg} {off n : Nat} {w : Bool} (h : Fits s r off n w) : s.check r off n w 0 = .ok () := by
  cases hp : s.msw.pe
  · exact (check_real hp).2 (by simpa [Fits, Within, hp] using h.2)
  · obtain ⟨h1, h2⟩ := h
    refine (check_protected hp).2 ⟨(h1 hp).1, (h1 hp).2, ?_⟩
    simp only [insideLimit]
    cases hx : arExpandDown (s.seg r).ar <;> simpa [Within, hp, hx] using h2

/-- The outcome is a next state. -/
def goesOn (o : Host.Outcome State Fault Refusal) : Bool :=
  match o with
  | .next _ => true
  | .fault _ | .refused _ => false

theorem next_of_goesOn {o : Host.Outcome State Fault Refusal} (h : goesOn o = true) : ∃ t, o = .next t := by
  cases o with
  | next t => exact ⟨t, rfl⟩
  | fault f => cases h
  | refused r => cases h

/-! The descriptors of `tables`. -/

def descCode : Desc := { addr := 0x1008, limit := 0xFFFF, base := 0x010000, ar := 0x9A }
def descData : Desc := { addr := 0x1010, limit := 0xFFFF, base := 0x020000, ar := 0x92 }

def descAbsentData : Desc := { addr := 0x1050, limit := 0xFFFF, base := 0x020000, ar := 0x12 }
def descAbsentCode : Desc := { addr := 0x1060, limit := 0xFFFF, base := 0x010000, ar := 0x1A }
def descUserCode : Desc := { addr := 0x1018, limit := 0x0FFF, base := 0x030000, ar := 0xFA }
def descUserData : Desc := { addr := 0x1020, limit := 0xFFFF, base := 0x040000, ar := 0xF2 }
def gateInner : Desc := { addr := 0x1040, limit := 0x0123, base := 0x020008, ar := 0xE4 }
def gateSame : Desc := { addr := 0x1058, limit := 0x0FFF, base := 0x000048, ar := 0xE4 }
def gateAbsent : Desc := { addr := 0x1078, limit := 0x0000, base := 0x000008, ar := 0x64 }
def descConforming : Desc := { addr := 0x1048, limit := 0x0FFF, base := 0x050000, ar := 0x9E }
def gate3 : Desc := { addr := 0x2018, limit := 0x0100, base := 0x000008, ar := 0xE6 }
def gate4 : Desc := { addr := 0x2020, limit := 0x0FFF, base := 0x000048, ar := 0xE7 }
def gate13 : Desc := { addr := 0x2068, limit := 0x0200, base := 0x000008, ar := 0x86 }
def descLdt : Desc := { addr := 0x1028, limit := 0x000F, base := 0x001800, ar := 0x82 }
def descAbsentLdt : Desc := { addr := 0x1068, limit := 0x000F, base := 0x001800, ar := 0x02 }
def descTask : Desc := { addr := 0x1030, limit := 0x002B, base := 0x003000, ar := 0xE1 }
def descAbsentTask : Desc := { addr := 0x1070, limit := 0x002B, base := 0x003000, ar := 0x01 }
def descBusyTask : Desc := { addr := 0x1080, limit := 0x002B, base := 0x003000, ar := 0x83 }

/-- A register state with AX, DX and BX. -/
def regsOf (s : State) (ax dx bx : Word) : State := { s with regs := { s.regs with ax := ax, dx := dx, bx := bx } }
def withSp (s : State) (sp : Word) : State := { s with regs := { s.regs with sp := sp } }
def withCx (s : State) (cx : Word) : State := { s with regs := { s.regs with cx := cx } }
def withRep (s : State) (p : Rep) : State := { s with pfx := { s.pfx with rep := some p, count := 1 } }
/-- In the middle of a repeated string instruction. -/
def between (s : State) (p : Rep) (op : StringOp) : State := { withRep s p with again := some op }
def withSeg (s : State) (r : SReg) : State := { s with pfx := { s.pfx with seg := some r, count := 1 } }

/-- A computation answers. -/
def answers {α : Type} (m : Res α) : Bool :=
  match m with
  | .ok _ => true
  | .error _ => false

theorem ok_of_answers {α : Type} {m : Res α} (h : answers m = true) : ∃ a, m = .ok a := by
  cases m with
  | ok a => exact ⟨a, rfl⟩
  | error e => cases h

/-- A step has a next state, of which `p` holds. -/
def stepsTo (s : State) (p : State → Bool) : Bool :=
  match step s with
  | .next t => p t
  | .fault _ | .refused _ => false

theorem next_of_stepsTo {s : State} {p : State → Bool} (h : stepsTo s p = true) : ∃ t, step s = .next t ∧ p t = true := by
  unfold stepsTo at h
  split at h
  next t ht => exact ⟨t, ht, h⟩
  all_goals cases h


/-! One step each, with the results of the spec's own vectors (95_test_vectors.md). -/

/-- Real Address Mode with CS and DS at 010000, SS and ES at 020000, IP 0100 and SP 0100. -/
def vec : State :=
  { real with
    cs := cached 0x1000 0x010000 0xFFFF 0x93, ds := cached 0x1000 0x010000 0xFFFF 0x93
    es := cached 0x2000 0x020000 0xFFFF 0x93, ss := cached 0x2000 0x020000 0xFFFF 0x93
    ip := 0x0100, regs := { ax := 0, cx := 0, dx := 0, bx := 0, sp := 0x0100, bp := 0, si := 0, di := 0 } }

/-- A step from `s` with `code` at its instruction pointer ends where `p` holds. -/
def runs (s : State) (code : List Byte) (p : State → Bool) : Bool :=
  stepsTo (filled s [(s.cs.base.toNat + s.ip.toNat, code)]) p

/-- The word at `off` in the stack segment of `vec`. -/
def onStack (t : State) (off : Nat) : Word := t.read16 (0x020000 + off)

/-- OF SF ZF AF PF CF. -/
def six (t : State) : List Bool := [t.flags.of, t.flags.sf, t.flags.zf, t.flags.af, t.flags.pf, t.flags.cf]

theorem test_mov_ah : -- V20
    runs (regsOf vec 0xFFFF 0 0) [0xB4, 0x12] (fun t => t.regs.ax == 0x12FF && t.ip == 0x0102) = true := by decide +kernel
theorem test_mov_byte_register : runs (regsOf vec 0 0 0x1234) [0x88, 0xDF] (fun t => t.regs.bx == 0x3434) = true := by -- V20
  decide +kernel
theorem test_push_sp : runs vec [0x54] (fun t => onStack t 0xFE == 0x0100 && t.regs.sp == 0x00FE) = true := by decide +kernel -- V20
theorem test_push_wraps : runs (regsOf (withSp vec 0) 0xBEEF 0 0) [0x50] -- V20
    (fun t => onStack t 0xFFFE == 0xBEEF && t.regs.sp == 0xFFFE) = true := by decide +kernel
theorem test_pop_sp : runs (filled (withSp vec 0xFE) [(0x0200FE, [0x34, 0x12])]) [0x5C] (fun t => t.regs.sp == 0x1234) = true := by -- V20
  decide +kernel
theorem test_xlat_wraps : runs (filled (regsOf vec 0x20 0 0xFFF0) [(0x010010, [0x33])]) [0xD7] (fun t => t.regs.ax == 0x33) = true := by
  decide +kernel -- V20
theorem test_lea_wraps : runs { vec with regs := { vec.regs with bx := 0x8000, si := 0x9000 } } [0x8D, 0x00] -- V20
    (fun t => t.regs.ax == 0x1000) = true := by decide +kernel
theorem test_lds : runs (filled (regsOf vec 0 0 0x300) [(0x010300, [0x00, 0x02, 0x00, 0x10])]) [0xC5, 0x37] -- V20
    (fun t => t.regs.si == 0x0200 && t.ds.sel == 0x1000 && t.ds.base == 0x010000) = true := by decide +kernel
theorem test_popf_real : runs (filled (withSp vec 0xFE) [(0x0200FE, [0xFF, 0xFF])]) [0x9D] (fun t => flagsWord t.flags == 0x0FD7) = true := by
  decide +kernel -- V20
theorem test_popf_user : runs (filled { user with flags := { user.flags with ifl := true } } [(0x040100, [0, 0])]) [0x9D] -- V20
    (fun t => t.flags.ifl && t.flags.iopl == 0 && t.cpl == 3) = true := by decide +kernel
theorem test_word_at_limit : runs (regsOf (filled vec [(0x34, [0x40, 0x00, 0x00, 0x20])]) 0 0 0xFFFF) [0x8B, 0x07] -- V20
    (fun t => t.cs.sel == 0x2000 && t.ip == 0x0040 && onStack t 0xFA == 0x0100 && t.regs.sp == 0x00FA) = true := by decide +kernel
theorem test_mov_ss_shadow : runs (regsOf vec 0x1000 0 0) [0x8E, 0xD0] -- V20
    (fun t => t.ss.base == 0x010000 && t.shadow != Shadow.none) = true := by decide +kernel
theorem test_add_overflow : runs (regsOf vec 0x7F 0 0) [0x04, 0x01] -- V30
    (fun t => t.regs.ax == 0x80 && six t == [true, true, false, true, false, false]) = true := by decide +kernel
theorem test_adc_carries : runs { regsOf vec 0xFFFF 0 0 with flags := { vec.flags with cf := true } } [0x15, 0xFF, 0xFF] -- V30
    (fun t => t.regs.ax == 0xFFFF && six t == [false, true, false, true, true, true]) = true := by decide +kernel
theorem test_sbb_borrows : runs { regsOf vec 0x1234 0 0x1234 with flags := { vec.flags with cf := true } } [0x19, 0xD8] -- V30
    (fun t => t.regs.ax == 0xFFFF && six t == [false, true, false, true, true, true]) = true := by decide +kernel
theorem test_cmp : runs (regsOf vec 5 0 7) [0x38, 0xD8] -- V30
    (fun t => t.regs.ax == 5 && six t == [false, true, false, true, false, true]) = true := by decide +kernel
theorem test_inc_keeps_cf : runs { regsOf vec 0x7F 0 0 with flags := { vec.flags with cf := true } } [0xFE, 0xC0] -- V30
    (fun t => t.regs.ax == 0x80 && six t == [true, true, false, true, false, true]) = true := by decide +kernel
theorem test_neg_minimum : runs (regsOf vec 0x8000 0 0) [0xF7, 0xD8] -- V30
    (fun t => t.regs.ax == 0x8000 && six t == [true, true, false, false, true, true]) = true := by decide +kernel
theorem test_daa : runs { regsOf vec 0x32 0 0 with flags := { vec.flags with cf := true, af := true } } [0x27] -- V31
    (fun t => t.regs.ax == 0x98 && t.flags.cf && t.flags.af) = true := by decide +kernel
theorem test_das : runs { regsOf vec 0xD5 0 0 with flags := { vec.flags with cf := true } } [0x2F] -- V31
    (fun t => t.regs.ax == 0x75 && t.flags.cf && !t.flags.af) = true := by decide +kernel
theorem test_aaa : runs (regsOf vec 0x6F 0 0) [0x37] (fun t => t.regs.ax == 0x0105 && t.flags.cf && t.flags.af) = true := by -- V31
  decide +kernel
theorem test_aas : runs { regsOf vec 0x02FF 0 0 with flags := { vec.flags with af := true } } [0x3F] -- V31
    (fun t => t.regs.ax == 0x0109 && t.flags.cf && t.flags.af) = true := by decide +kernel
theorem test_aam : runs (regsOf vec 0xFF 0 0) [0xD4, 0x0A] (fun t => t.regs.ax == 0x1905) = true := by decide +kernel -- V31
theorem test_aad : runs (regsOf vec 0x0603 0 0) [0xD5, 0x0A] (fun t => t.regs.ax == 0x003F && t.flags.pf) = true := by decide +kernel -- V31
theorem test_mul_word : runs (regsOf vec 0xFFFF 0 0xFFFF) [0xF7, 0xE3] -- V32
    (fun t => t.regs.dx == 0xFFFE && t.regs.ax == 1 && t.flags.cf && t.flags.of) = true := by decide +kernel
theorem test_imul_byte : runs (regsOf vec 0x80 0 2) [0xF6, 0xEB] (fun t => t.regs.ax == 0xFF00 && t.flags.cf) = true := by -- V32
  decide +kernel
theorem test_imul_imm8 : runs (withCx vec 0x8000) [0x6B, 0xD9, 0xFF] (fun t => t.regs.bx == 0x8000 && t.flags.of) = true := by -- V32
  decide +kernel
theorem test_div_word : runs (regsOf vec 0xFFFF 0x1233 0x1234) [0xF7, 0xF3] (fun t => t.regs.ax == 0xFFFF && t.regs.dx == 0x1233) = true := by
  decide +kernel -- V33
theorem test_idiv_truncates : runs (regsOf vec 0xFFF9 0 2) [0xF6, 0xFB] (fun t => t.regs.ax == 0xFFFD) = true := by -- V33
  decide +kernel
theorem test_idiv_minimum : runs (regsOf vec 0xC080 0 0x7F) [0xF6, 0xFB] (fun t => t.regs.ax == 0x0080) = true := by decide +kernel -- V33
theorem test_divide_error : runs (regsOf vec 0x0064 0 0) [0xF6, 0xF3] -- V100
    (fun t => t.regs.ax == 0x64 && onStack t 0xFA == 0x0100 && onStack t 0xFE == 0x0002) = true := by decide +kernel
theorem test_shl : runs (regsOf vec 0x8001 0 0) [0xD1, 0xE0] (fun t => t.regs.ax == 2 && t.flags.cf && t.flags.of) = true := by -- V41
  decide +kernel
theorem test_sar : runs (regsOf vec 0xFFF9 0 0) [0xD1, 0xF8] (fun t => t.regs.ax == 0xFFFC && t.flags.cf && !t.flags.of) = true := by
  decide +kernel -- V41
theorem test_rcl_full_cycle : runs { regsOf vec 0xA5 0 0 with flags := { vec.flags with cf := true } } [0xC0, 0xD0, 9] -- V42
    (fun t => t.regs.ax == 0xA5 && t.flags.cf) = true := by decide +kernel
theorem test_rcr : runs { regsOf vec 0xA5 0 0 with flags := { vec.flags with cf := true } } [0xC0, 0xD8, 4] -- V42
    (fun t => t.regs.ax == 0xBA && !t.flags.cf) = true := by decide +kernel
theorem test_movsw_down : runs (filled { vec with flags := { vec.flags with df := true }, regs := { vec.regs with si := 0x10, di := 0x20 } }
      [(0x010010, [0x34, 0x12])]) [0xA5] -- V50
    (fun t => onStack t 0x20 == 0x1234 && t.regs.si == 0x0E && t.regs.di == 0x1E) = true := by decide +kernel
theorem test_repeat_prefix : runs (withCx vec 3) [0xF3, 0xA4] (fun t => t.pfx.rep == some .rep && t.ip == 0x0100) = true := by -- V10
  decide +kernel
theorem test_repeat_goes_on : -- R278, R279: REP STOSB after its first element, not fetched again
    stepsTo (between (withCx vec 2) .rep .stosb) (fun t =>
      t.regs.cx == 1 && t.regs.di == 1 && t.ip == 0x0100 && t.again == some .stosb && t.pfx.rep == some .rep) = true := by
  decide +kernel
theorem test_repeat_traced : -- R279: the single-step trap comes between two elements, with the address of the first prefix
    stepsTo { between (withCx vec 2) .rep .stosb with trapPending := true } (fun t =>
      t.regs.cx == 2 && onStack t 0xFA == 0x0100 && t.again == none && t.pfx.count == 0) = true := by decide +kernel
theorem test_call_far : runs vec [0x9A, 0x00, 0x01, 0x00, 0x20] -- V61
    (fun t => onStack t 0xFE == 0x1000 && onStack t 0xFC == 0x0105 && t.cs.base == 0x020000 && t.ip == 0x0100) = true := by decide +kernel
theorem test_ret_imm : runs (filled (withSp vec 0xFA) [(0x0200FA, [0x03, 0x02])]) [0xC2, 4, 0] -- V61
    (fun t => t.ip == 0x0203 && t.regs.sp == 0x0100) = true := by decide +kernel
theorem test_loop_wraps : runs vec [0xE2, 0xFB] (fun t => t.regs.cx == 0xFFFF && t.ip == 0x00FD) = true := by decide +kernel -- V61
theorem test_int : runs (filled { vec with flags := { vec.flags with ifl := true } } [(0x84, [0x40, 0x00, 0x00, 0x20])]) [0xCD, 0x21] -- V61
    (fun t => onStack t 0xFE == 0x0202 && onStack t 0xFC == 0x1000 && onStack t 0xFA == 0x0102 && t.cs.sel == 0x2000 && t.ip == 0x40 &&
      flagsWord t.flags == 2) = true := by decide +kernel
theorem test_enter_3 : runs (filled { vec with regs := { vec.regs with bp := 0x0200 } } [(0x0201FC, [0xBB, 0xBB, 0xAA, 0xAA])])
      [0xC8, 8, 0, 3] -- V70
    (fun t => [0xFE, 0xFC, 0xFA, 0xF8].map (onStack t) == [0x0200, 0xAAAA, 0xBBBB, 0x00FE] && t.regs.bp == 0xFE && t.regs.sp == 0xF0) = true := by
  decide +kernel
theorem test_pusha : runs { vec with regs := { ax := 0x1111, cx := 0x2222, dx := 0x3333, bx := 0x4444, sp := 0x100, bp := 0x6666, si := 0x7777, di := 0x8888 } }
      [0x60] (fun t => [0xFE, 0xFC, 0xF6, 0xF0].map (onStack t) == [0x1111, 0x2222, 0x0100, 0x8888] && t.regs.sp == 0xF0) = true := by
  decide +kernel -- V70
theorem test_lgdt : runs (filled vec [(0x010700, [0x3F, 0, 0, 0x10, 0, 0xAA])]) [0x0F, 0x01, 0x16, 0x00, 0x07] -- V90
    (fun t => t.gdtr.limit == 0x3F && t.gdtr.base == 0x1000) = true := by decide +kernel
theorem test_arpl : runs (regsOf kernel 0x53 0 0x10) [0x63, 0xC3] (fun t => t.regs.bx == 0x13 && t.flags.zf) = true := by decide +kernel -- V91
theorem test_lar_level : runs (regsOf user 0x53 0 0x08) [0x0F, 0x02, 0xC3] (fun t => t.regs.ax == 0x53 && !t.flags.zf) = true := by -- V91
  decide +kernel
theorem test_load_ds_accessed : runs (regsOf user 0x23 0 0) [0x8E, 0xD8] -- V91, with the descriptor of `tables`
    (fun t => t.ds.sel == 0x23 && t.ds.base == 0x040000 && t.read8 0x1025 == 0xF3) = true := by decide +kernel
theorem test_cli_user : runs user [0xFA] -- V80: vector 13 through its gate to level 0, with the error code 0
    (fun t => t.cpl == 0 && t.ip == 0x0200 && t.cs.sel == 0x08 && t.read16 0x0202F4 == 0 && t.read16 0x0202F6 == 0x10) = true := by
  decide +kernel

/-! Encodings that raise vector 6 and encodings the model refuses (V13), and terms no encoding stands for. -/

theorem test_illegal : ∀ b ∈ [[0x8D, 0xC0], [0xC5, 0xC0], [0xC4, 0xC0], [0x62, 0xC0], [0xFF, 0xD8], [0xFF, 0xE8], [0x8E, 0xC8], [0x64],
    [0x0F, 0x07], [0x0F, 0x10], [0x0F, 0xFF], [0xFF, 0xF8], ([0xFE, 0xD0] : List Byte)], decode b = .illegal := by decide +kernel
theorem test_reserved : ∀ b ∈ [[0xD6], [0xF1], [0x0F, 0x05], [0x0F, 0x04], [0xD0, 0xF0], [0xF6, 0xC8], ([0x8C, 0xE0] : List Byte)],
    decode b = .reserved := by decide +kernel
theorem test_illegal_saves_ip : runs (filled vec [(0x18, [0x40, 0x00, 0x00, 0x20])]) [0x8D, 0xC0] -- V100
    (fun t => t.cs.sel == 0x2000 && t.ip == 0x40 && onStack t 0xFA == 0x0100) = true := by decide +kernel

/-- BP alone is no base: its encoding is the direct address (30_encoding.md R130). -/
theorem test_illformed_base_bp :
    (RM8.mem (.base .bp)).wellFormed = false ∧ (RM16.mem (.base .bp)).wellFormed = false ∧ (Mem.base .bp).wellFormed = false ∧
    (Instr.addRm8R8 (.mem (.base .bp)) .al).wellFormed = false ∧ (Instr.addRm16R16 (.mem (.base .bp)) .ax).wellFormed = false ∧
    (Instr.lea .ax (.base .bp)).wellFormed = false := by decide
theorem test_illformed_others : (Instr.xchgAxR16 .ax).wellFormed = false ∧ (Instr.movSregRm16 .cs (.reg .ax)).wellFormed = false := by decide

/-! A concrete state for the hypotheses of every statement that has some, at a boundary of each clause. -/

theorem fits {s : State} {r : SReg} {off n : Nat} {w : Bool} (h : s.check r off n w 0 = .ok () := by decide +kernel) :
    Fits s r off n w := fits_of_check h

theorem unfit {s : State} {r : SReg} {off n : Nat} {w : Bool} (h : s.check r off n w 0 ≠ .ok () := by decide +kernel) :
    ¬Fits s r off n w := fun hf => h (check_of_fits hf)

/-- In Real Address Mode every violation is one of the limit. -/
theorem realExc {s : State} {r : SReg} {w : Bool} (h : s.msw.pe = false := by rfl) :
    AccessExc s r w (if r = .ss then .stackFault 0 else .generalProtection 0) :=
  .inr ⟨fun hp => absurd (h.symm.trans hp) (by decide), rfl⟩

theorem test_witness_RoundTrip : (Instr.addRm16Imm16 (.mem (.disp16 .bp 0xFFFF)) 0x8000).wellFormed = true := by decide

theorem test_witness_RejectedEncodings :
    (5 < (0x07 : Byte).toNat ∧ (0x07 : Byte) ≠ 0x06 ∧ 5 < (0xFF : Byte).toNat) ∧
    ((RM16.mem (.direct 0xFFFF)).wellFormed = true ∧ 6 ≤ (6 : BitVec 3).toNat ∧ (3 : BitVec 3).toNat ≤ 3 ∧
      2 ≤ (2 : BitVec 3).toNat ∧ 4 ≤ (4 : BitVec 3).toNat ∧ (1 : BitVec 3) ≠ 0) ∧
    (RM8.mem (.base .bx)).wellFormed = true := by decide

/-- A prefix of the 80386 at the next instruction, a reserved opcode, and an instruction cut off by the segment's end. -/
theorem test_witness_RejectedEncodings_steps :
    (real.pins.reset = false ∧ real.boundary = none ∧ real.again = none) ∧
    decode (filled real [(0xFF0010, [0x64])]).fetchBytes = .illegal ∧
    decode (filled real [(0xFF0010, [0xD6])]).fetchBytes = .reserved ∧
    decode (filled { real with ip := 0xFFFF } [(0xFFFFFF, [0xB8])]).fetchBytes = .short := by decide +kernel

/-- MOV AX, 1234 at the last bytes of the segment. -/
def atEnd : State := filled { real with ip := 0xFFFD } [(0xFFFFFD, [0xB8, 0x34, 0x12])]

theorem test_witness_StepRuns :
    (atEnd.pins.reset = false ∧ atEnd.boundary = none ∧ atEnd.again = none ∧
      decode atEnd.fetchBytes = .instr (.movR16Imm16 .ax 0x1234) [] ∧ (Instr.movR16Imm16 .ax 0x1234).wellFormed = true) ∧
    (between real .rep .movsb).boundary = none ∧
    State.reset.queueEmpty = true ∧ (real.queueEmpty = false ∧ real.mem = real.mem) := by decide +kernel

/-- The bytes 0 and 35 from `ip_next` on are still those before the store, the byte 36 is the new one. -/
theorem test_stale_window :
    ([0, 35, 36].map fun k => (real.finish (real.write8 (0xFF0012 + k) 0x90)).stale) =
      [[(0xFF0012, 0)], [(0xFF0035, 0)], []] := by decide +kernel

/-- The same after seven prefix bytes. -/
def afterPrefixes : State :=
  filled { real with pfx := { real.pfx with lock := true, count := 7 } } [(0xFF0017, [0xB8, 0x34, 0x12])]

theorem test_witness_StepRunsEncoded :
    ∀ s ∈ [atEnd, afterPrefixes], s.pins.reset = false ∧ s.boundary = none ∧ s.again = none ∧ s.stale = [] ∧
      s.pfx.count + (encode (.movR16Imm16 .ax 0x1234)).length ≤ 10 ∧
      s.ip.toNat + s.pfx.count + (encode (.movR16Imm16 .ax 0x1234)).length ≤ s.codeLimit + 1 ∧
      ∀ k (h : k < (encode (.movR16Imm16 .ax 0x1234)).length),
        s.physByte (physAddr s.msw.pe (s.linear .cs (s.ip.toNat + s.pfx.count + k))) =
          (encode (.movR16Imm16 .ax 0x1234))[k] := by decide +kernel

theorem test_witness_StepKeepsInv : Inv State.reset ∧ ∃ t, step (State.reset.withFetchWord 8 0x40) = .next t ∧ t.regs.ax = 1 :=
  ⟨⟨rfl, rfl, rfl, fun h => (nomatch h)⟩, by simpa using next_of_stepsTo (p := fun t => decide (t.regs.ax = 1)) (by decide +kernel)⟩

theorem test_witness_ModeChanges :
    (∃ t, step (kernel.withFetchWord 8 0x90) = .next t ∧ t.msw.pe = true) ∧
    (kernel.withFetchWord 8 0x90).pins.reset = false ∧ (kernel.withFetchWord 8 0x90).msw.pe = true ∧
    (∃ t, step { kernel with pins := { kernel.pins with reset := true } } = .next t ∧ t.msw.pe = false) ∧
    (∃ t, step ((regsOf real 1 0 0).withFetchWord 24 0xF0010F) = .next t ∧ t.msw.pe = true) := by
  refine ⟨?_, rfl, rfl, ?_, ?_⟩
  · simpa using next_of_stepsTo (p := fun t => t.msw.pe) (by decide +kernel)
  · simpa using next_of_stepsTo (p := fun t => !t.msw.pe) (by decide +kernel)
  · simpa using next_of_stepsTo (p := fun t => t.msw.pe) (by decide +kernel)

theorem test_witness_PrivilegeHolds :
    (∃ t, step (user.withFetchWord 8 0x90) = .next t ∧ t.cpl = 3) ∧ (user.withFetchWord 8 0x90).msw.pe = true ∧
    (user.withFetchWord 8 0x90).cpl ≠ 0 ∧ (user.withFetchWord 8 0x90).pins.reset = false ∧
    (∃ t, step (kernel.withFetchWord 8 0xEE) = .next t ∧ t.portTrace ≠ kernel.portTrace) := by
  refine ⟨?_, rfl, by decide, rfl, ?_⟩
  · simpa using next_of_stepsTo (p := fun t => decide (t.cpl = 3)) (by decide +kernel)
  · simpa using next_of_stepsTo (p := fun t => decide (t.portTrace ≠ kernel.portTrace)) (by decide +kernel)

theorem test_witness_Reset : ({ kernel with pins := { kernel.pins with reset := true } } : State).pins.reset = true := rfl

theorem test_witness_EventPriority :
    (∀ s ∈ [{ real with trapPending := true }, { real with nmiPending := true }, { real with nmiPending := true, shutdown := true },
        { real with halted := true, nmiPending := true, shadow := Shadow.ss }, { real with shutdown := true }],
      s.pins.reset = false ∧ s.pfx.count = 0) ∧
    ({ between real .rep .movsb with trapPending := true } : State).again ≠ none ∧
    ({ real with pins := { real.pins with overrun := true } } : State).pins.overrun = true ∧
    ({ real with pins := { real.pins with intr := some 0xFF }, flags := { real.flags with ifl := true } } : State).shadow = .none ∧
    ((withRep real .rep).pfx.count ≠ 0 ∧ (withRep real .rep).again = none) := by decide

theorem test_witness_SegmentAccess :
    Fits real .ds 0xFFFF 1 false ∧ Fits real .ds 0xFFFE 2 false ∧ Fits user .cs 0x0FFF 1 false ∧ ¬Fits user .cs 0x1000 1 false ∧
    ¬Fits real .ds 0xFFFF 2 false ∧ Fits kernel .ds 0xFFFF 1 true ∧ ¬Fits kernel .cs 0 1 true ∧ Fits kernel .ds 0xFFFE 2 true ∧
    ¬Fits kernel .ds 0xFFFF 2 true :=
  ⟨fits, fits, fits, unfit, unfit, fits, unfit, fits, unfit⟩

theorem test_witness_PushThenPop :
    ∃ t u, (withSp kernel 0).push 0 0x1234 = .ok t ∧ t.push 0 0x5678 = .ok u := ⟨_, _, rfl, rfl⟩

theorem test_witness_EffectiveAddress : real.pfx.seg = none ∧ (withSeg real .es).pfx.seg = some .es := by decide

theorem test_witness_DescriptorFetch :
    ((0x0080 : Word).getLsbD 2 = false ∧ (kernel.fetchDesc 0x0080).isSome ∧ kernel.fetchDesc 0x0088 = none) ∧
    ((0x000C : Word).getLsbD 2 = true ∧ (kernel.fetchDesc 0x000C).isSome ∧ kernel.fetchDesc 0x0014 = none) := by decide +kernel

theorem test_witness_AddSubtract :
    NoRep real ∧ Writable8 real (ByteForm.rmR (.mem (.direct 0xFFFF)) .al).dst ∧
    SrcReadable8 real (ByteForm.rRm .al (.mem (.direct 0xFFFF))).src ∧
    Writable16 kernel (WordForm.rmR (.mem (.direct 0xFFFE)) .ax).dst ∧
    SrcReadable16 user (WordForm.rRm .ax (.mem (.direct 0xFFFE))).src := ⟨rfl, fits, fits, fits, fits⟩

theorem test_witness_CmpTest :
    NoRep (withSeg user .cs) ∧ Readable8 (withSeg user .cs) (.mem (.direct 0x0FFF)) ∧
    SrcReadable8 (withSeg user .cs) (.inl (.mem (.direct 0x0FFF))) ∧ Readable16 (withSeg user .cs) (.mem (.direct 0x0FFE)) ∧
    SrcReadable16 (withSeg user .cs) (.inl (.mem (.direct 0x0FFE))) := ⟨rfl, fits, fits, fits, fits⟩

theorem test_witness_AndOrXor :
    NoRep kernel ∧ Writable8 kernel (.mem (.direct 0xFFFF)) ∧ SrcReadable8 kernel (.inl (.mem (.direct 0xFFFF))) ∧
    Writable16 kernel (.mem (.direct 0xFFFE)) ∧ SrcReadable16 kernel (.inl (.mem (.direct 0xFFFE))) := ⟨rfl, fits, fits, fits, fits⟩

theorem test_witness_OperandFaults :
    NoRep (withSeg user .cs) ∧
    ReadExc8 (withSeg user .cs) (.mem (.direct 0x1000)) (.generalProtection 0) ∧
    WriteExc8 (withSeg user .cs) (.mem (.direct 0x0FFF)) (.generalProtection 0) ∧
    ReadExc16 (withSeg real .ss) (.mem (.direct 0xFFFF)) (.stackFault 0) ∧
    ReadExc16 (withSeg user .cs) (.mem (.direct 0x0FFF)) (.generalProtection 0) ∧
    WriteExc16 (withSeg user .cs) (.mem (.direct 0x0FFE)) (.generalProtection 0) :=
  ⟨rfl, ⟨_, rfl, unfit, .inr ⟨fun _ => ⟨rfl, rfl⟩, rfl⟩⟩, ⟨_, rfl, fits, unfit, .inl ⟨rfl, fun h => absurd rfl h.2.1, rfl⟩⟩,
    ⟨_, rfl, unfit, realExc⟩, ⟨_, rfl, unfit, .inr ⟨fun _ => ⟨rfl, rfl⟩, rfl⟩⟩,
    ⟨_, rfl, fits, unfit, .inl ⟨rfl, fun h => absurd rfl h.2.1, rfl⟩⟩⟩

theorem test_witness_OperandFaults_writers :
    (¬Writable8 (withSeg user .cs) (.mem (.direct 0)) ∧ ¬Writable16 (withSeg user .cs) (.mem (.direct 0)) ∧
      AccessExc (withSeg user .cs) .cs true (.generalProtection 0)) ∧
    (ReadExc16 kernel (.mem (.direct 0xFFFF)) (.generalProtection 0) ∧ kernel.cpl = 0 ∧ NoRep kernel) ∧
    ¬Fits real .ds (real.ea (.direct 0xFFFD)).toNat 4 false ∧
    (¬Fits user .ds 0xFFFF 2 true ∧ ¬Fits (withSeg user .cs) .cs 0x1000 1 false) :=
  ⟨⟨unfit, unfit, .inl ⟨rfl, fun h => absurd rfl h.2.1, rfl⟩⟩,
    ⟨⟨_, rfl, unfit, .inr ⟨fun _ => ⟨rfl, rfl⟩, rfl⟩⟩, rfl, rfl⟩, unfit, unfit, unfit⟩

/-- SI at the end of a limit, and DI in a register that holds no segment. -/
theorem test_witness_OperandFaults_strings :
    (∀ n ∈ [1, 2], (withSeg user .cs).check .cs 0x1000 n false 0 ≠ .ok ()) ∧ ¬Fits real .ds 0xFFFF 2 false ∧
    (∀ n ∈ [1, 2], ({ kernel with es := { kernel.es with valid := false } } : State).check .es 0 n true 0 ≠ .ok () ∧
      ({ kernel with es := { kernel.es with valid := false } } : State).check .es 0 n false 0 ≠ .ok () ∧
      kernel.check .ds 0 n false 0 = .ok ()) ∧
    AccessExc { kernel with es := { kernel.es with valid := false } } .es true (.generalProtection 0) ∧
    kernel.cpl ≤ kernel.flags.iopl :=
  ⟨by decide +kernel, unfit, by decide +kernel, .inl ⟨rfl, fun h => absurd h.1 (by decide), rfl⟩, by decide⟩

theorem test_witness_OperandFaults_frames :
    (¬PushFits (withSp real 1) ∧ PushFits (withSp real 3) ∧ ¬Fits (withSp real 3) .ss ((withSp real 3).regs.sp - 4).toNat 2 true) ∧
    ¬Fits { real with regs := { real.regs with bp := 1 } } .ss ((1 : Word) - 2).toNat 2 false ∧
    (kernel.msw.pe = true ∧ ¬Fits (withSp kernel 3) .ss ((withSp kernel 3).regs.sp - 4).toNat 2 true) ∧
    ¬StackFits (withSp real 0xFFF1) 7 :=
  ⟨⟨unfit, fits, unfit⟩, unfit, ⟨rfl, unfit⟩, unfit⟩

theorem test_witness_IncDecNegNot :
    NoRep real ∧ Writable8 real (.mem (.direct 0xFFFF)) ∧ Writable16 real (.mem (.direct 0xFFFE)) := ⟨rfl, fits, fits⟩

theorem test_witness_ShiftsClosedForm :
    NoRep real ∧ Writable8 real (.mem (.direct 0xFFFF)) ∧ Writable16 real (.mem (.direct 0xFFFE)) ∧
    Count.value real (.imm 31) ≠ 0 ∧ Count.value real (.imm 32) = 0 ∧ Count.value real .one ≠ 0 ∧ Count.value real .cl ≠ 0 ∧
    Count.value (withCx real 0x20) .cl = 0 := ⟨rfl, fits, fits, by decide, by decide, by decide, by decide, by decide⟩

theorem test_witness_RotatesClosedForm :
    NoRep real ∧ Writable8 real (.mem (.direct 0xFFFF)) ∧ Writable16 real (.mem (.direct 0xFFFE)) ∧
    Count.value real (.imm 31) ≠ 0 ∧ Count.value real (.imm 32) = 0 ∧ Count.value real .one ≠ 0 ∧ Count.value real .cl ≠ 0 ∧
    Count.value (withCx real 0x20) .cl = 0 := ⟨rfl, fits, fits, by decide, by decide, by decide, by decide, by decide⟩

theorem test_witness_MulImul : NoRep real ∧ Readable8 real (.mem (.direct 0xFFFF)) ∧ Readable16 real (.mem (.direct 0xFFFE)) :=
  ⟨rfl, fits, fits⟩

/-- Quotients at both ends of their range, and one past them: the divisor is 16. -/
theorem test_witness_Division :
    ((value8 (regsOf real 0 0 0x10) (.reg .bl)) = 0x10 ∧ (value16 (regsOf real 0 0 0x10) (.reg .bx)) = 0x10 ∧
      value8 (regsOf real 0 0 0) (.reg .bl) = 0 ∧ value16 (regsOf real 0 0 0) (.reg .bx) = 0 ∧ NoRep real) ∧
    ((0x0FFF : Word).toNat / (0x10 : Byte).toNat ≤ 0xFF ∧ ¬(0x1000 : Word).toNat / (0x10 : Byte).toNat ≤ 0xFF) ∧
    ((0x000FFFFF : BitVec 32).toNat / (0x10 : Word).toNat ≤ 0xFFFF ∧ ¬(0x00100000 : BitVec 32).toNat / (0x10 : Word).toNat ≤ 0xFFFF) ∧
    (((0x07FF : Word).toInt.tdiv (0x10 : Byte).toInt = 127 ∧ (0x0800 : Word).toInt.tdiv (0x10 : Byte).toInt = 128 ∧
      (0xF800 : Word).toInt.tdiv (0x10 : Byte).toInt = -128 ∧ (0xF7F0 : Word).toInt.tdiv (0x10 : Byte).toInt = -129)) ∧
    ((0x0007FFFF : BitVec 32).toInt.tdiv (0x10 : Word).toInt = 32767 ∧ (0x00080000 : BitVec 32).toInt.tdiv (0x10 : Word).toInt = 32768 ∧
      (0xFFF80000 : BitVec 32).toInt.tdiv (0x10 : Word).toInt = -32768 ∧
      (0xFFF7FFF0 : BitVec 32).toInt.tdiv (0x10 : Word).toInt = -32769) := by
  refine ⟨?_, ?_, ?_, ?_, ?_⟩ <;> decide +kernel

theorem test_witness_DecimalAdjust : NoRep real ∧ (1 : Byte) ≠ 0 := by decide

theorem test_witness_SignExtension : NoRep real := rfl

theorem test_witness_MovForms :
    NoRep real ∧ Writable8 real (.mem (.direct 0xFFFF)) ∧ Readable8 real (.mem (.direct 0xFFFF)) ∧
    Writable16 real (.mem (.direct 0xFFFE)) ∧ Readable16 real (.mem (.direct 0xFFFE)) := ⟨rfl, fits, fits, fits, fits⟩

theorem test_witness_XchgNop : NoRep real ∧ Writable8 real (.mem (.base .bx)) ∧ Writable16 real (.mem (.direct 0xFFFE)) :=
  ⟨rfl, fits, fits⟩

theorem test_witness_PushForms :
    NoRep real ∧ PushFits (withSp real 0) ∧ ¬PushFits (withSp real 1) ∧ AccessExc (withSp real 1) .ss true (.stackFault 0) ∧
    (PushesWord real (.pushR16 .sp) 0x0100 ∧ PushesWord real (.pushRm16 (.mem (.direct 0xFFFE))) 0 ∧
      PushesWord real (.pushImm16 0x8000) 0x8000 ∧ PushesWord real (.pushImm8 0x80) 0xFF80 ∧ PushesWord real .pushEs 0 ∧
      PushesWord real .pushCs 0xF000 ∧ PushesWord real .pushSs 0 ∧ PushesWord real .pushDs 0 ∧ PushesWord real .pushf 0x0002) :=
  ⟨rfl, fits, unfit, realExc, .inl ⟨_, rfl, rfl⟩, .inr (.inl ⟨_, rfl, fits, rfl⟩), .inr (.inr (.inl rfl)),
    .inr (.inr (.inr (.inl ⟨_, rfl, by decide⟩))), .inr (.inr (.inr (.inr (.inl ⟨rfl, rfl⟩)))),
    .inr (.inr (.inr (.inr (.inr (.inl ⟨rfl, rfl⟩))))), .inr (.inr (.inr (.inr (.inr (.inr (.inl ⟨rfl, rfl⟩)))))),
    .inr (.inr (.inr (.inr (.inr (.inr (.inr (.inl ⟨rfl, rfl⟩))))))),
    .inr (.inr (.inr (.inr (.inr (.inr (.inr (.inr ⟨rfl, by decide⟩)))))))⟩

theorem test_witness_PopForms :
    NoRep real ∧ PopFits (withSp real 0xFFFE) ∧ Writable16 (withSp real 0xFFFE) (.mem (.direct 0xFFFE)) ∧
    ¬Writable16 (withSp real 0xFFFE) (.mem (.direct 0xFFFF)) ∧ AccessExc real .ds true (.generalProtection 0) ∧
    ¬PopFits (withSp real 0xFFFF) ∧ AccessExc (withSp real 0xFFFF) .ss false (.stackFault 0) :=
  ⟨rfl, fits, fits, unfit, realExc, unfit, realExc⟩

theorem test_witness_FlagAndAddressTransfers :
    NoRep (withSeg (regsOf user 0 0 0x0FFF) .cs) ∧ Fits (withSeg (regsOf user 0 0 0x0FFF) .cs) .cs 0x0FFF 1 false ∧
    ¬Fits (withSeg (regsOf user 1 0 0x0FFF) .cs) .cs 0x1000 1 false ∧
    AccessExc (withSeg (regsOf user 1 0 0x0FFF) .cs) .cs false (.generalProtection 0) :=
  ⟨rfl, fits, unfit, .inr ⟨fun _ => ⟨rfl, rfl⟩, rfl⟩⟩

/-- Level 3 with I/O privilege. -/
def userIo : State := { user with flags := { user.flags with iopl := 3 } }

theorem test_witness_InOut :
    NoRep userIo ∧ userIo.cpl ≤ userIo.flags.iopl ∧ userIo.regs.dx ≠ 0xFFFF ∧ (regsOf userIo 0 0xFFFF 0).regs.dx = 0xFFFF ∧
    user.msw.pe = true ∧ user.flags.iopl < user.cpl := by decide +kernel

/-- AX holds a selector to load. -/
def loading (sel : Word) : State := regsOf kernel sel 0 0

theorem test_witness_SegmentLoadsReal :
    NoRep real ∧ real.msw.pe = false ∧ Readable16 real (.mem (.direct 0xFFFE)) ∧ SReg.ss ≠ .cs ∧ PopFits (withSp real 0xFFFE) ∧
    (real.ea (.direct 0xFFFC)).toNat + 4 ≤ 0x10000 ∧ 0x10000 < (real.ea (.direct 0xFFFD)).toNat + 4 ∧
    AccessExc real .ds false (.generalProtection 0) := ⟨rfl, rfl, fits, by decide, fits, by decide, by decide, realExc⟩

theorem test_witness_SegmentLoadsProtected :
    (NoRep kernel ∧ kernel.msw.pe = true ∧ Readable16 (loading 3) (.reg .ax) ∧ (value16 (loading 3) (.reg .ax)).toNat < 4) ∧
    (4 ≤ (value16 (loading 0x88) (.reg .ax)).toNat ∧ (loading 0x88).fetchDesc 0x88 = none) ∧
    ((loading 0x10).fetchDesc 0x10 = some descData ∧ DataLoadable (loading 0x10) 0x10 descData ∧ arPresent descData.ar = true ∧
      StackLoadable (loading 0x10) 0x10 descData) ∧
    ((loading 0x50).fetchDesc 0x50 = some descAbsentData ∧ DataLoadable (loading 0x50) 0x50 descAbsentData ∧
      arPresent descAbsentData.ar = false ∧ StackLoadable (loading 0x50) 0x50 descAbsentData) ∧
    ¬DataLoadable (loading 0x13) 0x13 descData ∧ ¬StackLoadable (loading 0x13) 0x13 descData := by
  refine ⟨⟨rfl, rfl, trivial, by decide⟩, by decide +kernel, ⟨by decide +kernel, ⟨rfl, rfl, .inr (by decide)⟩, rfl, by decide, rfl, rfl⟩,
    ⟨by decide +kernel, ⟨rfl, rfl, .inr (by decide)⟩, rfl, by decide, rfl, rfl⟩, ?_, ?_⟩
  · rintro ⟨-, -, h | h⟩
    · exact absurd h (by decide)
    · exact absurd h.2 (by decide)
  · exact fun h => absurd h.1 (by decide)

/-- The top of the stack holds a selector, and so does a far pointer at DS:0100. -/
def popping (sel : Word) : State :=
  filled kernel [(0x020100, [loByte sel, hiByte sel, loByte sel, hiByte sel])]

theorem test_witness_PopAndPointerLoads :
    NoRep (popping 0x10) ∧ (popping 0x10).msw.pe = true ∧ PopFits (popping 0x10) ∧
    (∃ u, (popping 0x10).begin.loadSeg .ss (top (popping 0x10)) = .ok u) ∧
    (popping 0x50).begin.loadSeg .ss (top (popping 0x50)) = .error { exc := .stackFault 0x50, context := none } ∧
    Fits (popping 0x10) ((popping 0x10).segOf (.direct 0xFFFC)) ((popping 0x10).ea (.direct 0xFFFC)).toNat 4 false ∧
    Fits (popping 0x10) ((popping 0x10).segOf (.direct 0x0100)) ((popping 0x10).ea (.direct 0x0100)).toNat 4 false ∧
    (∃ u, (popping 0x10).begin.loadSeg .es (wordAt (popping 0x10) .ds 0x0102) = .ok u) ∧
    (popping 0x50).begin.loadSeg .ds (wordAt (popping 0x50) .ds 0x0102) = .error { exc := .notPresent 0x50, context := none } :=
  ⟨rfl, rfl, fits, ok_of_answers (by decide +kernel), by decide +kernel, fits, fits,
    ok_of_answers (by decide +kernel), by decide +kernel⟩

/-- The string pointers at the last byte and at the last word of their segments. -/
def pointers (s : State) (p : Word) : State := { s with regs := { s.regs with si := p, di := p } }

theorem test_witness_StringElement :
    NoRep real ∧ real.pfx.seg.getD .ds = .ds ∧ Fits (pointers real 0xFFFF) .ds 0xFFFF 1 false ∧
    Fits (pointers real 0xFFFF) .es 0xFFFF 1 true ∧ Fits (pointers real 0xFFFE) .ds 0xFFFE 2 false ∧
    Fits (pointers real 0xFFFE) .es 0xFFFE 2 true := ⟨rfl, rfl, fits, fits, fits, fits⟩

theorem test_witness_BlockIo :
    NoRep (pointers real 0xFFFE) ∧ real.msw.pe = false ∧ Fits (pointers real 0xFFFF) .es 0xFFFF 1 true ∧
    Fits (pointers real 0xFFFE) .es 0xFFFE 2 true ∧ Fits (pointers real 0xFFFE) .ds 0xFFFE 2 false ∧
    (regsOf real 0 0xFFFE 0).regs.dx ≠ 0xFFFF ∧ (regsOf real 0 0xFFFF 0).regs.dx = 0xFFFF ∧
    (user.msw.pe = true ∧ user.flags.iopl < user.cpl) :=
  ⟨rfl, rfl, fits, fits, fits, by decide, by decide, by decide +kernel⟩

/-- Every element runs in Real Address Mode, at port FFFF too, and one that would pass the end of its segment fails. -/
theorem test_witness_RepeatedString :
    ((∀ p ∈ [Rep.rep, .repne], (withRep real p).pfx.rep = some p) ∧ (withCx real 0).regs.cx = 0 ∧ (withCx real 1).regs.cx ≠ 0) ∧
    (∀ e ∈ elements, ∃ u, e.2.2.2 (withRep (regsOf real 0 0xFFFF 0) .rep).begin = .ok u) ∧
    (∀ op, WrapsPort (regsOf real 0 0xFFFF 0) op ↔ op = .insw ∨ op = .outsw) ∧
    (¬WrapsPort (regsOf real 0 0xFFFE 0) .insw ∧ ¬WrapsPort (regsOf real 0 0xFFFE 0) .outsw) ∧
    (Over (withCx real 1) .rep false ∧ ¬Over (withCx real 2) .rep false ∧ Over (withCx real 2) .rep true ∧
      ¬Over (withCx real 0) .repne true) ∧
    State.movsWord (pointers (withRep real .rep) 0xFFFF).begin = .error { exc := .generalProtection 0, context := none } ∧
    State.insWord (pointers (withRep (regsOf real 0 0xFFFF 0) .rep) 0xFFFF).begin =
      .error { exc := .generalProtection 0, context := none } ∧
    (∃ e ∈ elements, e.2.2.1 = true) ∧ (∃ e ∈ elements, e.2.2.1 = false) := by
  refine ⟨by decide, ?_, ?_, ?_, ?_, by decide +kernel, by decide +kernel,
    ⟨(.cmpsb, .cmpsb, true, State.cmpsByte), by simp [elements], rfl⟩,
    ⟨(.movsb, .movsb, false, State.movsByte), by simp [elements], rfl⟩⟩
  · intro e he
    fin_cases he <;> exact ⟨_, rfl⟩
  · exact fun op => ⟨fun h => h.2, fun h => ⟨rfl, h⟩⟩
  · exact ⟨fun h => absurd h.1 (by decide), fun h => absurd h.1 (by decide)⟩
  · unfold Over
    decide

theorem test_witness_ConditionalJumps :
    NoRep user ∧
    (∀ e ∈ jccs, ∃ f ∈ [user.flags, { user.flags with cf := true, pf := true, zf := true, sf := true, of := true },
        { user.flags with sf := true }], e.2.2 f = true) ∧
    (∀ e ∈ jccs, ∃ f ∈ [user.flags, { user.flags with cf := true, pf := true, zf := true, sf := true, of := true },
        { user.flags with sf := true }], e.2.2 f = false) ∧
    (0x0FFF : Word).toNat ≤ user.codeLimit ∧ user.codeLimit < (0x1000 : Word).toNat := by
  refine ⟨rfl, ?_, ?_, by decide +kernel, by decide +kernel⟩
  · intro e he; fin_cases he <;> decide +kernel
  · intro e he; fin_cases he <;> decide +kernel

theorem test_witness_Loops :
    NoRep user ∧ (withCx user 2).regs.cx ≠ 1 ∧ (withCx user 1).regs.cx = 1 ∧ (withCx user 0).regs.cx = 0 ∧
    (0x0FFF : Word).toNat ≤ user.codeLimit ∧ user.codeLimit < (0x1000 : Word).toNat := by decide +kernel

theorem test_witness_NearTransfers :
    NoRep user ∧ Readable16 user (.mem (.direct 0xFFFE)) ∧ (0x0FFF : Word).toNat ≤ user.codeLimit ∧
    user.codeLimit < (0x1000 : Word).toNat ∧ PushFits (withSp user 0) ∧ ¬PushFits (withSp user 1) ∧
    AccessExc (withSp user 1) .ss true (.stackFault 0) ∧ PopFits (withSp user 0xFFFE) ∧ ¬PopFits (withSp user 0xFFFF) ∧
    AccessExc (withSp user 0xFFFF) .ss false (.stackFault 0) :=
  ⟨rfl, fits, by decide +kernel, by decide +kernel, fits, unfit, .inr ⟨fun _ => ⟨rfl, by decide, rfl⟩, rfl⟩, fits, unfit,
    .inr ⟨fun _ => ⟨rfl, rfl⟩, rfl⟩⟩

theorem test_witness_FarTransfersReal :
    NoRep real ∧ real.msw.pe = false ∧ FarPointer real false (.jmpPtr 0x2000 0x0100) 0x2000 0x0100 ∧
    FarPointer real true (.callM16_16 (.direct 0xFFFC)) 0 0 ∧ ((withSp real 2).regs.sp ≠ 1 ∧ (withSp real 2).regs.sp ≠ 3) ∧
    (withSp real 3).regs.sp = 3 ∧ ((withSp real 0xFFFC).regs.sp ≠ 0xFFFF ∧ (withSp real 0xFFFC).regs.sp ≠ 0xFFFD) ∧
    (withSp real 0xFFFD).regs.sp = 0xFFFD :=
  ⟨rfl, rfl, .inl rfl, .inr ⟨_, rfl, fits, rfl, rfl⟩, by decide, rfl, by decide, rfl⟩

theorem test_witness_FarTransfersProtected :
    (NoRep kernel ∧ kernel.msw.pe = true ∧ FarPointer kernel false (.jmpPtr 3 0) 3 0 ∧ (3 : Word).toNat < 4) ∧
    (FarPointer kernel true (.callPtr 0x88 0) 0x88 0 ∧ 4 ≤ (0x88 : Word).toNat ∧ kernel.fetchDesc 0x88 = none) ∧
    (kernel.fetchDesc 0x10 = some descData ∧ arSegment descData.ar = true ∧ arCode descData.ar = false) ∧
    (kernel.fetchDesc 0x18 = some descUserCode ∧ arCode descUserCode.ar = true ∧ ¬CodeAllowed kernel 0x18 descUserCode) ∧
    (kernel.fetchDesc 0x60 = some descAbsentCode ∧ arCode descAbsentCode.ar = true ∧ CodeAllowed kernel 0x60 descAbsentCode ∧ arPresent descAbsentCode.ar = false) ∧
    (kernel.fetchDesc 0x48 = some descConforming ∧ arCode descConforming.ar = true ∧ CodeAllowed kernel 0x48 descConforming ∧ arPresent descConforming.ar = true ∧
      descConforming.limit.toNat < (0x1000 : Word).toNat ∧ (0x0FFF : Word).toNat ≤ descConforming.limit.toNat) ∧
    (kernel.fetchDesc 0x08 = some descCode ∧ arCode descCode.ar = true ∧ CodeAllowed kernel 0x08 descCode ∧
      arPresent descCode.ar = true ∧ (0xFFFF : Word).toNat ≤ descCode.limit.toNat) ∧
    (PushFits (withSp kernel 0) ∧ Fits (withSp kernel 0) .ss ((withSp kernel 0).regs.sp - 4).toNat 2 true) ∧
    (PushFits (withSp kernel 3) ∧ ¬(PushFits (withSp kernel 3) ∧ Fits (withSp kernel 3) .ss ((withSp kernel 3).regs.sp - 4).toNat 2 true) ∧
      AccessExc (withSp kernel 3) .ss true (.stackFault 0)) ∧
    (kernel.fetchDesc 0x28 = some descLdt ∧ descLdt.ar.getLsbD 4 = false ∧
      descLdt.ar.extractLsb' 0 4 ∉ [(4 : BitVec 4), 5, 1]) ∧
    (¬Fits kernel (kernel.segOf (.direct 0xFFFD)) (kernel.ea (.direct 0xFFFD)).toNat 4 false ∧
      AccessExc kernel .ds false (.generalProtection 0)) := by
  refine ⟨⟨rfl, rfl, .inl rfl, by decide⟩, ⟨.inl rfl, by decide, by decide +kernel⟩, ⟨by decide +kernel, rfl, rfl⟩, ⟨by decide +kernel, rfl, ?_⟩,
    ⟨by decide +kernel, rfl, ?_, rfl⟩, ⟨by decide +kernel, rfl, ?_, rfl, by decide, by decide⟩, ⟨by decide +kernel, rfl, ?_, rfl, by decide⟩, ⟨fits, fits⟩,
    ⟨fits, fun h => absurd h.2 unfit, .inr ⟨fun _ => ⟨rfl, by decide, rfl⟩, rfl⟩⟩, by decide +kernel,
    ⟨unfit, .inr ⟨fun _ => ⟨rfl, rfl⟩, rfl⟩⟩⟩
  all_goals unfold CodeAllowed; decide +kernel

/-- The return address is pushed on the access byte of the called segment before that is marked (20_memory.md R97). -/
theorem test_accessed_after_push :
    stepsTo (filled { withSp kernel 0x10 with ip := 0x1220, ss := cached 0x0010 0x001000 0xFFFF 0x93 }
      [(0x011220, [0x9A, 0x00, 0x01, 0x08, 0x00])]) (fun t => t.read16 0x100C == 0x1325 && t.ip == 0x0100) = true := by decide +kernel

/-- A stack that holds a return to level 3 above `n` bytes of parameters: 001B:0FFF, then SP 0040 and SS 0023. -/
def returning : State :=
  filled (withSp kernel 0xFFF6) [(0x02FFF6, [0xFF, 0x0F, 0x1B, 0x00, 0x02, 0x00, 0x40, 0x00, 0x23, 0x00])]

/-- A stack that holds a return to level 0: 0008:0100 and FLAGS. -/
def returningSame : State := filled (withSp kernel 0xFFFA) [(0x02FFFA, [0x00, 0x01, 0x08, 0x00, 0x02, 0x02])]

theorem test_witness_FarReturnsProtected :
    (NoRep returning ∧ returning.msw.pe = true ∧ StackFits returning 0 ∧ StackFits returning 1 ∧
      stackAt returning 0 = 0x0FFF ∧ stackAt returning 1 = 0x001B) ∧
    (CodeFound returning 0x1B (ReturnAllows (selRpl 0x1B)) descUserCode ∧ (0x0FFF : Word).toNat ≤ descUserCode.limit.toNat ∧
      returning.cpl < selRpl 0x1B ∧ Fits returning .ss returning.regs.sp.toNat (8 + (2 : Word).toNat) false ∧
      wordAt returning .ss (returning.regs.sp.toNat + 6 + (2 : Word).toNat) = 0x0023 ∧
      StackFound returning (selRpl 0x1B) 0x0023 descUserData) ∧
    (StackFits returningSame 0 ∧ StackFits returningSame 1 ∧ stackAt returningSame 1 = 0x0008 ∧
      CodeFound returningSame 0x08 (ReturnAllows (selRpl 0x08)) descCode ∧ selRpl 0x08 = returningSame.cpl) := by
  refine ⟨⟨rfl, rfl, fits, fits, by decide +kernel, by decide +kernel⟩, ⟨?_, by decide, by decide +kernel, fits, by decide +kernel, ?_⟩,
    ⟨fits, fits, by decide +kernel, ?_, by decide +kernel⟩⟩ <;> simp only [CodeFound, ReturnAllows, StackFound, StackAllowed] <;> decide +kernel

/-- A stack that holds IP, CS, a word (the parameters of RETF 2, the FLAGS of IRET), SP and SS. -/
def framed (ip cs sp ss : Word) : State :=
  filled (withSp kernel 0xFFF0) [(0x02FFF0, [ip, cs, 2, sp, ss].flatMap fun w => [loByte w, hiByte w])]

theorem framed_fits (ip cs sp ss : Word) :
    NoRep (framed ip cs sp ss) ∧ (framed ip cs sp ss).msw.pe = true ∧ (∀ k, k < 3 → StackFits (framed ip cs sp ss) k) ∧
      Fits (framed ip cs sp ss) .ss (framed ip cs sp ss).regs.sp.toNat (8 + (2 : Word).toNat) false := by
  have h : ∀ k, k < 3 → kernel.check .ss ((0xFFF0 : Word) + BitVec.ofNat 16 (2 * k)).toNat 2 false 0 = .ok () := by decide +kernel
  have h10 : kernel.check .ss (0xFFF0 : Word).toNat 10 false 0 = .ok () := by decide +kernel
  exact ⟨rfl, rfl, fun k hk => fits (h k hk), fits h10⟩

/-- Code and data of level 3 that are not present. -/
def absentUserCode : Desc := { descAbsentCode with ar := 0x7A }
def absentUserData : Desc := { descAbsentData with ar := 0x72 }

/-- Each check that fails, with RETF 2 (and with IRET, whose frame is the same): a word that may not be read; at the same level a
null selector, one outside the table, a data segment, code that is not present and an offset past the limit; outward the same and
a frame that ends past the limit; and the outer SS null, outside the table, of level 0 and not present. -/
theorem test_witness_FarReturnsProtected_fails :
    (∀ ip cs sp ss, NoRep (framed ip cs sp ss) ∧ (framed ip cs sp ss).msw.pe = true ∧ (∀ k, k < 3 → StackFits (framed ip cs sp ss) k) ∧
      Fits (framed ip cs sp ss) .ss (framed ip cs sp ss).regs.sp.toNat (8 + (2 : Word).toNat) false) ∧
    ((¬StackFits (withSp kernel 0xFFFF) 0 ∧ AccessExc (withSp kernel 0xFFFF) .ss false (.stackFault 0)) ∧
      (¬StackFits (withSp kernel 0xFFFD) 1 ∧ AccessExc (withSp kernel 0xFFFD) .ss false (.stackFault 0)) ∧
      selRpl 0x0008 < user.cpl) ∧
    (∀ c ∈ [((0 : Word), (0 : Word)), (0, 0x88), (0, 0x10), (0, 0x60), (0x1000, 0x48), (0, 3), (0, 0x8B), (0, 0x0B), (0, 0x63),
      (0x1000, 0x1B), (0x0FFF, 0x1B)], stackAt (framed c.1 c.2 0 0) 0 = c.1 ∧ stackAt (framed c.1 c.2 0 0) 1 = c.2 ∧
      (framed c.1 c.2 0 0).cpl = 0) ∧
    ((framed 0 0x88 0 0).fetchDesc 0x88 = none ∧
      ((framed 0 0x10 0 0).fetchDesc 0x10 = some descData ∧ ¬ReturnAllows 0 descData) ∧
      ((framed 0 0x60 0 0).fetchDesc 0x60 = some descAbsentCode ∧ ReturnAllows 0 descAbsentCode ∧ arPresent descAbsentCode.ar = false) ∧
      (CodeFound (framed 0x1000 0x48 0 0) 0x48 (ReturnAllows 0) descConforming ∧ descConforming.limit.toNat < (0x1000 : Word).toNat)) ∧
    (¬Fits (filled (withSp kernel 0xFFF8) [(0x02FFFA, [0x1B])]) .ss 0xFFF8 10 false ∧
      stackAt (filled (withSp kernel 0xFFF8) [(0x02FFFA, [0x1B])]) 1 = 0x1B ∧
      AccessExc (filled (withSp kernel 0xFFF8) [(0x02FFFA, [0x1B])]) .ss false (.stackFault 0)) ∧
    ((framed 0 0x8B 0 0).fetchDesc 0x8B = none ∧
      ((framed 0 0x0B 0 0).fetchDesc 0x0B = some descCode ∧ ¬ReturnAllows 3 descCode) ∧
      ((filled (framed 0 0x63 0 0) [(0x1065, [0x7A])]).fetchDesc 0x63 = some absentUserCode ∧ ReturnAllows 3 absentUserCode ∧
        arPresent absentUserCode.ar = false) ∧
      (CodeFound (framed 0x1000 0x1B 0 0) 0x1B (ReturnAllows 3) descUserCode ∧ descUserCode.limit.toNat < (0x1000 : Word).toNat)) ∧
    (CodeFound (framed 0x0FFF 0x1B 0 0x13) 0x1B (ReturnAllows 3) descUserCode ∧
      wordAt (framed 0x0FFF 0x1B 0 0x13) .ss ((framed 0x0FFF 0x1B 0 0x13).regs.sp.toNat + 6 + (2 : Word).toNat) = 0x13 ∧
      (framed 0x0FFF 0x1B 0 0x13).fetchDesc 0x13 = some descData ∧ ¬StackAllowed 3 0x13 descData ∧
      wordAt (framed 0x0FFF 0x1B 0 3) .ss ((framed 0x0FFF 0x1B 0 3).regs.sp.toNat + 6 + (2 : Word).toNat) = 3 ∧
      (framed 0x0FFF 0x1B 0 0x8B).fetchDesc 0x8B = none ∧
      (filled (framed 0x0FFF 0x1B 0 0x53) [(0x1055, [0x72])]).fetchDesc 0x53 = some absentUserData ∧
      StackAllowed 3 0x53 absentUserData ∧ arPresent absentUserData.ar = false) := by
  refine ⟨framed_fits, ⟨⟨unfit, .inr ⟨fun _ => ⟨rfl, rfl⟩, rfl⟩⟩, ⟨unfit, .inr ⟨fun _ => ⟨rfl, rfl⟩, rfl⟩⟩, by decide +kernel⟩, ?_, ?_,
    ⟨unfit, by decide +kernel, .inr ⟨fun _ => ⟨rfl, rfl⟩, rfl⟩⟩, ?_, ?_⟩ <;>
    simp only [CodeFound, ReturnAllows, StackAllowed, List.forall_mem_cons] <;> and_intros <;> first | decide +kernel | simp

/-- A far transfer to a present call gate of level 3 goes through it. -/
theorem through_gate {s : State} {call : Bool} {i : Instr} {sel off : Word} {g : Desc} (hf : FarPointer s call i sel off)
    (hd : s.fetchDesc sel = some g) (h : 4 ≤ sel.toNat ∧ arControl g.ar 4 = true ∧ arDpl g.ar = 3 ∧ arPresent g.ar = true) :
    ThroughCallGate s call i g := by
  have top : ∀ l : Level, l ≤ 3 := by decide
  exact ⟨sel, off, hf, h.1, hd, h.2.1, ⟨by rw [h.2.2.1]; exact top _, by rw [h.2.2.1]; exact top _⟩, h.2.2.2⟩

theorem test_witness_CallGates :
    (NoRep user ∧ user.msw.pe = true ∧ ThroughCallGate user true (.callPtr 0x43 0) gateInner ∧
      CodeFound user gateInner.gateSel (GateAllows user) descCode ∧ gateInner.gateOffset.toNat ≤ descCode.limit.toNat ∧
      arConforming descCode.ar = false ∧ arDpl descCode.ar < user.cpl ∧
      InnerStack user (arDpl descCode.ar) 0x0300 0x0010 descData ∧
      StackRoom (descData.toSeg 0x10) 0x0300 (4 + gateInner.gateCount)) ∧
    (∀ k, k < gateInner.gateCount → StackFits user k) ∧
    (ThroughCallGate user true (.callPtr 0x5B 0) gateSame ∧ ThroughCallGate user false (.jmpPtr 0x5B 0) gateSame ∧
      CodeFound user gateSame.gateSel (GateAllows user) descConforming ∧
      gateSame.gateOffset.toNat = descConforming.limit.toNat ∧ arConforming descConforming.ar = true) ∧
    PushFits user ∧ Fits user .ss (user.regs.sp - 4).toNat 2 true := by
  have hi : user.fetchDesc 0x43 = some gateInner := by decide +kernel
  have hs : user.fetchDesc 0x5B = some gateSame := by decide +kernel
  refine ⟨⟨rfl, rfl, through_gate (.inl rfl) hi (by decide +kernel), ?_⟩, ?_,
    ⟨through_gate (.inl rfl) hs (by decide +kernel), through_gate (.inl rfl) hs (by decide +kernel), ?_⟩, fits, fits⟩
  · simp only [CodeFound, GateAllows, InnerStack, StackFound, StackAllowed, StackRoom]
    and_intros <;> decide +kernel
  · intro k hk
    have : k = 0 ∨ k = 1 := by have : gateInner.gateCount = 2 := by decide
                               omega
    rcases this with rfl | rfl <;> exact fits
  · simp only [CodeFound, GateAllows]
    and_intros <;> decide +kernel

/-- `s` with the call gate of 40 changed to `sel`:`off`, and that gate. -/
def gateTo (s : State) (sel off : Word) : State := filled s [(0x1040, [loByte off, hiByte off, loByte sel])]
def toGate (sel off : Word) : Desc := { gateInner with limit := off, base := (0x02 : Byte) ++ sel }

/-- `s` with the stack of level 0 in its task state segment changed to `ss`:`sp`. -/
def innerTo (s : State) (sp ss : Word) : State := filled s [(0x3102, [loByte sp, hiByte sp, loByte ss, hiByte ss])]

/-- `user` with a task state segment that ends inside SS of level 0. -/
def shortTss : State := { user with tr := { user.tr with limit := 4 } }

/-- The gate of level 0 or not present; its target null, outside the table, data, not present, or its offset past the limit. -/
theorem test_witness_CallGates_fails_gate :
    ((filled user [(0x1045, [0x84])]).fetchDesc 0x43 = some { gateInner with ar := 0x84 } ∧
      ¬LevelMayUse (filled user [(0x1045, [0x84])]) 0x43 { gateInner with ar := 0x84 }) ∧
    (user.fetchDesc 0x7B = some gateAbsent ∧ arControl gateAbsent.ar 4 = true ∧ LevelMayUse user 0x7B gateAbsent ∧
      arPresent gateAbsent.ar = false) ∧
    (∀ c ∈ [((3 : Word), (0 : Word)), (0x88, 0), (0x10, 0), (0x60, 0), (0x48, 0x1000)],
      ThroughCallGate (gateTo user c.1 c.2) true (.callPtr 0x43 0) (toGate c.1 c.2) ∧ (toGate c.1 c.2).gateSel = c.1) ∧
    ((gateTo user 0x88 0).fetchDesc 0x88 = none ∧
      ((gateTo user 0x10 0).fetchDesc 0x10 = some descData ∧ ¬GateAllows (gateTo user 0x10 0) descData) ∧
      ((gateTo user 0x60 0).fetchDesc 0x60 = some descAbsentCode ∧ GateAllows (gateTo user 0x60 0) descAbsentCode ∧
        arPresent descAbsentCode.ar = false) ∧
      (CodeFound (gateTo user 0x48 0x1000) 0x48 (GateAllows (gateTo user 0x48 0x1000)) descConforming ∧
        descConforming.limit.toNat < (toGate 0x48 0x1000).gateOffset.toNat)) := by
  refine ⟨?_, ?_, ?_, ?_⟩
  · unfold LevelMayUse
    decide +kernel
  · unfold LevelMayUse
    decide +kernel
  · have h : ∀ c ∈ [((3 : Word), (0 : Word)), (0x88, 0), (0x10, 0), (0x60, 0), (0x48, 0x1000)],
        (gateTo user c.1 c.2).fetchDesc 0x43 = some (toGate c.1 c.2) ∧ (toGate c.1 c.2).gateSel = c.1 ∧
          4 ≤ (0x43 : Word).toNat ∧ arControl (toGate c.1 c.2).ar 4 = true ∧ arDpl (toGate c.1 c.2).ar = 3 ∧
          arPresent (toGate c.1 c.2).ar = true := by
      simp only [List.forall_mem_cons]
      and_intros <;> first | decide +kernel | simp
    exact fun c hc => ⟨through_gate (.inl rfl) (h c hc).1 (h c hc).2.2, (h c hc).2.1⟩
  · simp only [CodeFound, GateAllows]
    and_intros <;> decide +kernel

/-- No room for the second word of a CALL at the same level; a JMP inward; for a CALL inward a task state segment that is too short,
an inner SS that is null, outside the table, of RPL 1 or not present, no room for the last of the six words, and the second
parameter at offset FFFF. -/
theorem test_witness_CallGates_fails_stack :
    (ThroughCallGate (withSp user 3) true (.callPtr 0x5B 0) gateSame ∧
      ¬(PushFits (withSp user 3) ∧ Fits (withSp user 3) .ss ((withSp user 3).regs.sp - 4).toNat 2 true) ∧
      AccessExc (withSp user 3) .ss true (.stackFault 0)) ∧
    ThroughCallGate user false (.jmpPtr 0x43 0) gateInner ∧
    (ThroughCallGate shortTss true (.callPtr 0x43 0) gateInner ∧ shortTss.tr.limit.toNat < 4 + 4 * (0 : Level).toNat + 1) ∧
    (∀ c ∈ [((0x0300 : Word), (3 : Word)), (0x0300, 0x88), (0x0300, 0x11), (0x0300, 0x50), (0x000B, 0x10)],
      ThroughCallGate (innerTo user c.1 c.2) true (.callPtr 0x43 0) gateInner ∧
        (innerTo user c.1 c.2).read16 ((innerTo user c.1 c.2).tr.base.toNat + 4 + 4 * (0 : Level).toNat) = c.2) ∧
    ((innerTo user 0x0300 0x88).fetchDesc 0x88 = none ∧
      ((innerTo user 0x0300 0x11).fetchDesc 0x11 = some descData ∧ ¬StackAllowed 0 0x11 descData) ∧
      ((innerTo user 0x0300 0x50).fetchDesc 0x50 = some descAbsentData ∧ StackAllowed 0 0x50 descAbsentData ∧
        arPresent descAbsentData.ar = false) ∧
      (InnerStack (innerTo user 0x000B 0x10) 0 0x000B 0x10 descData ∧ ¬StackRoom (descData.toSeg 0x10) 0x000B (4 + gateInner.gateCount) ∧
        StackRoom (descData.toSeg 0x10) 0x000C (4 + gateInner.gateCount))) ∧
    (ThroughCallGate (withSp user 0xFFFD) true (.callPtr 0x43 0) gateInner ∧ InnerStack (withSp user 0xFFFD) 0 0x0300 0x10 descData ∧
      ¬StackFits (withSp user 0xFFFD) 1 ∧ AccessExc (withSp user 0xFFFD) .ss false (.stackFault 0)) := by
  have hs : (withSp user 3).fetchDesc 0x5B = some gateSame := by decide +kernel
  have hi : ∀ s ∈ [user, shortTss, withSp user 0xFFFD], s.fetchDesc 0x43 = some gateInner := by decide +kernel
  have hg : 4 ≤ (0x43 : Word).toNat ∧ arControl gateInner.ar 4 = true ∧ arDpl gateInner.ar = 3 ∧ arPresent gateInner.ar = true := by
    decide +kernel
  have hc : ∀ c ∈ [((0x0300 : Word), (3 : Word)), (0x0300, 0x88), (0x0300, 0x11), (0x0300, 0x50), (0x000B, 0x10)],
      (innerTo user c.1 c.2).fetchDesc 0x43 = some gateInner ∧
        (innerTo user c.1 c.2).read16 ((innerTo user c.1 c.2).tr.base.toNat + 4 + 4 * (0 : Level).toNat) = c.2 := by
    simp only [List.forall_mem_cons]
    and_intros <;> first | decide +kernel | simp
  refine ⟨⟨through_gate (.inl rfl) hs (by decide +kernel), fun h => absurd h.2 unfit, .inr ⟨fun _ => ⟨rfl, by decide, rfl⟩, rfl⟩⟩,
    through_gate (.inl rfl) (hi _ (by simp)) hg, ⟨through_gate (.inl rfl) (hi _ (by simp)) hg, by decide +kernel⟩,
    fun c h => ⟨through_gate (.inl rfl) (hc c h).1 hg, (hc c h).2⟩, ?_,
    ⟨through_gate (.inl rfl) (hi _ (by simp)) hg, ?_, unfit, .inr ⟨fun _ => ⟨rfl, rfl⟩, rfl⟩⟩⟩ <;>
    simp only [InnerStack, StackFound, StackAllowed, StackRoom] <;> and_intros <;> decide +kernel

theorem test_witness_InterruptsAndExceptionsReal :
    NoRep real ∧ RealRoom real 0xFF ∧ RealRoom (withSp real 6) 8 ∧
    ({ real with idtr := { base := 0, limit := 0x03FE } } : State).idtr.limit.toNat < 4 * (0xFF : Byte).toNat + 3 ∧
    ({ real with flags := { real.flags with of := true } } : State).flags.of = true ∧ real.flags.of = false ∧
    ((withSp real 0xFFFA).regs.sp ≠ 0xFFFF ∧ (withSp real 0xFFFA).regs.sp ≠ 0xFFFD ∧ (withSp real 0xFFFA).regs.sp ≠ 0xFFFB) ∧
    (Exc.generalProtection 0 ≠ .doubleFault ∧ RealRoom real (Exc.generalProtection 0).vector) ∧
    (RealRoom { real with idtr := { base := 0, limit := 35 } } 8 ∧ 35 < 4 * (Exc.extensionSegmentOverrun).vector.toNat + 3) ∧
    (34 < 4 * (Exc.doubleFault).vector.toNat + 3 ∧ (34 : Nat) < 35) ∧
    (RealRoom real 1 ∧ RealRoom real 2 ∧ RealRoom real 9 ∧ RealRoom real 0) ∧
    ((withSp real 5).regs.sp = 5 ∧ 4 * (0xFF : Byte).toNat + 3 ≤ (withSp real 5).idtr.limit.toNat) ∧
    ((withSp real 0xFFFF).regs.sp = 0xFFFF ∧ (withSp real 0xFFFD).regs.sp = 0xFFFD ∧ (withSp real 0xFFFB).regs.sp = 0xFFFB) := by
  refine ⟨rfl, ?_, ?_, by decide, rfl, rfl, by decide, ⟨by decide, ?_⟩, ⟨?_, by decide⟩, by decide, ⟨?_, ?_, ?_, ?_⟩, by decide +kernel,
    by decide +kernel⟩ <;> exact ⟨rfl, by decide, by decide, by decide, by decide⟩

theorem test_witness_ProtectedEntry :
    (kernel.msw.pe = true ∧ GateFor kernel 3 true gate3 ∧ CodeFound kernel gate3.gateSel (GateAllows kernel) descCode ∧
      gate3.gateOffset.toNat ≤ descCode.limit.toNat ∧ arDpl descCode.ar = kernel.cpl ∧ TypeOk kernel .ss true ∧
      StackRoom kernel.ss kernel.regs.sp (3 + [(0x1234 : Word)].length)) ∧
    (GateFor user 4 true gate4 ∧ CodeFound user gate4.gateSel (GateAllows user) descConforming ∧
      gate4.gateOffset.toNat = descConforming.limit.toNat ∧ arConforming descConforming.ar = true) ∧
    (GateFor user 3 true gate3 ∧ CodeFound user gate3.gateSel (GateAllows user) descCode ∧ arConforming descCode.ar = false ∧
      arDpl descCode.ar < user.cpl ∧ InnerStack user (arDpl descCode.ar) 0x0300 0x0010 descData ∧
      StackRoom (descData.toSeg 0x10) 0x0300 (5 + [(0x1234 : Word)].length)) ∧
    GateFor kernel 13 false gate13 := by
  simp only [GateFor, CodeFound, GateAllows, TypeOk, InnerStack, StackFound, StackAllowed, StackRoom, ↓reduceIte]
  and_intros <;> decide +kernel

/-- `s` with the gate of vector 13 changed to `sel`:`off`, and that gate. -/
def vectorTo (s : State) (sel off : Word) : State := filled s [(0x2068, [loByte off, hiByte off, loByte sel])]
def toVector (sel off : Word) : Desc := { gate13 with limit := off, base := (0 : Byte) ++ sel }

/-- A vector that ends past the table, without a gate, with a gate above the program's level, and with one that is not present; a
target that is null, outside the table, data, of level 3 for level 0, and not present. -/
theorem test_witness_ProtectedEntry_fails_gate :
    (({ kernel with idtr := { base := 0x2000, limit := 0x006E } } : State).idtr.limit.toNat < 8 * (13 : Byte).toNat + 7) ∧
    ¬EventGate (kernel.descAt (kernel.idtr.base.toNat + 8 * (0 : Byte).toNat)) ∧
    (gate13 = user.descAt (user.idtr.base.toNat + 8 * (13 : Byte).toNat) ∧ EventGate gate13 ∧ arDpl gate13.ar < user.cpl) ∧
    ({ gate13 with ar := 0x06 } = (filled kernel [(0x206D, [0x06])]).descAt (kernel.idtr.base.toNat + 8 * (13 : Byte).toNat) ∧
      EventGate { gate13 with ar := 0x06 } ∧ arPresent (0x06 : Byte) = false) ∧
    (∀ c ∈ [((3 : Word), (0 : Word)), (0x88, 0), (0x10, 0), (0x18, 0), (0x60, 0), (0x48, 0x1000)],
      GateFor (vectorTo kernel c.1 c.2) 13 false (toVector c.1 c.2) ∧ (toVector c.1 c.2).gateSel = c.1) ∧
    ((vectorTo kernel 0x88 0).fetchDesc 0x88 = none ∧
      ((vectorTo kernel 0x10 0).fetchDesc 0x10 = some descData ∧ ¬GateAllows (vectorTo kernel 0x10 0) descData) ∧
      ((vectorTo kernel 0x18 0).fetchDesc 0x18 = some descUserCode ∧ ¬GateAllows (vectorTo kernel 0x18 0) descUserCode) ∧
      ((vectorTo kernel 0x60 0).fetchDesc 0x60 = some descAbsentCode ∧ GateAllows (vectorTo kernel 0x60 0) descAbsentCode ∧
        arPresent descAbsentCode.ar = false)) := by
  simp only [EventGate, GateFor, GateAllows, List.forall_mem_cons]
  and_intros <;> first | decide +kernel | simp

/-- `kernel` with a stack segment that may not be used. -/
def noStack : State := { kernel with ss := { kernel.ss with valid := false } }

/-- `user` with code of level 0 that ends below the offset of vector 13. -/
def shortCode : State := filled user [(0x1008, [0xFF, 0x01])]

/-- At the same level a stack that may not be written, no room for the third word, and an offset past the limit; inward a task state
segment that is too short, an inner SS that is null, outside the table, of RPL 1 or not present, no room for the fifth word, and an
offset past the limit. -/
theorem test_witness_ProtectedEntry_fails_stack :
    (GateFor noStack 13 false gate13 ∧ CodeFound noStack gate13.gateSel (GateAllows noStack) descCode ∧ ¬TypeOk noStack .ss true) ∧
    (GateFor (withSp kernel 5) 13 false gate13 ∧ TypeOk (withSp kernel 5) .ss true ∧
      ¬StackRoom (withSp kernel 5).ss (withSp kernel 5).regs.sp (3 + (none : Option Word).toList.length)) ∧
    (CodeFound (vectorTo kernel 0x48 0x1000) 0x48 (GateAllows (vectorTo kernel 0x48 0x1000)) descConforming ∧
      TypeOk (vectorTo kernel 0x48 0x1000) .ss true ∧ StackRoom kernel.ss kernel.regs.sp (3 + (none : Option Word).toList.length) ∧
      descConforming.limit.toNat < (toVector 0x48 0x1000).gateOffset.toNat) ∧
    (GateFor shortTss 13 false gate13 ∧ CodeFound shortTss gate13.gateSel (GateAllows shortTss) descCode ∧
      shortTss.tr.limit.toNat < 4 + 4 * (arDpl descCode.ar).toNat + 1) ∧
    (∀ c ∈ [((0x0300 : Word), (3 : Word)), (0x0300, 0x88), (0x0300, 0x11), (0x0300, 0x50), (0x0009, 0x10)],
      GateFor (innerTo user c.1 c.2) 13 false gate13 ∧
        (innerTo user c.1 c.2).read16 ((innerTo user c.1 c.2).tr.base.toNat + 4 + 4 * (arDpl descCode.ar).toNat) = c.2) ∧
    ((innerTo user 0x0300 0x88).fetchDesc 0x88 = none ∧
      ((innerTo user 0x0300 0x11).fetchDesc 0x11 = some descData ∧ ¬StackAllowed 0 0x11 descData) ∧
      ((innerTo user 0x0300 0x50).fetchDesc 0x50 = some descAbsentData ∧ StackAllowed 0 0x50 descAbsentData ∧
        arPresent descAbsentData.ar = false) ∧
      (InnerStack (innerTo user 0x0009 0x10) 0 0x0009 0x10 descData ∧
        ¬StackRoom (descData.toSeg 0x10) 0x0009 (5 + (none : Option Word).toList.length))) ∧
    (GateFor shortCode 13 false gate13 ∧ InnerStack shortCode 0 0x0300 0x10 descData ∧
      CodeFound shortCode gate13.gateSel (GateAllows shortCode) { descCode with limit := 0x01FF } ∧
      (0x01FF : Word).toNat < gate13.gateOffset.toNat) := by
  simp only [GateFor, CodeFound, GateAllows, TypeOk, InnerStack, StackFound, StackAllowed, StackRoom, List.forall_mem_cons, ↓reduceIte]
  and_intros <;> first | decide +kernel | simp

theorem test_witness_ProtectedEvents :
    (user.msw.pe = true ∧ NoRep user ∧ user.flags.of = false ∧ ∃ t, user.begin.interrupt 3 true user.ipNext none = .ok t) ∧
    (∃ g, 8 * (13 : Byte).toNat + 7 ≤ user.idtr.limit.toNat ∧ g = user.descAt (user.idtr.base.toNat + 8 * (13 : Byte).toNat) ∧
      arControl g.ar 6 = true ∧ arDpl g.ar < user.cpl) ∧
    (Exc.generalProtection 0 ≠ .doubleFault ∧ ∃ t, user.interrupt 13 false user.ip (some 0) = .ok t) ∧
    (∃ t, user.interrupt 3 false user.ip none = .ok t) ∧
    (∀ n ∈ [(1 : Byte), 2, 9, 0xFF], ∃ t, real.interrupt n false real.ip none = .ok t) ∧
    (kernel.interrupt 1 false kernel.ip none = .error { exc := .generalProtection 0x0B, context := none } ∧
      kernel.interrupt 2 false kernel.ip none = .error { exc := .generalProtection 0x13, context := none } ∧
      kernel.interrupt 9 false kernel.ip none = .error { exc := .generalProtection 0x4B, context := none } ∧
      kernel.interrupt 0xFF false kernel.ip none = .error { exc := .generalProtection 0x7FB, context := none }) :=
  ⟨⟨rfl, rfl, rfl, ok_of_answers (by decide +kernel)⟩, ⟨_, by decide +kernel, rfl, by decide +kernel, by decide +kernel⟩,
    ⟨by decide, ok_of_answers (by decide +kernel)⟩, ok_of_answers (by decide +kernel),
    fun n hn => ok_of_answers (by revert n; decide +kernel), by decide +kernel, by decide +kernel, by decide +kernel,
    by decide +kernel⟩

/-- A vector outside the table or without a gate, while GeneralProtection, InvalidOpcode and a double fault are delivered. -/
theorem test_witness_ProtectedEvents_second :
    (({ kernel with idtr := { base := 0x2000, limit := 0x005F } } : State).interrupt 13 false kernel.ip (some 0) =
        .error { exc := .generalProtection 0x6B, context := none } ∧
      kernel.interrupt 8 false kernel.ip (some 0) = .error { exc := .generalProtection 0x43, context := none }) ∧
    (∃ t, (filled kernel [(0x2040, [0x00, 0x02, 0x08, 0x00, 0x00, 0x86])]).interrupt 8 false kernel.ip (some 0) = .ok t) ∧
    (kernel.interrupt 6 false kernel.ip none = .error { exc := .generalProtection 0x33, context := none } ∧
      ∃ t, kernel.interrupt 13 false kernel.ip (some 0x33) = .ok t) ∧
    ({ kernel with idtr := { base := 0x2000, limit := 0x005F } } : State).interrupt 13 false kernel.ip (some 0x33) =
      .error { exc := .generalProtection 0x6B, context := none } ∧
    ({ real with idtr := { base := 0, limit := 0x17 } } : State).interrupt 6 false real.ip none =
      .error { exc := .doubleFault, context := none } :=
  ⟨by decide +kernel, ok_of_answers (by decide +kernel), ⟨by decide +kernel, ok_of_answers (by decide +kernel)⟩,
    by decide +kernel, by decide +kernel⟩

theorem test_double_fault : -- R435
    ((filled kernel [(0x2040, [0x34, 0x02, 0x08, 0x00, 0x00, 0x86]), (0x206D, [0x06])]).deliver
      { exc := .generalProtection 0, context := none }).ip = 0x0234 := by decide +kernel
theorem test_shutdown : (kernel.deliver { exc := .doubleFault, context := none }).shutdown = true := by decide +kernel -- R436

theorem test_nmi : -- R453, R442
    stepsTo { filled vec [(8, [0x40, 0x00, 0x00, 0x20])] with nmiPending := true } (fun t =>
      t.cs.sel == 0x2000 && t.ip == 0x40 && onStack t 0xFA == 0x0100 && !t.nmiPending && t.nmiInService) = true := by decide +kernel

/-- A stack that holds IP, CS, FLAGS, SP and SS of level 3. -/
def returningOuter : State :=
  filled (withSp kernel 0xFFF6) [(0x02FFF6, [0xFF, 0x0F, 0x1B, 0x00, 0x02, 0x02, 0x40, 0x00, 0x23, 0x00])]

theorem test_witness_InterruptReturnProtected :
    (NoRep returningOuter ∧ returningOuter.msw.pe = true ∧ returningOuter.flags.nt = false ∧ StackFits returningOuter 0 ∧
      StackFits returningOuter 1 ∧ StackFits returningOuter 2 ∧ stackAt returningOuter 0 = 0x0FFF ∧
      stackAt returningOuter 1 = 0x001B ∧ CodeFound returningOuter 0x1B (ReturnAllows (selRpl 0x1B)) descUserCode ∧
      returningOuter.cpl < selRpl 0x1B ∧ Fits returningOuter .ss returningOuter.regs.sp.toNat 10 false ∧
      wordAt returningOuter .ss (returningOuter.regs.sp.toNat + 8) = 0x0023 ∧
      StackFound returningOuter (selRpl 0x1B) 0x0023 descUserData) ∧
    (StackFits returningSame 0 ∧ StackFits returningSame 1 ∧ StackFits returningSame 2 ∧ stackAt returningSame 1 = 0x0008 ∧
      CodeFound returningSame 0x08 (ReturnAllows (selRpl 0x08)) descCode ∧ selRpl 0x08 = returningSame.cpl ∧
      (stackAt returningSame 0).toNat ≤ descCode.limit.toNat) := by
  refine ⟨⟨rfl, rfl, rfl, fits, fits, fits, by decide +kernel, by decide +kernel, ?_, by decide +kernel, fits, by decide +kernel, ?_⟩,
    ⟨fits, fits, fits, by decide +kernel, ?_, by decide +kernel, by decide +kernel⟩⟩ <;>
    simp only [CodeFound, ReturnAllows, StackFound, StackAllowed] <;> decide +kernel

/-- FLAGS at offset FFFF; a frame of three words with a null selector, also of RPL 3; and the other checks with the frames of
`test_witness_FarReturnsProtected_fails`. -/
theorem test_witness_InterruptReturnProtected_fails :
    (∀ c ∈ [((0 : Word), (0 : Word)), (0, 0x88), (0, 0x10), (0, 0x60), (0x1000, 0x48), (0, 3), (0, 0x8B), (0, 0x0B), (0, 0x63),
      (0x1000, 0x1B)], NoRep (framed c.1 c.2 0 0) ∧ (framed c.1 c.2 0 0).msw.pe = true ∧ (framed c.1 c.2 0 0).flags.nt = false) ∧
    (¬StackFits (withSp kernel 0xFFFB) 2 ∧ AccessExc (withSp kernel 0xFFFB) .ss false (.stackFault 0)) ∧
    (∀ k, k < 3 → StackFits (framed 0 3 0 0) k) ∧ (stackAt (framed 0 3 0 0) 1).toNat < 4 ∧
    stackAt (filled (withSp kernel 0xFFF8) [(0x02FFFA, [0x1B])]) 1 = 0x1B ∧
    (∀ k, k < 3 → StackFits (filled (withSp kernel 0xFFF8) [(0x02FFFA, [0x1B])]) k) ∧
    ¬Fits (filled (withSp kernel 0xFFF8) [(0x02FFFA, [0x1B])]) .ss 0xFFF8 10 false := by
  refine ⟨fun c _ => ⟨rfl, rfl, rfl⟩, ⟨unfit, .inr ⟨fun _ => ⟨rfl, rfl⟩, rfl⟩⟩, (framed_fits _ _ _ _).2.2.1, by decide +kernel,
    by decide +kernel, fun k hk => ?_, unfit⟩
  interval_cases k <;> exact fits

def nested : State := { kernel with flags := { kernel.flags with nt := true } }

/-- `kernel` with a task gate of level 3 at 78 and one of level 0 for vector 2, both to the task of 30. -/
def gated : State :=
  filled kernel [(0x1078, [0x00, 0x00, 0x30, 0x00, 0x00, 0xE5]), (0x2010, [0x00, 0x00, 0x30, 0x00, 0x00, 0x85])]

def taskGate : Desc := { addr := 0x1078, limit := 0, base := 0x000030, ar := 0xE5 }
def taskGate2 : Desc := { addr := 0x2010, limit := 0, base := 0x000030, ar := 0x85 }

theorem test_witness_TaskSwitch_switches :
    (NoRep kernel ∧ kernel.msw.pe = true ∧ AsksFor kernel (.jmpPtr 0x30 0) .jmp 0x30 descTask ∧
      AsksFor kernel (.callPtr 0x30 0) .call 0x30 descTask ∧ AsksFor gated (.callPtr 0x78 0) .call 0x30 descTask ∧
      AsksFor nested .iret .iret 0x80 descBusyTask) ∧
    ((0x30 : Word).getLsbD 2 = false ∧ kernel.fetchDesc 0x30 = some descTask ∧ gated.fetchDesc 0x30 = some descTask ∧
      nested.fetchDesc 0x80 = some descBusyTask ∧ arPresent descTask.ar = true ∧ arPresent descBusyTask.ar = true ∧
      43 = descTask.limit.toNat ∧ 43 = descBusyTask.limit.toNat) ∧
    (∃ u, (kernel.begin.leaveTask 0x30 descTask .jmp kernel.ipNext).enterTask 0 = .ok u) ∧
    (∃ u, (kernel.begin.leaveTask 0x30 descTask .call kernel.ipNext).enterTask 0 = .ok u) ∧
    (∃ u, (gated.begin.leaveTask 0x30 descTask .call gated.ipNext).enterTask 0 = .ok u) ∧
    (∃ u, (nested.begin.leaveTask 0x80 descBusyTask .iret nested.ipNext).enterTask 0 = .ok u) := by
  have hg : gated.fetchDesc 0x78 = some taskGate := by decide +kernel
  refine ⟨⟨rfl, rfl, .inl ⟨false, 0, .inl rfl, rfl, by decide, by unfold LevelMayUse; decide +kernel, rfl⟩,
      .inl ⟨true, 0, .inl rfl, rfl, by decide, by unfold LevelMayUse; decide +kernel, rfl⟩,
      .inr (.inl ⟨true, ⟨0x78, 0, taskGate, .inl rfl, by decide, hg, rfl, by unfold LevelMayUse; decide +kernel, rfl, by decide⟩,
        rfl, rfl⟩),
      .inr (.inr ⟨rfl, rfl, rfl, by decide +kernel, rfl⟩)⟩, by decide +kernel, ok_of_answers (by decide +kernel),
    ok_of_answers (by decide +kernel), ok_of_answers (by decide +kernel), ok_of_answers (by decide +kernel)⟩

/-- The state a switch leaves behind where it ends, or `kernel`. -/
def value (m : Res State) : State :=
  match m with
  | .ok t => t
  | .error _ => kernel

/-- `kernel` as a task switch may find it, with other selectors to load. -/
def incoming (ldt cs ss ds es ip : Word) : State :=
  { kernel with
    ldtr := { kernel.ldtr with sel := ldt }, cs := { kernel.cs with sel := cs }, ss := { kernel.ss with sel := ss }
    ds := { kernel.ds with sel := ds }, es := { kernel.es with sel := es }, ip := ip }

def afterLdt (s : State) : State := value (s.switchLdt 0)
def atLevel (s : State) : State := { afterLdt s with cpl := selRpl (afterLdt s).cs.sel }
def afterCs (s : State) : State := value ((atLevel s).switchCs 0)
def afterSs (s : State) : State := value ((afterCs s).switchSs 0)
def afterDs (s : State) : State := value ((afterSs s).switchData .ds 0)
def afterEs (s : State) : State := value ((afterDs s).switchData .es 0)

/-- The first register that fails is LDTR, CS, SS, DS, ES, and then IP; the last switch completes. -/
theorem test_witness_TaskSwitch_entered :
    (incoming 0x10 0x08 0x10 0 0 0).switchLdt 0 = .error { exc := .invalidTss 0x10, context := none } ∧
    (∀ s ∈ [incoming 0x28 0x10 0x10 0 0 0, incoming 0 0x08 0x08 0 0 0, incoming 0 0x08 0x10 0x50 0 0, incoming 0 0x08 0x10 0 0x88 0,
        incoming 0 0x48 0x10 0 0x10 0x1000, incoming 0 0x48 0x10 0x10 0x0F 0x0FFF], s.switchLdt 0 = .ok (afterLdt s)) ∧
    (atLevel (incoming 0x28 0x10 0x10 0 0 0)).switchCs 0 = .error { exc := .invalidTss 0x10, context := none } ∧
    (∀ s ∈ [incoming 0 0x08 0x08 0 0 0, incoming 0 0x08 0x10 0x50 0 0, incoming 0 0x08 0x10 0 0x88 0, incoming 0 0x48 0x10 0 0x10 0x1000,
        incoming 0 0x48 0x10 0x10 0x10 0x0FFF], (atLevel s).switchCs 0 = .ok (afterCs s)) ∧
    (afterCs (incoming 0 0x08 0x08 0 0 0)).switchSs 0 = .error { exc := .invalidTss 0x08, context := none } ∧
    (∀ s ∈ [incoming 0 0x08 0x10 0x50 0 0, incoming 0 0x08 0x10 0 0x88 0, incoming 0 0x48 0x10 0 0x10 0x1000,
        incoming 0 0x48 0x10 0x10 0x10 0x0FFF], (afterCs s).switchSs 0 = .ok (afterSs s)) ∧
    (afterSs (incoming 0 0x08 0x10 0x50 0 0)).switchData .ds 0 = .error { exc := .notPresent 0x50, context := none } ∧
    (∀ s ∈ [incoming 0 0x08 0x10 0 0x88 0, incoming 0 0x48 0x10 0 0x10 0x1000, incoming 0 0x48 0x10 0x10 0x10 0x0FFF],
      (afterSs s).switchData .ds 0 = .ok (afterDs s)) ∧
    (afterDs (incoming 0 0x08 0x10 0 0x88 0)).switchData .es 0 = .error { exc := .generalProtection 0x88, context := none } ∧
    (∀ s ∈ [incoming 0 0x48 0x10 0 0x10 0x1000, incoming 0 0x48 0x10 0x10 0x10 0x0FFF],
      (afterDs s).switchData .es 0 = .ok (afterEs s)) ∧
    (afterEs (incoming 0 0x48 0x10 0 0x10 0x1000)).cs.limit.toNat < 0x1000 ∧
    (afterEs (incoming 0 0x48 0x10 0x10 0x10 0x0FFF)).cs.limit.toNat = 0x0FFF := by
  refine ⟨?_, ?_, ?_, ?_, ?_, ?_, ?_, ?_, ?_, ?_, ?_, ?_⟩ <;> decide +kernel

/-- A task whose DS is not present is entered and raises there. -/
theorem test_witness_TaskSwitch_fails :
    ((filled kernel [(0x3028, [0x50])]).begin.leaveTask 0x30 descTask .jmp kernel.ipNext).enterTask 0 =
      .error { exc := .notPresent 0x50, context := some (afterSs
        ((filled kernel [(0x3028, [0x50])]).begin.leaveTask 0x30 descTask .jmp kernel.ipNext)) } := by decide +kernel

theorem test_witness_TaskSwitch_segments :
    ((0x04 : Word).getLsbD 2 = true ∧ kernel.fetchDesc 0x88 = none ∧ kernel.fetchDesc 0x28 = some descLdt ∧
      arControl descLdt.ar 2 = true ∧ arPresent descLdt.ar = true ∧ kernel.fetchDesc 0x68 = some descAbsentLdt ∧
      arControl descAbsentLdt.ar 2 = true ∧ arPresent descAbsentLdt.ar = false ∧ (3 : Word).toNat < 4) ∧
    (kernel.fetchDesc 0x08 = some descCode ∧ arCode descCode.ar = true ∧ arDpl descCode.ar = kernel.cpl ∧
      kernel.fetchDesc 0x60 = some descAbsentCode ∧ arDpl descAbsentCode.ar = kernel.cpl ∧ arPresent descAbsentCode.ar = false ∧
      arCode descData.ar = false) ∧
    (StackLoadable kernel 0x10 descData ∧ StackLoadable kernel 0x50 descAbsentData ∧ ¬StackLoadable kernel 0x11 descData) ∧
    (DataLoadable kernel 0x10 descData ∧ DataLoadable kernel 0x50 descAbsentData ∧ ¬DataLoadable kernel 0x28 descLdt) := by
  refine ⟨by decide +kernel, by decide +kernel, ?_, ?_⟩
  · unfold StackLoadable
    decide +kernel
  · unfold DataLoadable
    decide +kernel

/-- A task state segment of the local table, and one that is a byte too short. -/
def shortTasks : State := filled gated [(0x1808, [0x2B, 0, 0, 0x30, 0, 0xE1]), (0x1030, [0x2A])]

theorem test_witness_TaskSwitch_faults :
    (NoRep user ∧ FarPointer user false (.jmpPtr 0x70 0) 0x70 0 ∧ user.fetchDesc 0x70 = some descAbsentTask ∧
      arControl descAbsentTask.ar 1 = true ∧ ¬LevelMayUse user 0x70 descAbsentTask) ∧
    (LevelMayUse kernel 0x70 descAbsentTask ∧ arPresent descAbsentTask.ar = false) ∧
    (∃ d, shortTasks.fetchDesc 0x0C = some d ∧ arControl d.ar 1 = true ∧ arPresent d.ar = true ∧ (0x0C : Word).getLsbD 2 = true) ∧
    (∃ d, shortTasks.fetchDesc 0x30 = some d ∧ arControl d.ar 1 = true ∧ arPresent d.ar = true ∧ d.limit.toNat = 42) ∧
    ThroughTaskGate shortTasks true (.callPtr 0x78 0) 0x30 ∧
    (kernel.fetchDesc 0x88 = none ∧ kernel.fetchDesc 0x80 = some descBusyTask ∧ arControl descBusyTask.ar 1 = false ∧
      arControl descTask.ar 3 = false) := by
  have hg : shortTasks.fetchDesc 0x78 = some taskGate := by decide +kernel
  exact ⟨⟨rfl, .inl rfl, by decide +kernel, rfl, by unfold LevelMayUse; decide +kernel⟩,
    ⟨by unfold LevelMayUse; decide +kernel, rfl⟩, ⟨_, rfl, by decide +kernel, by decide +kernel, by decide⟩,
    ⟨_, rfl, by decide +kernel, by decide +kernel, by decide +kernel⟩,
    ⟨0x78, 0, taskGate, .inl rfl, by decide, hg, rfl, by unfold LevelMayUse; decide +kernel, rfl, by decide⟩, by decide +kernel⟩

/-- The NMI, and an INT with an error code, through the task gate of vector 2. -/
theorem test_witness_TaskSwitch_gate :
    (gated.msw.pe = true ∧ 8 * (2 : Byte).toNat + 7 ≤ gated.idtr.limit.toNat ∧
      taskGate2 = gated.descAt (gated.idtr.base.toNat + 8 * (2 : Byte).toNat) ∧ arControl taskGate2.ar 5 = true ∧
      gated.cpl ≤ arDpl taskGate2.ar ∧ arPresent taskGate2.ar = true ∧ taskGate2.gateSel = 0x30) ∧
    (∃ u, (gated.leaveTask 0x30 descTask .nested gated.ip).enterTask 1 = .ok u ∧ PushFits u) ∧
    (∃ u, ((filled gated [(0x301A, [0x01, 0x00])]).leaveTask 0x30 descTask .nested gated.ip).enterTask 1 = .ok u ∧ ¬PushFits u) ∧
    ((filled gated [(0x3028, [0x50])]).leaveTask 0x30 descTask .nested gated.ip).enterTask 1 =
      .error { exc := .notPresent 0x51, context := some (afterSs
        ((filled gated [(0x3028, [0x50])]).leaveTask 0x30 descTask .nested gated.ip)) } :=
  ⟨by decide +kernel, ⟨value ((gated.leaveTask 0x30 descTask .nested gated.ip).enterTask 1), by decide +kernel, fits⟩,
    ⟨value (((filled gated [(0x301A, [0x01, 0x00])]).leaveTask 0x30 descTask .nested gated.ip).enterTask 1), by decide +kernel, unfit⟩,
    by decide +kernel⟩

/-- A task gate and a back link with a null selector, entry 0 of the table holding a task state segment; TR not loaded. -/
theorem test_null_task :
    ThroughTaskGate (filled gated [(0x1000, [0x2B, 0, 0, 0x30, 0, 0xE1]), (0x107A, [0x03])]) false (.jmpPtr 0x78 0) 0x0003 ∧
    (filled gated [(0x1000, [0x2B, 0, 0, 0x30, 0, 0xE1]), (0x107A, [0x03])]).farJump 0x78 0 =
      .error { exc := .generalProtection 0, context := none } ∧
    (filled nested [(0x1000, [0x2B, 0, 0, 0x30, 0, 0xE3]), (0x3100, [0x02])]).interruptReturn =
      .error { exc := .invalidTss 0, context := none } ∧
    (({ filled kernel [(0x1005, [0xE3])] with tr := State.reset.tr } : State).leaveTask 0x30 descTask .jmp 0).read8 0x1005 = 0xE3 := by
  have hg : (filled gated [(0x1000, [0x2B, 0, 0, 0x30, 0, 0xE1]), (0x107A, [0x03])]).fetchDesc 0x78 =
      some { taskGate with base := 0x000003 } := by decide +kernel
  exact ⟨⟨0x78, 0, _, .inl rfl, by decide, hg, rfl, by unfold LevelMayUse; decide +kernel, rfl, by decide⟩, by decide +kernel,
    by decide +kernel, by decide +kernel⟩

/-- BP is the offset of the word that LEAVE pops. -/
def withBp (s : State) (bp : Word) : State := { s with regs := { s.regs with bp := bp } }

theorem test_witness_ProcedureInstructions_enter :
    NoRep real ∧ (2 : Nat) = (0x22 : Byte).toNat % 32 ∧
    (∀ j, j ≤ 2 → Fits (withSp real 6) .ss ((withSp real 6).regs.sp - BitVec.ofNat 16 (2 * (j + 1))).toNat 2 true) ∧
    (∀ k, k + 1 < 2 → Fits (withSp real 6) .ss ((withSp real 6).regs.bp - BitVec.ofNat 16 (2 * (k + 1))).toNat 2 false) ∧
    (∀ j k, j ≤ 2 → k + 1 < 2 →
      ((withSp real 6).regs.bp - BitVec.ofNat 16 (2 * (k + 1))).toNat + 2 ≤
          ((withSp real 6).regs.sp - BitVec.ofNat 16 (2 * (j + 1))).toNat ∨
        ((withSp real 6).regs.sp - BitVec.ofNat 16 (2 * (j + 1))).toNat + 2 ≤
          ((withSp real 6).regs.bp - BitVec.ofNat 16 (2 * (k + 1))).toNat) := by
  refine ⟨rfl, by decide, fun j hj => ?_, fun k hk => ?_, fun j k hj hk => ?_⟩
  · interval_cases j <;> exact fits
  · obtain rfl : k = 0 := by omega
    exact fits
  · obtain rfl : k = 0 := by omega
    interval_cases j <;> decide +kernel

theorem test_witness_ProcedureInstructions_leave :
    Fits (withBp real 0xFFFE) .ss 0xFFFE 2 false ∧ ¬Fits (withBp real 0xFFFF) .ss 0xFFFF 2 false ∧
    AccessExc (withBp real 0xFFFF) .ss false (.stackFault 0) := ⟨fits, unfit, realExc⟩

theorem test_witness_ProcedureInstructions_pusha :
    (∀ k, k < 8 → Fits (withSp real 16) .ss ((withSp real 16).regs.sp - BitVec.ofNat 16 (2 * (k + 1))).toNat 2 true) ∧
    (∀ k, k < 8 → Fits (withSp real 0xFFF0) .ss ((withSp real 0xFFF0).regs.sp + BitVec.ofNat 16 (2 * k)).toNat 2 false) ∧
    ((1 : Word).toNat % 2 = 1 ∧ (15 : Word).toNat % 2 = 1 ∧ (15 : Word).toNat < 16) := by
  refine ⟨fun k hk => ?_, fun k hk => ?_, by decide⟩ <;> interval_cases k <;> exact fits

theorem test_witness_FlagInstructions : NoRep real := rfl

theorem test_witness_InterruptFlagAndHalt :
    (NoRep real ∧ real.msw.pe = false ∧ real.flags.ifl = false) ∧ (userIo.flags.ifl = false ∧ userIo.cpl ≤ userIo.flags.iopl) ∧
    (user.msw.pe = true ∧ user.flags.iopl < user.cpl) := by decide +kernel

theorem test_witness_WaitEsc :
    (NoRep real ∧ real.msw.mp = false ∧ real.msw.em = false ∧ real.msw.ts = false ∧ real.pins.busy = false ∧ real.pins.error = false) ∧
    ({ real with msw := { real.msw with mp := true, ts := true } } : State).msw.ts = true ∧
    ({ real with pins := { real.pins with busy := true } } : State).pins.busy = true ∧
    ({ real with pins := { real.pins with error := true } } : State).pins.error = true ∧ RealRoom real 7 :=
  ⟨by decide, rfl, rfl, rfl, ⟨by decide, by decide, by decide, by decide⟩⟩

theorem test_witness_Prefixes :
    real.pfx.seg = none ∧ (withSeg real .es).pfx.seg ≠ none ∧ real.pfx.rep = none ∧ (withRep real .rep).pfx.rep ≠ none ∧
    real.pfx.lock = false ∧ afterPrefixes.pfx.lock = true ∧ (real.msw.pe = false) ∧
    (user.msw.pe = true ∧ user.flags.iopl < user.cpl) ∧ Instr.nop ∉ [Instr.movsb, .lock] := by decide +kernel

theorem test_witness_SystemRegisters :
    NoRep kernel ∧ Kernel kernel ∧ Kernel real ∧ Fits kernel .ds 0xFFFA 6 false ∧ ¬Fits kernel .ds 0xFFFB 6 false ∧
    AccessExc kernel .ds false (.generalProtection 0) ∧ Fits kernel .ds 0xFFFA 6 true ∧ ¬Fits kernel .ds 0xFFFB 6 true ∧
    AccessExc kernel .ds true (.generalProtection 0) ∧ Readable16 kernel (.mem (.direct 0xFFFE)) ∧
    Writable16 kernel (.mem (.direct 0xFFFE)) ∧ kernel.msw.pe = true :=
  ⟨rfl, .inr rfl, .inl rfl, fits, unfit, .inr ⟨fun _ => ⟨rfl, rfl⟩, rfl⟩, fits, unfit,
    .inr ⟨fun _ => ⟨rfl, by decide, rfl⟩, rfl⟩, fits, fits, rfl⟩

theorem test_witness_LoadLdtAndTask :
    (NoRep kernel ∧ kernel.msw.pe = true ∧ kernel.cpl = 0 ∧ Readable16 kernel (.reg .ax) ∧ (3 : Word).toNat < 4) ∧
    ((0x0C : Word).getLsbD 2 = true ∧ kernel.fetchDesc 0x88 = none ∧ (0x28 : Word).getLsbD 2 = false) ∧
    (kernel.fetchDesc 0x28 = some descLdt ∧ descLdt.ar.getLsbD 4 = false ∧ descLdt.ar.extractLsb' 0 4 = (2 : BitVec 4) ∧ arPresent descLdt.ar = true) ∧
    (kernel.fetchDesc 0x68 = some descAbsentLdt ∧ descAbsentLdt.ar.getLsbD 4 = false ∧ descAbsentLdt.ar.extractLsb' 0 4 = (2 : BitVec 4) ∧ arPresent descAbsentLdt.ar = false) ∧
    (kernel.fetchDesc 0x30 = some descTask ∧ descTask.ar.getLsbD 4 = false ∧ descTask.ar.extractLsb' 0 4 = (1 : BitVec 4) ∧
      arPresent descTask.ar = true) ∧
    (kernel.fetchDesc 0x70 = some descAbsentTask ∧ descAbsentTask.ar.getLsbD 4 = false ∧ descAbsentTask.ar.extractLsb' 0 4 = (1 : BitVec 4) ∧ arPresent descAbsentTask.ar = false) ∧
    (kernel.fetchDesc 0x10 = some descData ∧ ¬(descData.ar.getLsbD 4 = false ∧ descData.ar.extractLsb' 0 4 = (1 : BitVec 4))) :=
  ⟨⟨rfl, rfl, rfl, trivial, by decide⟩, by decide +kernel, by decide +kernel, by decide +kernel, by decide +kernel,
    by decide +kernel, by decide +kernel⟩

theorem test_witness_PointerChecks_probes :
    (NoRep user ∧ user.msw.pe = true) ∧
    (Sees user 0x33 descTask [1, 2, 3, 4, 5] true ∧ Sees user 0x33 descTask [1, 2, 3] true ∧ Sees user 0x43 gateInner [1, 2, 3, 4, 5] true ∧
      Sees user 0x23 descUserData [] (arWritable descUserData.ar)) ∧
    (∀ d, ¬Sees user 0x10 d [1, 2, 3, 4, 5] true) ∧ (∀ d, ¬Sees user 0x43 d [1, 2, 3] true) := by
  refine ⟨⟨rfl, rfl⟩, by unfold Sees; decide +kernel, ?_, ?_⟩
  · rintro d ⟨-, h1, -, h2⟩
    have h : user.fetchDesc 0x10 = some descData := by decide +kernel
    cases h.symm.trans h1
    exact absurd h2 (by decide +kernel)
  · rintro d ⟨-, h1, h2, -⟩
    have h : user.fetchDesc 0x43 = some gateInner := by decide +kernel
    cases h.symm.trans h1
    exact absurd h2 (by decide)

theorem test_witness_PointerChecks_operands :
    Readable16 user (.mem (.direct 0xFFFE)) ∧ Writable16 user (.mem (.direct 0xFFFE)) ∧ Fits user .ds 0xFFFC 4 false :=
  ⟨fits, fits, fits⟩

theorem test_witness_PointerChecks_values :
    selRpl (0x10 : Word) < selRpl (0x13 : Word) ∧ ¬selRpl (0x13 : Word) < selRpl (0x13 : Word) ∧
    ((0x8000 : Word).toInt ≤ (0x7FFF : Word).toInt ∧ (0xFFFF : Word).toInt < (0 : Word).toInt ∧ (0x7FFE : Word).toInt < (0x7FFF : Word).toInt) := by decide +kernel

theorem test_witness_PrivilegeAndMode : NoRep user ∧ user.msw.pe = true ∧ user.cpl ≠ 0 ∧ real.msw.pe = false := by decide +kernel


/-! One word of every row of the opcode table, written out from the row's encoding (30_encoding.md R121 to R141) with the
operand forms taken in turn. -/

/-- Each row of bytes decodes, before a following byte, to its instruction, which is well formed and encodes to the row. -/
def reads (cases : List (List Byte × Instr)) : Bool :=
  cases.all fun c => decide (decode (c.1 ++ [0x90]) = .instr c.2 [0x90]) && c.2.wellFormed && (encode c.2 == c.1)

set_option maxRecDepth 4000

theorem test_decode_alu_register_forms_1 : reads [
    ([0x00, 0xC9], .addRm8R8 (.reg .cl) .cl),
    ([0x01, 0x31], .addRm16R16 (.mem (.base .bxdi)) .si),
    ([0x02, 0x1E, 0x34, 0x12], .addR8Rm8 .bl (.mem (.direct 0x1234))),
    ([0x03, 0x47, 0xF0], .addR16Rm16 .ax (.mem (.disp8 .bx 0xF0))),
    ([0x04, 0xA5], .addAlImm8 0xA5),
    ([0x05, 0xEF, 0xBE], .addAxImm16 0xBEEF),
    ([0x08, 0x3F], .orRm8R8 (.mem (.base .bx)) .bh),
    ([0x09, 0x26, 0x34, 0x12], .orRm16R16 (.mem (.direct 0x1234)) .sp),
    ([0x0A, 0x48, 0xF0], .orR8Rm8 .cl (.mem (.disp8 .bxsi 0xF0))),
    ([0x0B, 0xB1, 0x05, 0x80], .orR16Rm16 .si (.mem (.disp16 .bxdi 0x8005))),
    ([0x0C, 0xA5], .orAlImm8 0xA5),
    ([0x0D, 0xEF, 0xBE], .orAxImm16 0xBEEF),
    ([0x10, 0x2E, 0x34, 0x12], .adcRm8R8 (.mem (.direct 0x1234)) .ch),
    ([0x11, 0x51, 0xF0], .adcRm16R16 (.mem (.disp8 .bxdi 0xF0)) .dx),
    ([0x12, 0xBC, 0x05, 0x80], .adcR8Rm8 .bh (.mem (.disp16 .si 0x8005))),
    ([0x13, 0xE6], .adcR16Rm16 .sp (.reg .si)),
    ([0x14, 0xA5], .adcAlImm8 0xA5),
    ([0x15, 0xEF, 0xBE], .adcAxImm16 0xBEEF),
    ([0x18, 0x5A, 0xF0], .sbbRm8R8 (.mem (.disp8 .bpsi 0xF0)) .bl),
    ([0x19, 0x87, 0x05, 0x80], .sbbRm16R16 (.mem (.disp16 .bx 0x8005)) .ax),
    ([0x1A, 0xED], .sbbR8Rm8 .ch (.reg .ch)),
    ([0x1B, 0x10], .sbbR16Rm16 .dx (.mem (.base .bxsi))),
    ([0x1C, 0xA5], .sbbAlImm8 0xA5),
    ([0x1D, 0xEF, 0xBE], .sbbAxImm16 0xBEEF)] = true := by decide

theorem test_decode_alu_register_forms_2 : reads [
    ([0x20, 0x8A, 0x05, 0x80], .andRm8R8 (.mem (.disp16 .bpsi 0x8005)) .cl),
    ([0x21, 0xF4], .andRm16R16 (.reg .sp) .si),
    ([0x22, 0x1D], .andR8Rm8 .bl (.mem (.base .di))),
    ([0x23, 0x06, 0x34, 0x12], .andR16Rm16 .ax (.mem (.direct 0x1234))),
    ([0x24, 0xA5], .andAlImm8 0xA5),
    ([0x25, 0xEF, 0xBE], .andAxImm16 0xBEEF),
    ([0x28, 0xFB], .subRm8R8 (.reg .bl) .bh),
    ([0x29, 0x23], .subRm16R16 (.mem (.base .bpdi)) .sp),
    ([0x2A, 0x0E, 0x34, 0x12], .subR8Rm8 .cl (.mem (.direct 0x1234))),
    ([0x2B, 0x75, 0xF0], .subR16Rm16 .si (.mem (.disp8 .di 0xF0))),
    ([0x2C, 0xA5], .subAlImm8 0xA5),
    ([0x2D, 0xEF, 0xBE], .subAxImm16 0xBEEF),
    ([0x30, 0x29], .xorRm8R8 (.mem (.base .bxdi)) .ch),
    ([0x31, 0x16, 0x34, 0x12], .xorRm16R16 (.mem (.direct 0x1234)) .dx),
    ([0x32, 0x7E, 0xF0], .xorR8Rm8 .bh (.mem (.disp8 .bp 0xF0))),
    ([0x33, 0xA3, 0x05, 0x80], .xorR16Rm16 .sp (.mem (.disp16 .bpdi 0x8005))),
    ([0x34, 0xA5], .xorAlImm8 0xA5),
    ([0x35, 0xEF, 0xBE], .xorAxImm16 0xBEEF),
    ([0x38, 0x1E, 0x34, 0x12], .cmpRm8R8 (.mem (.direct 0x1234)) .bl),
    ([0x39, 0x47, 0xF0], .cmpRm16R16 (.mem (.disp8 .bx 0xF0)) .ax),
    ([0x3A, 0xAE, 0x05, 0x80], .cmpR8Rm8 .ch (.mem (.disp16 .bp 0x8005))),
    ([0x3B, 0xD0], .cmpR16Rm16 .dx (.reg .ax)),
    ([0x3C, 0xA5], .cmpAlImm8 0xA5),
    ([0x3D, 0xEF, 0xBE], .cmpAxImm16 0xBEEF)] = true := by decide

theorem test_decode_stack_and_prefixes : reads [
    ([0x06], .pushEs),
    ([0x0E], .pushCs),
    ([0x16], .pushSs),
    ([0x1E], .pushDs),
    ([0x07], .popEs),
    ([0x17], .popSs),
    ([0x1F], .popDs),
    ([0x26], .segEs),
    ([0x2E], .segCs),
    ([0x36], .segSs),
    ([0x3E], .segDs),
    ([0xF0], .lock),
    ([0xF2], .repne),
    ([0xF3], .rep)] = true := by decide

theorem test_decode_one_byte_and_jumps_1 : reads [
    ([0x27], .daa),
    ([0x2F], .das),
    ([0x37], .aaa),
    ([0x3F], .aas),
    ([0x40], .incR16 .ax),
    ([0x4B], .decR16 .bx),
    ([0x56], .pushR16 .si),
    ([0x59], .popR16 .cx),
    ([0x60], .pusha),
    ([0x61], .popa),
    ([0x62, 0x0E, 0x34, 0x12], .bound .cx (.direct 0x1234)),
    ([0x63, 0x75, 0xF0], .arpl (.mem (.disp8 .di 0xF0)) .si),
    ([0x68, 0xEF, 0xBE], .pushImm16 0xBEEF),
    ([0x69, 0xC2, 0xEF, 0xBE], .imulR16Rm16Imm16 .ax (.reg .dx) 0xBEEF),
    ([0x6A, 0xA5], .pushImm8 0xA5),
    ([0x6B, 0x16, 0x34, 0x12, 0xA5], .imulR16Rm16Imm8 .dx (.mem (.direct 0x1234)) 0xA5),
    ([0x6C], .insb),
    ([0x6D], .insw),
    ([0x6E], .outsb),
    ([0x6F], .outsw),
    ([0x70, 0xA5], .jo 0xA5),
    ([0x71, 0xA5], .jno 0xA5),
    ([0x72, 0xA5], .jb 0xA5),
    ([0x73, 0xA5], .jnb 0xA5)] = true := by decide

theorem test_decode_one_byte_and_jumps_2 : reads [
    ([0x74, 0xA5], .je 0xA5),
    ([0x75, 0xA5], .jne 0xA5),
    ([0x76, 0xA5], .jbe 0xA5),
    ([0x77, 0xA5], .jnbe 0xA5),
    ([0x78, 0xA5], .js 0xA5),
    ([0x79, 0xA5], .jns 0xA5),
    ([0x7A, 0xA5], .jp 0xA5),
    ([0x7B, 0xA5], .jnp 0xA5),
    ([0x7C, 0xA5], .jl 0xA5),
    ([0x7D, 0xA5], .jnl 0xA5),
    ([0x7E, 0xA5], .jle 0xA5),
    ([0x7F, 0xA5], .jnle 0xA5)] = true := by decide

theorem test_decode_immediate_groups_1 : reads [
    ([0x80, 0x42, 0xF0, 0xA5], .addRm8Imm8 (.mem (.disp8 .bpsi 0xF0)) 0xA5),
    ([0x80, 0x8F, 0x05, 0x80, 0xA5], .orRm8Imm8 (.mem (.disp16 .bx 0x8005)) 0xA5),
    ([0x80, 0xD5, 0xA5], .adcRm8Imm8 (.reg .ch) 0xA5),
    ([0x80, 0x1B, 0xA5], .sbbRm8Imm8 (.mem (.base .bpdi)) 0xA5),
    ([0x80, 0x26, 0x34, 0x12, 0xA5], .andRm8Imm8 (.mem (.direct 0x1234)) 0xA5),
    ([0x80, 0x6B, 0xF0, 0xA5], .subRm8Imm8 (.mem (.disp8 .bpdi 0xF0)) 0xA5),
    ([0x80, 0xB2, 0x05, 0x80, 0xA5], .xorRm8Imm8 (.mem (.disp16 .bpsi 0x8005)) 0xA5),
    ([0x80, 0xFC, 0xA5], .cmpRm8Imm8 (.reg .ah) 0xA5),
    ([0x81, 0x01, 0xEF, 0xBE], .addRm16Imm16 (.mem (.base .bxdi)) 0xBEEF),
    ([0x81, 0x0E, 0x34, 0x12, 0xEF, 0xBE], .orRm16Imm16 (.mem (.direct 0x1234)) 0xBEEF),
    ([0x81, 0x54, 0xF0, 0xEF, 0xBE], .adcRm16Imm16 (.mem (.disp8 .si 0xF0)) 0xBEEF),
    ([0x81, 0x9D, 0x05, 0x80, 0xEF, 0xBE], .sbbRm16Imm16 (.mem (.disp16 .di 0x8005)) 0xBEEF),
    ([0x81, 0xE3, 0xEF, 0xBE], .andRm16Imm16 (.reg .bx) 0xBEEF),
    ([0x81, 0x2F, 0xEF, 0xBE], .subRm16Imm16 (.mem (.base .bx)) 0xBEEF),
    ([0x81, 0x36, 0x34, 0x12, 0xEF, 0xBE], .xorRm16Imm16 (.mem (.direct 0x1234)) 0xBEEF),
    ([0x81, 0x7D, 0xF0, 0xEF, 0xBE], .cmpRm16Imm16 (.mem (.disp8 .di 0xF0)) 0xBEEF),
    ([0x82, 0x80, 0x05, 0x80, 0xA5], .addRm8Imm8Dup (.mem (.disp16 .bxsi 0x8005)) 0xA5),
    ([0x82, 0xCA, 0xA5], .orRm8Imm8Dup (.reg .dl) 0xA5),
    ([0x82, 0x14, 0xA5], .adcRm8Imm8Dup (.mem (.base .si)) 0xA5),
    ([0x82, 0x1E, 0x34, 0x12, 0xA5], .sbbRm8Imm8Dup (.mem (.direct 0x1234)) 0xA5),
    ([0x82, 0x66, 0xF0, 0xA5], .andRm8Imm8Dup (.mem (.disp8 .bp 0xF0)) 0xA5),
    ([0x82, 0xAB, 0x05, 0x80, 0xA5], .subRm8Imm8Dup (.mem (.disp16 .bpdi 0x8005)) 0xA5),
    ([0x82, 0xF1, 0xA5], .xorRm8Imm8Dup (.reg .cl) 0xA5),
    ([0x82, 0x3A, 0xA5], .cmpRm8Imm8Dup (.mem (.base .bpsi)) 0xA5)] = true := by decide

theorem test_decode_immediate_groups_2 : reads [
    ([0x83, 0x06, 0x34, 0x12, 0xA5], .addRm16Imm8 (.mem (.direct 0x1234)) 0xA5),
    ([0x83, 0x4F, 0xF0, 0xA5], .orRm16Imm8 (.mem (.disp8 .bx 0xF0)) 0xA5),
    ([0x83, 0x96, 0x05, 0x80, 0xA5], .adcRm16Imm8 (.mem (.disp16 .bp 0x8005)) 0xA5),
    ([0x83, 0xD8, 0xA5], .sbbRm16Imm8 (.reg .ax) 0xA5),
    ([0x83, 0x20, 0xA5], .andRm16Imm8 (.mem (.base .bxsi)) 0xA5),
    ([0x83, 0x2E, 0x34, 0x12, 0xA5], .subRm16Imm8 (.mem (.direct 0x1234)) 0xA5),
    ([0x83, 0x70, 0xF0, 0xA5], .xorRm16Imm8 (.mem (.disp8 .bxsi 0xF0)) 0xA5),
    ([0x83, 0xB9, 0x05, 0x80, 0xA5], .cmpRm16Imm8 (.mem (.disp16 .bxdi 0x8005)) 0xA5),
    ([0x84, 0xDF], .testRm8R8 (.reg .bh) .bl),
    ([0x85, 0x05], .testRm16R16 (.mem (.base .di)) .ax),
    ([0x86, 0x2E, 0x34, 0x12], .xchgRm8R8 (.mem (.direct 0x1234)) .ch),
    ([0x87, 0x51, 0xF0], .xchgRm16R16 (.mem (.disp8 .bxdi 0xF0)) .dx),
    ([0x88, 0xBC, 0x05, 0x80], .movRm8R8 (.mem (.disp16 .si 0x8005)) .bh),
    ([0x89, 0xE6], .movRm16R16 (.reg .si) .sp),
    ([0x8A, 0x0B], .movR8Rm8 .cl (.mem (.base .bpdi))),
    ([0x8B, 0x36, 0x34, 0x12], .movR16Rm16 .si (.mem (.direct 0x1234))),
    ([0x8C, 0x52, 0xF0], .movRm16Sreg (.mem (.disp8 .bpsi 0xF0)) .ss),
    ([0x8D, 0x87, 0x05, 0x80], .lea .ax (.disp16 .bx 0x8005)),
    ([0x8E, 0xDD], .movSregRm16 .ds (.reg .bp)),
    ([0x8F, 0x01], .popRm16 (.mem (.base .bxdi)))] = true := by decide

theorem test_decode_moves_and_strings_1 : reads [
    ([0x90], .nop),
    ([0x97], .xchgAxR16 .di),
    ([0x98], .cbw),
    ([0x99], .cwd),
    ([0x9A, 0x34, 0x12, 0x0D, 0xF0], .callPtr 0xF00D 0x1234),
    ([0x9B], .wait),
    ([0x9C], .pushf),
    ([0x9D], .popf),
    ([0x9E], .sahf),
    ([0x9F], .lahf),
    ([0xA0, 0xEF, 0xBE], .movAlMoffs 0xBEEF),
    ([0xA1, 0xEF, 0xBE], .movAxMoffs 0xBEEF),
    ([0xA2, 0xEF, 0xBE], .movMoffsAl 0xBEEF),
    ([0xA3, 0xEF, 0xBE], .movMoffsAx 0xBEEF),
    ([0xA4], .movsb),
    ([0xA5], .movsw),
    ([0xA6], .cmpsb),
    ([0xA7], .cmpsw),
    ([0xA8, 0xA5], .testAlImm8 0xA5),
    ([0xA9, 0xEF, 0xBE], .testAxImm16 0xBEEF),
    ([0xAA], .stosb),
    ([0xAB], .stosw),
    ([0xAC], .lodsb),
    ([0xAD], .lodsw)] = true := by decide

theorem test_decode_moves_and_strings_2 : reads [
    ([0xAE], .scasb),
    ([0xAF], .scasw),
    ([0xB2, 0xA5], .movR8Imm8 .dl 0xA5),
    ([0xBD, 0xEF, 0xBE], .movR16Imm16 .bp 0xBEEF)] = true := by decide

theorem test_decode_shifts_by_immediate_1 : reads [
    ([0xC0, 0xC7, 0xA5], .rolRm8Imm8 (.reg .bh) 0xA5),
    ([0xC0, 0x0B, 0xA5], .rorRm8Imm8 (.mem (.base .bpdi)) 0xA5),
    ([0xC0, 0x16, 0x34, 0x12, 0xA5], .rclRm8Imm8 (.mem (.direct 0x1234)) 0xA5),
    ([0xC0, 0x59, 0xF0, 0xA5], .rcrRm8Imm8 (.mem (.disp8 .bxdi 0xF0)) 0xA5),
    ([0xC0, 0xA4, 0x05, 0x80, 0xA5], .shlRm8Imm8 (.mem (.disp16 .si 0x8005)) 0xA5),
    ([0xC0, 0xEE, 0xA5], .shrRm8Imm8 (.reg .dh) 0xA5),
    ([0xC0, 0x39, 0xA5], .sarRm8Imm8 (.mem (.base .bxdi)) 0xA5),
    ([0xC1, 0x06, 0x34, 0x12, 0xA5], .rolRm16Imm8 (.mem (.direct 0x1234)) 0xA5),
    ([0xC1, 0x4A, 0xF0, 0xA5], .rorRm16Imm8 (.mem (.disp8 .bpsi 0xF0)) 0xA5),
    ([0xC1, 0x97, 0x05, 0x80, 0xA5], .rclRm16Imm8 (.mem (.disp16 .bx 0x8005)) 0xA5),
    ([0xC1, 0xDD, 0xA5], .rcrRm16Imm8 (.reg .bp) 0xA5),
    ([0xC1, 0x27, 0xA5], .shlRm16Imm8 (.mem (.base .bx)) 0xA5),
    ([0xC1, 0x2E, 0x34, 0x12, 0xA5], .shrRm16Imm8 (.mem (.direct 0x1234)) 0xA5),
    ([0xC1, 0x7B, 0xF0, 0xA5], .sarRm16Imm8 (.mem (.disp8 .bpdi 0xF0)) 0xA5),
    ([0xD0, 0x82, 0x05, 0x80], .rolRm8One (.mem (.disp16 .bpsi 0x8005))),
    ([0xD0, 0xCC], .rorRm8One (.reg .ah)),
    ([0xD0, 0x14], .rclRm8One (.mem (.base .si))),
    ([0xD0, 0x1E, 0x34, 0x12], .rcrRm8One (.mem (.direct 0x1234))),
    ([0xD0, 0x64, 0xF0], .shlRm8One (.mem (.disp8 .si 0xF0))),
    ([0xD0, 0xAD, 0x05, 0x80], .shrRm8One (.mem (.disp16 .di 0x8005))),
    ([0xD0, 0xFB], .sarRm8One (.reg .bl)),
    ([0xD1, 0x02], .rolRm16One (.mem (.base .bpsi))),
    ([0xD1, 0x0E, 0x34, 0x12], .rorRm16One (.mem (.direct 0x1234))),
    ([0xD1, 0x55, 0xF0], .rclRm16One (.mem (.disp8 .di 0xF0)))] = true := by decide

theorem test_decode_shifts_by_immediate_2 : reads [
    ([0xD1, 0x98, 0x05, 0x80], .rcrRm16One (.mem (.disp16 .bxsi 0x8005))),
    ([0xD1, 0xE2], .shlRm16One (.reg .dx)),
    ([0xD1, 0x28], .shrRm16One (.mem (.base .bxsi))),
    ([0xD1, 0x3E, 0x34, 0x12], .sarRm16One (.mem (.direct 0x1234))),
    ([0xD2, 0x46, 0xF0], .rolRm8Cl (.mem (.disp8 .bp 0xF0))),
    ([0xD2, 0x8B, 0x05, 0x80], .rorRm8Cl (.mem (.disp16 .bpdi 0x8005))),
    ([0xD2, 0xD1], .rclRm8Cl (.reg .cl)),
    ([0xD2, 0x1D], .rcrRm8Cl (.mem (.base .di))),
    ([0xD2, 0x26, 0x34, 0x12], .shlRm8Cl (.mem (.direct 0x1234))),
    ([0xD2, 0x6F, 0xF0], .shrRm8Cl (.mem (.disp8 .bx 0xF0))),
    ([0xD2, 0xBE, 0x05, 0x80], .sarRm8Cl (.mem (.disp16 .bp 0x8005))),
    ([0xD3, 0xC0], .rolRm16Cl (.reg .ax)),
    ([0xD3, 0x0B], .rorRm16Cl (.mem (.base .bpdi))),
    ([0xD3, 0x16, 0x34, 0x12], .rclRm16Cl (.mem (.direct 0x1234))),
    ([0xD3, 0x58, 0xF0], .rcrRm16Cl (.mem (.disp8 .bxsi 0xF0))),
    ([0xD3, 0xA1, 0x05, 0x80], .shlRm16Cl (.mem (.disp16 .bxdi 0x8005))),
    ([0xD3, 0xEF], .shrRm16Cl (.reg .di)),
    ([0xD3, 0x39], .sarRm16Cl (.mem (.base .bxdi)))] = true := by decide

theorem test_decode_returns_and_io_1 : reads [
    ([0xC2, 0xEF, 0xBE], .retImm16 0xBEEF),
    ([0xC3], .ret),
    ([0xC4, 0xBC, 0x05, 0x80], .les .di (.disp16 .si 0x8005)),
    ([0xC5, 0x63, 0xF0], .lds .sp (.disp8 .bpdi 0xF0)),
    ([0xC6, 0x07, 0xA5], .movRm8Imm8 (.mem (.base .bx)) 0xA5),
    ([0xC7, 0x06, 0x34, 0x12, 0xEF, 0xBE], .movRm16Imm16 (.mem (.direct 0x1234)) 0xBEEF),
    ([0xC8, 0xEF, 0xBE, 0xA5], .enter 0xBEEF 0xA5),
    ([0xC9], .leave),
    ([0xCA, 0xEF, 0xBE], .retfImm16 0xBEEF),
    ([0xCB], .retf),
    ([0xCC], .int3),
    ([0xCD, 0xA5], .intImm8 0xA5),
    ([0xCE], .into),
    ([0xCF], .iret),
    ([0xD4, 0xA5], .aam 0xA5),
    ([0xD5, 0xA5], .aad 0xA5),
    ([0xD7], .xlat),
    ([0xDD, 0x9D, 0x05, 0x80], .esc 43 (.mem (.disp16 .di 0x8005))),
    ([0xE0, 0xA5], .loopnz 0xA5),
    ([0xE1, 0xA5], .loopz 0xA5),
    ([0xE2, 0xA5], .loop 0xA5),
    ([0xE3, 0xA5], .jcxz 0xA5),
    ([0xE4, 0xA5], .inAlImm8 0xA5),
    ([0xE5, 0xA5], .inAxImm8 0xA5)] = true := by decide

theorem test_decode_returns_and_io_2 : reads [
    ([0xE6, 0xA5], .outImm8Al 0xA5),
    ([0xE7, 0xA5], .outImm8Ax 0xA5),
    ([0xE8, 0xEF, 0xBE], .callRel16 0xBEEF),
    ([0xE9, 0xEF, 0xBE], .jmpRel16 0xBEEF),
    ([0xEA, 0x34, 0x12, 0x0D, 0xF0], .jmpPtr 0xF00D 0x1234),
    ([0xEB, 0xA5], .jmpRel8 0xA5),
    ([0xEC], .inAlDx),
    ([0xED], .inAxDx),
    ([0xEE], .outDxAl),
    ([0xEF], .outDxAx)] = true := by decide

theorem test_decode_unary_and_indirect_1 : reads [
    ([0xF4], .hlt),
    ([0xF5], .cmc),
    ([0xF6, 0x40, 0xF0, 0xA5], .testRm8Imm8 (.mem (.disp8 .bxsi 0xF0)) 0xA5),
    ([0xF6, 0x91, 0x05, 0x80], .notRm8 (.mem (.disp16 .bxdi 0x8005))),
    ([0xF6, 0xDF], .negRm8 (.reg .bh)),
    ([0xF6, 0x27], .mulRm8 (.mem (.base .bx))),
    ([0xF6, 0x2E, 0x34, 0x12], .imulRm8 (.mem (.direct 0x1234))),
    ([0xF6, 0x71, 0xF0], .divRm8 (.mem (.disp8 .bxdi 0xF0))),
    ([0xF6, 0xBC, 0x05, 0x80], .idivRm8 (.mem (.disp16 .si 0x8005))),
    ([0xF7, 0xC6, 0xEF, 0xBE], .testRm16Imm16 (.reg .si) 0xBEEF),
    ([0xF7, 0x14], .notRm16 (.mem (.base .si))),
    ([0xF7, 0x1E, 0x34, 0x12], .negRm16 (.mem (.direct 0x1234))),
    ([0xF7, 0x62, 0xF0], .mulRm16 (.mem (.disp8 .bpsi 0xF0))),
    ([0xF7, 0xAF, 0x05, 0x80], .imulRm16 (.mem (.disp16 .bx 0x8005))),
    ([0xF7, 0xF5], .divRm16 (.reg .bp)),
    ([0xF7, 0x3A], .idivRm16 (.mem (.base .bpsi))),
    ([0xF8], .clc),
    ([0xF9], .stc),
    ([0xFA], .cli),
    ([0xFB], .sti),
    ([0xFC], .cld),
    ([0xFD], .std),
    ([0xFE, 0x44, 0xF0], .incRm8 (.mem (.disp8 .si 0xF0))),
    ([0xFE, 0x8D, 0x05, 0x80], .decRm8 (.mem (.disp16 .di 0x8005)))] = true := by decide

theorem test_decode_unary_and_indirect_2 : reads [
    ([0xFF, 0xC3], .incRm16 (.reg .bx)),
    ([0xFF, 0x0D], .decRm16 (.mem (.base .di))),
    ([0xFF, 0x16, 0x34, 0x12], .callRm16 (.mem (.direct 0x1234))),
    ([0xFF, 0x5D, 0xF0], .callM16_16 (.disp8 .di 0xF0)),
    ([0xFF, 0xA0, 0x05, 0x80], .jmpRm16 (.mem (.disp16 .bxsi 0x8005))),
    ([0xFF, 0x6F, 0xF0], .jmpM16_16 (.disp8 .bx 0xF0)),
    ([0xFF, 0x33], .pushRm16 (.mem (.base .bpdi)))] = true := by decide

theorem test_decode_system : reads [
    ([0x0F, 0x00, 0x06, 0x34, 0x12], .sldt (.mem (.direct 0x1234))),
    ([0x0F, 0x00, 0x4E, 0xF0], .str (.mem (.disp8 .bp 0xF0))),
    ([0x0F, 0x00, 0x93, 0x05, 0x80], .lldt (.mem (.disp16 .bpdi 0x8005))),
    ([0x0F, 0x00, 0xD9], .ltr (.reg .cx)),
    ([0x0F, 0x00, 0x21], .verr (.mem (.base .bxdi))),
    ([0x0F, 0x00, 0x2E, 0x34, 0x12], .verw (.mem (.direct 0x1234))),
    ([0x0F, 0x01, 0x47, 0xF0], .sgdt (.disp8 .bx 0xF0)),
    ([0x0F, 0x01, 0x8E, 0x05, 0x80], .sidt (.disp16 .bp 0x8005)),
    ([0x0F, 0x01, 0x51, 0xF0], .lgdt (.disp8 .bxdi 0xF0)),
    ([0x0F, 0x01, 0x1F], .lidt (.base .bx)),
    ([0x0F, 0x01, 0x26, 0x34, 0x12], .smsw (.mem (.direct 0x1234))),
    ([0x0F, 0x01, 0x70, 0xF0], .lmsw (.mem (.disp8 .bxsi 0xF0))),
    ([0x0F, 0x02, 0xB1, 0x05, 0x80], .lar .si (.mem (.disp16 .bxdi 0x8005))),
    ([0x0F, 0x03, 0xDF], .lsl .bx (.reg .di)),
    ([0x0F, 0x06], .cts)] = true := by decide

end Sys2Proof.Tests
end

/-! PROOFS. Statements of 00_scope.md: the stack (R14), with what a push leaves on it for a later read. -/

namespace Sys2Proof.Proofs

open Sys2Proof Sys2Proof.Machine Sys2Proof.Claims

/-! What a passed check says of the offset and of a read at the same place. -/

/-- Only data segments are writable, and every data segment is readable (20_memory.md R89). -/
theorem arReadable_of_arWritable {ar : Byte} (h : arWritable ar = true) : arReadable ar = true := by
  obtain ⟨hdata, -⟩ := Bool.and_eq_true_iff.1 h
  simp [arReadable, hdata]

/-- Where a write is allowed, a read is; the error code does not matter to a check that passes. -/
theorem check_read_of_write {s : State} {r : SReg} {off n : Nat} {code code' : Word}
    (h : s.check r off n true code = .ok ()) : s.check r off n false code' = .ok () := by
  cases hp : s.msw.pe
  · exact (check_real hp).2 ((check_real hp).1 h)
  · obtain ⟨hvalid, htype, hlimit⟩ := (check_protected hp).1 h
    exact (check_protected hp).2 ⟨hvalid, arReadable_of_arWritable htype.2, hlimit⟩

/-- Limits are words, so an access that passes its check does not wrap (20_memory.md R83, R92, R93). -/
theorem check_noWrap {s : State} {r : SReg} {off n : Nat} {write : Bool} {code : Word}
    (h : s.check r off n write code = .ok ()) : off + n ≤ 0x10000 := by
  cases hp : s.msw.pe
  · exact (check_real hp).1 h
  · obtain ⟨-, -, hlimit⟩ := (check_protected hp).1 h
    have hword := (s.seg r).limit.isLt
    unfold insideLimit at hlimit
    split at hlimit <;> simp only [Bool.and_eq_true, decide_eq_true_eq] at hlimit <;> omega

/-! A word written elsewhere in the segment. -/

/-- Words at offsets of one segment that share no byte share no cell: 2^16 bytes do not wrap around 2^24. -/
theorem read16_write16_disjoint (s : State) (v : Word) {base off off' : Nat} (hoff : off + 2 ≤ 0x10000)
    (hoff' : off' + 2 ≤ 0x10000) (hdisj : off + 2 ≤ off' ∨ off' + 2 ≤ off) :
    (s.write16 (base + off) v).read16 (base + off') = s.read16 (base + off') := by
  simp only [State.read16, State.read8, write16_msw]
  rw [write16_physByte_ne, write16_physByte_ne] <;> simp only [ne_eq, physAddr_eq] <;> omega

/-! One push. -/

/-- A push changes memory and SP alone. -/
theorem push_frame {s t : State} {code v : Word} (h : s.push code v = .ok t) :
    t = { s with mem := t.mem, regs := { s.regs with sp := s.regs.sp - 2 } } := by
  obtain ⟨-, rfl⟩ := push_ok.1 h
  rfl

/-- The word pushed is at SP. -/
theorem push_lread16_sp {s t : State} {code v : Word} (h : s.push code v = .ok t) :
    t.lread16 .ss t.regs.sp = .ok v := by
  obtain ⟨hcheck, rfl⟩ := push_ok.1 h
  exact lread16_ok.2 ⟨check_read_of_write hcheck, read16_write16 s _ v⟩

/-- A push keeps every word of the stack segment that it does not overlap. -/
theorem push_lread16_disjoint {s t : State} {code v w off : Word} (h : s.push code v = .ok t)
    (hread : s.lread16 .ss off = .ok w)
    (hdisj : t.regs.sp.toNat + 2 ≤ off.toNat ∨ off.toNat + 2 ≤ t.regs.sp.toNat) :
    t.lread16 .ss off = .ok w := by
  obtain ⟨hwrite, rfl⟩ := push_ok.1 h
  obtain ⟨hcheck, hword⟩ := lread16_ok.1 hread
  exact lread16_ok.2 ⟨hcheck,
    (read16_write16_disjoint s v (check_noWrap hwrite) (check_noWrap hcheck) hdisj).trans hword⟩

/-- A pop after a push undoes it but for memory (00_scope.md R14). -/
theorem push_pop {s t : State} {code v : Word} (h : s.push code v = .ok t) :
    t.pop = .ok (v, { s with mem := t.mem }) := by
  refine pop_ok.2 ⟨push_lread16_sp h, ?_⟩
  rw [push_frame h]
  simp

/-- The word a push leaves at SP stays there under a second push, which writes the two bytes below it: both offsets passed
their checks, so neither word wraps. -/
theorem push_push_lread16 {s t u : State} {code code' v w : Word} (hs : s.push code v = .ok t)
    (ht : t.push code' w = .ok u) : u.lread16 .ss t.regs.sp = .ok v := by
  have hread := push_lread16_sp hs
  have hsp : u.regs.sp = t.regs.sp - 2 := by rw [push_frame ht]
  refine push_lread16_disjoint ht hread ?_
  have hfirst := check_noWrap (lread16_ok.1 hread).1
  have hsecond := check_noWrap (lread16_ok.1 (push_lread16_sp ht)).1
  rw [hsp] at hsecond ⊢
  bv_omega

/-! Two pushes and two pops. -/

/-- Settles O13: the first pop undoes the second push but for memory, where the first word pushed still stands. -/
theorem pushThenPop : Obligations.PushThenPop := by
  intro s t u a b hs ht
  refine ⟨{ t with mem := u.mem }, { s with mem := u.mem }, push_pop ht, pop_ok.2 ⟨?_, ?_⟩, rfl, rfl⟩
  · have hword := push_push_lread16 hs ht
    rw [push_frame ht] at hword
    exact hword
  · rw [push_frame hs]
    simp

end Sys2Proof.Proofs

/-! PROOFS. Statements of 10_state.md about a step (R24), the state after reset (R60), the flags word (R25) and descriptors in
their tables (R42 to R48). -/
namespace Sys2Proof.Proofs
open Sys2Proof Sys2Proof.Machine Sys2Proof.Claims

/-! A step. -/

/-- The outcome of a step whose turn in `s` came out as `o`. -/
def concluded (s : State) : Host.Outcome State Fault Refusal → Host.Outcome State Fault Refusal
  | .next t => .next (s.finish t)
  | .fault f => .fault f
  | .refused r => .refused r

theorem step_eq_concluded (s : State) : step s = concluded s s.turn := by
  unfold step
  cases s.turn <;> rfl

/-- A step that no RESET and no event at the boundary takes runs the next instruction or element. -/
theorem step_of_runNext {s : State} {o : Host.Outcome State Fault Refusal} (hreset : s.pins.reset = false)
    (hboundary : s.boundary = none) (hrun : s.runNext = o) : step s = concluded s o := by
  simp [step_eq_concluded, State.turn, hreset, hboundary, hrun]

@[simp] theorem fetchBytes_length (s : State) : s.fetchBytes.length = s.fetchRoom := by simp [State.fetchBytes]

/-- The state in which an instruction of `n` bytes runs: `ip_next` past them and the queue in use (10_state.md R24; 20_memory.md
R110). -/
def fetched (s : State) (n : Nat) : State :=
  { s with ipNext := BitVec.ofNat 16 (s.fetchOffset + n), queueEmpty := false }

theorem runNext_of_decode {s : State} {i : Instr} {rest : List Byte} (hagain : s.again = none)
    (hdecode : decode s.fetchBytes = .instr i rest) :
    s.runNext = exec i (fetched s (s.fetchBytes.length - rest.length)) := by
  simp only [State.runNext, hagain, fetchBytes_length, State.fetchRun, hdecode, fetched]

theorem runNext_of_again {s : State} {op : StringOp} (hagain : s.again = some op) : s.runNext = exec op.instr s := by
  simp only [State.runNext, hagain]

/-! The end of a step. -/

theorem mem_changedAhead {s t : State} {p : Nat} {v : Byte} :
    (p, v) ∈ changedAhead s t ↔ v = s.physByte p ∧ s.physByte p ≠ t.physByte p ∧
      ∃ k, k < 36 ∧ p = physAddr t.msw.pe (t.linear .cs (t.ipNext.toNat + k)) := by
  simp only [changedAhead, staleWindow, List.mem_filterMap, List.mem_range, Option.ite_none_left_eq_some, Option.some.injEq,
    Prod.mk.injEq]
  constructor
  · rintro ⟨k, hk, hne, rfl, rfl⟩
    exact ⟨rfl, hne, k, hk, rfl⟩
  · rintro ⟨rfl, hne, k, hk, rfl⟩
    exact ⟨k, hk, hne, rfl, rfl⟩

theorem finish_stale (s t : State) :
    (s.finish t).stale = if t.queueEmpty then [] else if s.mem = t.mem then t.stale else t.stale ++ changedAhead s t := rfl

/-- Settles O4: the turn is the decoded instruction's or the string element's, and `finish` is read off its definition. -/
theorem stepRuns : Obligations.StepRuns := by
  refine ⟨fun s i rest hreset hboundary hagain hdecode _ => ?_, fun s op hreset hboundary hagain => ?_, fun _ _ => rfl,
    fun s t hempty => ?_, fun s t hfilled hmem => ?_, fun s t hfilled p v => ?_⟩
  · rw [step_of_runNext hreset hboundary (runNext_of_decode hagain hdecode)]
    rfl
  · rw [step_of_runNext hreset hboundary (runNext_of_again hagain)]
    rfl
  · simp [finish_stale, hempty]
  · simp [finish_stale, hfilled, hmem]
  · by_cases hmem : s.mem = t.mem
    · simp [finish_stale, hfilled, hmem]
    · simp [finish_stale, hfilled, hmem, mem_changedAhead]

/-! RESET. -/

/-- Settles O6: each part is a value of the reset state. -/
theorem resetInv : Obligations.ResetInv :=
  ⟨wf_reset, rfl, rfl, fun h => nomatch h⟩

theorem resetValues : ResetValues := by
  refine ⟨rfl, rfl, rfl, rfl, rfl, rfl, fun r hr => ?_, rfl, rfl, rfl, rfl, rfl, rfl, rfl, ?_⟩
  · cases r with
    | cs => exact absurd rfl hr
    | es | ss | ds => exact ⟨rfl, rfl, rfl⟩
  · rw [physAddr_eq]
    rfl

theorem resetStep : ResetStep := by
  intro s hreset
  rw [step_eq_concluded, State.turn, if_pos hreset]
  rfl

/-- Settles O10: the values of the reset state, and the turn that RESET takes. -/
theorem reset : Obligations.Reset := ⟨resetValues, resetStep⟩

/-! The flags word (10_state.md R25). -/

/-- The bits of the flags word, from bit 0 up (10_state.md R25). -/
def flagBits (f : Flags) : List Bool :=
  [f.cf, true, f.pf, false, f.af, false, f.zf, f.sf, f.tf, f.ifl, f.df, f.of, f.iopl.getLsbD 0, f.iopl.getLsbD 1, f.nt,
    false]

theorem flagsWord_bits (f : Flags) : (List.range 16).map (flagsWord f).getLsbD = flagBits f := by
  simp only [flagsWord, List.range_succ, List.range_zero, List.map_append, List.map_cons, List.map_nil,
    BitVec.getLsbD_append, BitVec.getLsbD_ofBool]
  simp [flagBits]

theorem getElem_flagsWord (f : Flags) {i : Nat} (hi : i < 16) : (flagsWord f)[i] = (flagBits f)[i]'hi := by
  simp only [← flagsWord_bits, List.getElem_map, List.getElem_range, BitVec.getLsbD_eq_getElem hi]

theorem flagsOfWord_flagsWord (f : Flags) : flagsOfWord (flagsWord f) = f := by
  have hiopl : (flagsWord f).extractLsb' 12 2 = f.iopl := by
    refine BitVec.eq_of_getLsbD_eq fun i hi => ?_
    rw [BitVec.getLsbD_extractLsb']
    interval_cases i <;> simp [getElem_flagsWord, flagBits]
  simp [flagsOfWord, hiopl, getElem_flagsWord, flagBits]

theorem flagsWord_flagsOfWord (w : Word) : flagsWord (flagsOfWord w) = (w &&& 0x7FD7) ||| 2 := by
  refine BitVec.eq_of_getLsbD_eq fun i hi => ?_
  rw [BitVec.getLsbD_eq_getElem hi, getElem_flagsWord _ hi]
  interval_cases i <;> simp [flagBits, flagsOfWord]

/-- Settles O15: each flag's bit is read off the list of the word's bits, and a word read back agrees bit by bit. -/
theorem flagsWordLayout : Obligations.FlagsWordLayout := ⟨flagsWord_bits, flagsOfWord_flagsWord, flagsWord_flagsOfWord⟩

/-! Descriptors in their tables (10_state.md R42, R46, R48; 20_memory.md R98, R102). -/

theorem toNat_and_FFF8 (sel : Word) : (sel &&& 0xFFF8).toNat = 8 * (sel.toNat / 8) := by
  have hshift : sel &&& (0xFFF8 : Word) = sel >>> 3 <<< 3 := by
    refine BitVec.eq_of_getLsbD_eq fun i hi => ?_
    interval_cases i <;> simp
  rw [hshift, BitVec.toNat_shiftLeft, BitVec.toNat_ushiftRight, Nat.shiftRight_eq_div_pow, Nat.shiftLeft_eq]
  omega

theorem descAt_base (s : State) (a : Nat) : (s.descAt a).base = s.read8 (a + 4) ++ s.read8 (a + 3) ++ s.read8 (a + 2) := by
  rw [BitVec.append_assoc]
  rfl

/-- A selector of a table that is there names the eight bytes at 8 times its index, if they are inside its limit. -/
theorem fetchDesc_eq (s : State) (sel : Word) :
    s.fetchDesc sel =
      if sel.getLsbD 2 = true then
        if s.ldtr.valid = true ∧ 8 * (sel.toNat / 8) + 7 ≤ s.ldtr.limit.toNat then
          some (s.descAt (s.ldtr.base.toNat + 8 * (sel.toNat / 8)))
        else none
      else if 8 * (sel.toNat / 8) + 7 ≤ s.gdtr.limit.toNat then some (s.descAt (s.gdtr.base.toNat + 8 * (sel.toNat / 8)))
      else none := by
  simp only [State.fetchDesc, selLocal, toNat_and_FFF8, Bool.and_eq_true, decide_eq_true_eq]

/-- Settles O16: both clauses on the limit and the address of the eight bytes are read off `fetchDesc_eq`. -/
theorem descriptorFetch : Obligations.DescriptorFetch := by
  intro s sel
  refine ⟨fun hti => ?_, fun hti => ?_, fun d hd => ?_⟩
  · rw [fetchDesc_eq, hti]
    simp
  · rw [fetchDesc_eq, hti]
    cases s.ldtr.valid <;> simp
  · have haddr : d =
        s.descAt ((if sel.getLsbD 2 = true then s.ldtr.base.toNat else s.gdtr.base.toNat) + 8 * (sel.toNat / 8)) := by
      rw [fetchDesc_eq] at hd
      split_ifs at hd <;> simp_all
    subst haddr
    exact ⟨rfl, rfl, descAt_base .., rfl⟩

end Sys2Proof.Proofs

/-! PROOFS. Decoding gives back what was encoded (30_encoding.md R121 to R140), and a step runs what stands at the fetch address
(10_state.md R24). -/
namespace Sys2Proof.Proofs
open Sys2Proof Sys2Proof.Machine Sys2Proof.Claims

@[simp] theorem Reg16.ofNum_num (r : Reg16) : Reg16.ofNum r.num = r := by cases r <;> rfl
@[simp] theorem Reg8.ofNum_num (r : Reg8) : Reg8.ofNum r.num = r := by cases r <;> rfl
@[simp] theorem SReg.ofNum_num (r : SReg) : SReg.ofNum r.num = some r := by cases r <;> rfl
@[simp] theorem Base.ofNum_num (b : Base) : Base.ofNum b.num = b := by cases b <;> rfl

/-! A ModRM byte taken apart (30_encoding.md R124). -/

theorem modRM_mod (md : BitVec 2) (g n : BitVec 3) : (modRM md g n).extractLsb' 6 2 = md := by
  refine BitVec.eq_of_getLsbD_eq fun i hi => ?_
  simp only [modRM, BitVec.getLsbD_extractLsb', BitVec.getLsbD_append]
  interval_cases i <;> simp

theorem modRM_reg (md : BitVec 2) (g n : BitVec 3) : (modRM md g n).extractLsb' 3 3 = g := by
  refine BitVec.eq_of_getLsbD_eq fun i hi => ?_
  simp only [modRM, BitVec.getLsbD_extractLsb', BitVec.getLsbD_append]
  interval_cases i <;> simp

theorem modRM_rm (md : BitVec 2) (g n : BitVec 3) : (modRM md g n).extractLsb' 0 3 = n := by
  refine BitVec.eq_of_getLsbD_eq fun i hi => ?_
  simp only [modRM, BitVec.getLsbD_extractLsb', BitVec.getLsbD_append]
  interval_cases i <;> simp

section
variable {k : BitVec 3 → RmField → List Byte → Decoded} {g : BitVec 3} {t : List Byte}

theorem onRM_reg (n : BitVec 3) : onRM (modRM 3 g n :: t) k = k g (.reg n) t := by
  simp [onRM, modRM_mod, modRM_reg, modRM_rm]

theorem Base.num_ne_six {b : Base} (h : (Mem.base b).wellFormed = true) : b.num ≠ 6 := by
  cases b with
  | bp => cases h
  | _ => decide

theorem onRM_bytes {m : Mem} (h : m.wellFormed = true) : onRM (m.bytes g ++ t) k = k g (.mem m) t := by
  cases m with
  | base b =>
    have hne : b.num ≠ 6#3 := Base.num_ne_six h
    simp [onRM, Mem.bytes, modRM_mod, modRM_reg, modRM_rm, hne]
  | direct d => simp [onRM, Mem.bytes, modRM_mod, modRM_reg, modRM_rm, imm16]
  | disp8 b d => simp [onRM, Mem.bytes, modRM_mod, modRM_reg, modRM_rm, imm8]
  | disp16 b d => simp [onRM, Mem.bytes, modRM_mod, modRM_reg, modRM_rm, imm16]

/-- The field that a byte operand is written as. -/
def field8 : RM8 → RmField
  | .reg r => .reg r.num
  | .mem m => .mem m

/-- The field that a word operand is written as. -/
def field16 : RM16 → RmField
  | .reg r => .reg r.num
  | .mem m => .mem m

@[simp] theorem rm8_field8 (rm : RM8) : (field8 rm).rm8 = rm := by
  cases rm <;> simp [field8, RmField.rm8]

@[simp] theorem rm16_field16 (rm : RM16) : (field16 rm).rm16 = rm := by
  cases rm <;> simp [field16, RmField.rm16]

theorem onRM_bytes8 {rm : RM8} (h : rm.wellFormed = true) : onRM (rm.bytes g ++ t) k = k g (field8 rm) t := by
  cases rm with
  | reg r => exact onRM_reg r.num
  | mem m => exact onRM_bytes h

theorem onRM_bytes16 {rm : RM16} (h : rm.wellFormed = true) : onRM (rm.bytes g ++ t) k = k g (field16 rm) t := by
  cases rm with
  | reg r => exact onRM_reg r.num
  | mem m => exact onRM_bytes h

/-- The eight opcodes of ESC (30_encoding.md R138). -/
theorem decode_esc (n : BitVec 3) :
    decode (opReg 0xD8 n :: t) = onRM t fun g f u => .instr (.esc (n ++ g) f.rm16) u := by
  have hcases : n = 0 ∨ n = 1 ∨ n = 2 ∨ n = 3 ∨ n = 4 ∨ n = 5 ∨ n = 6 ∨ n = 7 := by
    revert n
    decide
  rcases hcases with rfl | rfl | rfl | rfl | rfl | rfl | rfl | rfl <;> rfl

end

theorem extractLsb'_append_halves (op : BitVec 6) : op.extractLsb' 3 3 ++ op.extractLsb' 0 3 = op := by
  refine BitVec.eq_of_getLsbD_eq fun i hi => ?_
  simp only [BitVec.getLsbD_append, BitVec.getLsbD_extractLsb']
  interval_cases i <;> simp

/-- Decoding gives back what was encoded, and what follows it (30_encoding.md R121 to R140). -/
theorem decode_encode (i : Instr) (rest : List Byte) (h : i.wellFormed = true) :
    decode (encode i ++ rest) = .instr i rest := by
  unfold encode
  cases i with
  | addRm8R8 rm r | addR8Rm8 r rm | orRm8R8 rm r | orR8Rm8 r rm | adcRm8R8 rm r | adcR8Rm8 r rm | sbbRm8R8 rm r
  | sbbR8Rm8 r rm | andRm8R8 rm r | andR8Rm8 r rm | subRm8R8 rm r | subR8Rm8 r rm | xorRm8R8 rm r | xorR8Rm8 r rm
  | cmpRm8R8 rm r | cmpR8Rm8 r rm | testRm8R8 rm r | xchgRm8R8 rm r | movRm8R8 rm r | movR8Rm8 r rm | rolRm8One rm
  | rorRm8One rm | rclRm8One rm | rcrRm8One rm | shlRm8One rm | shrRm8One rm | sarRm8One rm | rolRm8Cl rm
  | rorRm8Cl rm | rclRm8Cl rm | rcrRm8Cl rm | shlRm8Cl rm | shrRm8Cl rm | sarRm8Cl rm | notRm8 rm | negRm8 rm
  | mulRm8 rm | imulRm8 rm | divRm8 rm | idivRm8 rm | incRm8 rm | decRm8 rm =>
    simp [decode, decodeRow0, decodeRow1, decodeRow2, decodeRow3, decodeRow8, decodeRowD, decodeRowF, groupD0,
      groupD2, groupF6, groupFE, onRM_bytes8 (rm := rm) h]
  | addRm16R16 rm r | addR16Rm16 r rm | orRm16R16 rm r | orR16Rm16 r rm | adcRm16R16 rm r | adcR16Rm16 r rm
  | sbbRm16R16 rm r | sbbR16Rm16 r rm | andRm16R16 rm r | andR16Rm16 r rm | subRm16R16 rm r | subR16Rm16 r rm
  | xorRm16R16 rm r | xorR16Rm16 r rm | cmpRm16R16 rm r | cmpR16Rm16 r rm | arpl rm r | testRm16R16 rm r
  | xchgRm16R16 rm r | movRm16R16 rm r | movR16Rm16 r rm | popRm16 rm | rolRm16One rm | rorRm16One rm
  | rclRm16One rm | rcrRm16One rm | shlRm16One rm | shrRm16One rm | sarRm16One rm | rolRm16Cl rm | rorRm16Cl rm
  | rclRm16Cl rm | rcrRm16Cl rm | shlRm16Cl rm | shrRm16Cl rm | sarRm16Cl rm | notRm16 rm | negRm16 rm | mulRm16 rm
  | imulRm16 rm | divRm16 rm | idivRm16 rm | incRm16 rm | decRm16 rm | callRm16 rm | jmpRm16 rm | pushRm16 rm
  | sldt rm | str rm | lldt rm | ltr rm | verr rm | verw rm | smsw rm | lmsw rm | lar r rm | lsl r rm =>
    simp [decode, decode0F, decodeRow0, decodeRow1, decodeRow2, decodeRow3, decodeRow6, decodeRow8, decodeRowD,
      decodeRowF, group0F00, group0F01, group8F, groupD1, groupD3, groupF7, groupFF, onRM_bytes16 (rm := rm) h]
  | addAlImm8 | orAlImm8 | adcAlImm8 | sbbAlImm8 | andAlImm8 | subAlImm8 | xorAlImm8 | cmpAlImm8 | pushImm8 | jo
  | jno | jb | jnb | je | jne | jbe | jnbe | js | jns | jp | jnp | jl | jnl | jle | jnle | testAlImm8 | intImm8
  | aam | aad | loopnz | loopz | loop | jcxz | inAlImm8 | inAxImm8 | outImm8Al | outImm8Ax | jmpRel8 | pushEs
  | pushCs | pushSs | pushDs | popEs | popSs | popDs | segEs | segCs | segSs | segDs | lock | repne | rep | daa
  | das | aaa | aas | pusha | popa | insb | insw | outsb | outsw | nop | cbw | cwd | wait | pushf | popf | sahf
  | lahf | movsb | movsw | cmpsb | cmpsw | stosb | stosw | lodsb | lodsw | scasb | scasw | ret | leave | retf
  | int3 | into | iret | xlat | inAlDx | inAxDx | outDxAl | outDxAx | hlt | cmc | clc | stc | cli | sti | cld | std
  | cts => rfl
  | addAxImm16 | orAxImm16 | adcAxImm16 | sbbAxImm16 | andAxImm16 | subAxImm16 | xorAxImm16 | cmpAxImm16
  | pushImm16 | callPtr | movAlMoffs | movAxMoffs | movMoffsAl | movMoffsAx | testAxImm16 | retImm16 | enter
  | retfImm16 | callRel16 | jmpRel16 | jmpPtr =>
    simp [decode, decodeRow0, decodeRow1, decodeRow2, decodeRow3, decodeRow6, decodeRow9, decodeRowA, decodeRowC,
      decodeRowE, imm8, imm16, wordBytes]
  | incR16 r | decR16 r | pushR16 r | popR16 r | movR8Imm8 r imm => cases r <;> rfl
  | movR16Imm16 r imm => cases r <;> simp [decode, decodeRowB, opReg, Reg16.num, Reg16.ofNum, imm16, wordBytes]
  | xchgAxR16 r =>
    cases r with
    | ax => cases h
    | _ => rfl
  | bound r m | lea r m | les r m | lds r m | callM16_16 m | jmpM16_16 m | sgdt m | sidt m | lgdt m | lidt m =>
    simp [decode, decode0F, decodeRow0, decodeRow6, decodeRow8, decodeRowC, decodeRowF, group0F01, groupFF, onMem,
      RmField.ifMem, onRM_bytes (m := m) h]
  | imulR16Rm16Imm16 r rm imm | addRm16Imm16 rm imm | orRm16Imm16 rm imm | adcRm16Imm16 rm imm
  | sbbRm16Imm16 rm imm | andRm16Imm16 rm imm | subRm16Imm16 rm imm | xorRm16Imm16 rm imm | cmpRm16Imm16 rm imm
  | movRm16Imm16 rm imm | testRm16Imm16 rm imm =>
    simp [decode, decodeRow6, decodeRow8, decodeRowC, decodeRowF, group81, groupC7, groupF7, imm16, wordBytes,
      onRM_bytes16 (rm := rm) h]
  | imulR16Rm16Imm8 r rm imm | addRm16Imm8 rm imm | orRm16Imm8 rm imm | adcRm16Imm8 rm imm | sbbRm16Imm8 rm imm
  | andRm16Imm8 rm imm | subRm16Imm8 rm imm | xorRm16Imm8 rm imm | cmpRm16Imm8 rm imm | rolRm16Imm8 rm imm
  | rorRm16Imm8 rm imm | rclRm16Imm8 rm imm | rcrRm16Imm8 rm imm | shlRm16Imm8 rm imm | shrRm16Imm8 rm imm
  | sarRm16Imm8 rm imm =>
    simp [decode, decodeRow6, decodeRow8, decodeRowC, group83, groupC1, imm8, onRM_bytes16 (rm := rm) h]
  | addRm8Imm8 rm imm | orRm8Imm8 rm imm | adcRm8Imm8 rm imm | sbbRm8Imm8 rm imm | andRm8Imm8 rm imm
  | subRm8Imm8 rm imm | xorRm8Imm8 rm imm | cmpRm8Imm8 rm imm | addRm8Imm8Dup rm imm | orRm8Imm8Dup rm imm
  | adcRm8Imm8Dup rm imm | sbbRm8Imm8Dup rm imm | andRm8Imm8Dup rm imm | subRm8Imm8Dup rm imm
  | xorRm8Imm8Dup rm imm | cmpRm8Imm8Dup rm imm | rolRm8Imm8 rm imm | rorRm8Imm8 rm imm | rclRm8Imm8 rm imm
  | rcrRm8Imm8 rm imm | shlRm8Imm8 rm imm | shrRm8Imm8 rm imm | sarRm8Imm8 rm imm | movRm8Imm8 rm imm
  | testRm8Imm8 rm imm =>
    simp [decode, decodeRow8, decodeRowC, decodeRowF, group80, group82, groupC0, groupC6, groupF6, imm8,
      onRM_bytes8 (rm := rm) h]
  | movRm16Sreg rm sr =>
    simp [decode, decodeRow8, onRM_bytes16 (rm := rm) h]
  | movSregRm16 sr rm =>
    obtain ⟨hsr, hrm⟩ := Bool.and_eq_true_iff.1 h
    cases sr with
    | cs => cases hsr
    | _ => simp [decode, decodeRow8, SReg.num, SReg.ofNum, onRM_bytes16 hrm]
  | esc op rm =>
    calc decode (opReg 0xD8 (op.extractLsb' 3 3) :: rm.bytes (op.extractLsb' 0 3) ++ rest)
      _ = onRM (rm.bytes (op.extractLsb' 0 3) ++ rest) fun g f u => .instr (.esc (op.extractLsb' 3 3 ++ g) f.rm16) u :=
        decode_esc _
      _ = .instr (.esc (op.extractLsb' 3 3 ++ op.extractLsb' 0 3) (field16 rm).rm16) rest := onRM_bytes16 h
      _ = .instr (.esc op rm) rest := by rw [extractLsb'_append_halves, rm16_field16]

/-! The instruction at the fetch address. -/

theorem codeByte_of_stale_nil {s : State} (h : s.stale = []) (off : Nat) :
    s.codeByte off = s.physByte (physAddr s.msw.pe (s.linear .cs off)) := by
  simp [State.codeByte, staleValues, h]

/-- Bytes that the queue does not hold otherwise are fetched as they stand, up to the code limit and the tenth byte. -/
theorem fetchBytes_eq_append {s : State} {bs : List Byte} (hstale : s.stale = []) (hten : s.pfx.count + bs.length ≤ 10)
    (hlimit : s.ip.toNat + s.pfx.count + bs.length ≤ s.codeLimit + 1)
    (hbytes : ∀ k (h : k < bs.length),
      s.physByte (physAddr s.msw.pe (s.linear .cs (s.ip.toNat + s.pfx.count + k))) = bs[k]) :
    s.fetchBytes = bs ++ s.fetchBytes.drop bs.length := by
  have hroom : bs.length ≤ s.fetchRoom := by
    unfold State.fetchRoom State.fetchOffset
    omega
  have htake : s.fetchBytes.take bs.length = bs := by
    refine List.ext_getElem (by simp [hroom]) fun k hk hk' => ?_
    simpa [State.fetchBytes, State.fetchOffset, codeByte_of_stale_nil hstale] using hbytes k hk'
  calc s.fetchBytes = s.fetchBytes.take bs.length ++ s.fetchBytes.drop bs.length := (List.take_append_drop ..).symm
    _ = bs ++ s.fetchBytes.drop bs.length := by rw [htake]

/-- Settles O5: the bytes fetched are the instruction's and more, which `decode_encode` decodes. -/
theorem stepRunsEncoded : Obligations.StepRunsEncoded := by
  intro s i hwf hreset hboundary hagain hstale hten hlimit hbytes
  have hfetch := fetchBytes_eq_append hstale hten hlimit hbytes
  have hdecode : decode s.fetchBytes = .instr i (s.fetchBytes.drop (encode i).length) :=
    (congrArg decode hfetch).trans (decode_encode i _ hwf)
  have hlength : s.fetchBytes.length - (s.fetchBytes.drop (encode i).length).length = (encode i).length := by
    have hsum := congrArg List.length hfetch
    rw [List.length_append] at hsum
    omega
  rw [step_of_runNext hreset hboundary (runNext_of_decode hagain hdecode), hlength]
  rfl

end Sys2Proof.Proofs

/-! PROOFS. What only the privileged instructions write, GDTR, IDTR and MSW (10_state.md R45 to R47), kept by all else; with it,
how PE changes over a step (47_protected_mode.md R374). -/
namespace Sys2Proof.Proofs
open Sys2Proof Sys2Proof.Machine Sys2Proof.Claims

/-! What a computation can end in. -/

/-- What `m` answers meets `Q`, and a state that it raises in meets `P`. -/
def Meets (P : State → Prop) {α : Type} (Q : α → Prop) (m : Res α) : Prop :=
  match m with
  | .ok a => Q a
  | .error r => ∀ c, r.context = some c → P c

/-- `m` raises only in the state it started in: it reads and checks, and switches no task. -/
def Quiet {α : Type} (m : Res α) : Prop := Meets (fun _ => False) (fun _ => True) m

section
variable {α β : Type} {P : State → Prop} {Q : α → Prop} {R : β → Prop}

@[simp] theorem meets_ok {a : α} : Meets P Q (.ok a) ↔ Q a := Iff.rfl

@[simp] theorem meets_pure {a : α} : Meets P Q (pure a) ↔ Q a := Iff.rfl

@[simp] theorem meets_raise {e : Exc} : Meets P Q (raise e) := fun _ h => nomatch h

@[simp] theorem meets_bind {m : Res α} {f : α → Res β} :
    Meets P R (m >>= f) ↔ Meets P (fun a => Meets P R (f a)) m := by
  cases m <;> rfl

@[simp] theorem meets_map {m : Res α} {f : α → β} : Meets P R (f <$> m) ↔ Meets P (fun a => R (f a)) m := by
  cases m <;> rfl

@[simp] theorem meets_ite {c : Prop} [Decidable c] {m n : Res α} :
    Meets P Q (if c then m else n) ↔ (c → Meets P Q m) ∧ (¬c → Meets P Q n) := by
  split <;> simp [*]

@[simp] theorem meets_require {b : Bool} {e : Exc} {Q : Unit → Prop} :
    Meets P Q (require b e) ↔ (b = true → Q ()) := by
  cases b <;> simp [require]

theorem Meets.imp {Q' : α → Prop} {m : Res α} (h : Meets P Q m) (hQ : ∀ a, Q a → Q' a) : Meets P Q' m := by
  cases m with
  | ok a => exact hQ a h
  | error r => exact h

/-- A raise is delivered in its own state, or where it has none in the state `t` that ran. -/
theorem Meets.raisedIn {m : Res α} {r : Raise} {t : State} (hm : Meets P Q m) (ht : P t) (hr : m = .error r) :
    P (r.context.getD t) := by
  subst hr
  cases hc : r.context with
  | none => exact ht
  | some c => exact hm c hc

theorem Meets.answered {m : Res α} {a : α} (hm : Meets P Q m) (ha : m = .ok a) : Q a := by
  subst ha
  exact hm

theorem Meets.inContext {t : State} {m : Res α} (ht : P t) (hm : Meets P Q m) : Meets P Q (inContext t m) := by
  cases m with
  | ok a => exact hm
  | error r =>
    intro c hc
    cases hr : r.context with
    | none => cases (show some t = some c by simpa [hr] using hc); exact ht
    | some d => cases (show some d = some c by simpa [hr] using hc); exact hm c hr

/-- Of a quiet computation only the answer matters. -/
theorem meets_of_quiet {m : Res α} (h : Quiet m) : Meets P Q m ↔ ∀ a, m = .ok a → Q a := by
  cases m with
  | ok a => simp
  | error r => exact iff_of_true (fun c hc => (h c hc).elim) fun _ h => nomatch h

end

/-! The computations that raise in the state before: the checks, and all that reads. -/

section
variable {P : State → Prop} (s : State)

@[simp] theorem meets_check {Q : Unit → Prop} (r : SReg) (off n : Nat) (write : Bool) (code : Word) :
    Meets P Q (s.check r off n write code) ↔ ∀ u, s.check r off n write code = .ok u → Q u :=
  meets_of_quiet (by simp [Quiet, State.check])

@[simp] theorem meets_lread8 {Q : Byte → Prop} (r : SReg) (off : Word) :
    Meets P Q (s.lread8 r off) ↔ ∀ v, s.lread8 r off = .ok v → Q v :=
  meets_of_quiet (by simp [Quiet, State.lread8])

@[simp] theorem meets_lread16 {Q : Word → Prop} (r : SReg) (off : Word) :
    Meets P Q (s.lread16 r off) ↔ ∀ v, s.lread16 r off = .ok v → Q v :=
  meets_of_quiet (by simp [Quiet, State.lread16])

@[simp] theorem meets_stackWord {Q : Word → Prop} (k : Nat) :
    Meets P Q (s.stackWord k) ↔ ∀ v, s.stackWord k = .ok v → Q v :=
  meets_lread16 s ..

@[simp] theorem meets_fetchOr {Q : Desc → Prop} (sel : Word) (e : Exc) :
    Meets P Q (s.fetchOr sel e) ↔ ∀ d, s.fetchDesc sel = some d → Q d := by
  unfold State.fetchOr
  cases s.fetchDesc sel <;> simp

@[simp] theorem meets_checkDataDesc {Q : Unit → Prop} (cpl : Level) (sel : Word) (d : Desc) (bad absent : Exc) :
    Meets P Q (checkDataDesc cpl sel d bad absent) ↔ ∀ u, checkDataDesc cpl sel d bad absent = .ok u → Q u :=
  meets_of_quiet (by simp [Quiet, checkDataDesc])

@[simp] theorem meets_tssDesc {Q : Desc → Prop} (sel : Word) (type : BitVec 4) (bad absent : Exc) :
    Meets P Q (s.tssDesc sel type bad absent) ↔ ∀ d, s.tssDesc sel type bad absent = .ok d → Q d :=
  meets_of_quiet (by simp [Quiet, State.tssDesc])

@[simp] theorem meets_innerStack {Q : Word × Word → Prop} (lvl : Level) (ext : Word) :
    Meets P Q (s.innerStack lvl ext) ↔ ∀ x, s.innerStack lvl ext = .ok x → Q x :=
  meets_of_quiet (by simp [Quiet, State.innerStack])

@[simp] theorem meets_innerSs {Q : Desc → Prop} (lvl : Level) (nss ext : Word) :
    Meets P Q (s.innerSs lvl nss ext) ↔ ∀ d, s.innerSs lvl nss ext = .ok d → Q d :=
  meets_of_quiet (by simp [Quiet, State.innerSs])

theorem quiet_roomFor (code : Word) (n : Nat) : Quiet (s.roomFor code n) := by
  induction n with
  | zero => trivial
  | succ n ih =>
    unfold State.roomFor
    split
    · simp [Quiet]
    next r h => exact h ▸ ih

@[simp] theorem meets_roomFor {Q : Unit → Prop} (code : Word) (n : Nat) :
    Meets P Q (s.roomFor code n) ↔ ∀ u, s.roomFor code n = .ok u → Q u :=
  meets_of_quiet (quiet_roomFor s code n)

theorem quiet_stackWords (n : Nat) : Quiet (s.stackWords n) := by
  induction n with
  | zero => trivial
  | succ n ih =>
    have hword : Quiet (s.stackWord n) := by simp [Quiet]
    unfold State.stackWords
    split
    next => trivial
    next r h => rw [h] at ih; exact ih
    next r _ h => rw [h] at hword; exact hword

@[simp] theorem meets_stackWords {Q : List Word → Prop} (n : Nat) :
    Meets P Q (s.stackWords n) ↔ ∀ ws, s.stackWords n = .ok ws → Q ws :=
  meets_of_quiet (quiet_stackWords s n)

@[simp] theorem meets_readRm8 {Q : Byte → Prop} (rm : RM8) :
    Meets P Q (s.readRm8 rm) ↔ ∀ v, s.readRm8 rm = .ok v → Q v := by
  cases rm <;> simp [State.readRm8]

@[simp] theorem meets_readRm16 {Q : Word → Prop} (rm : RM16) :
    Meets P Q (s.readRm16 rm) ↔ ∀ v, s.readRm16 rm = .ok v → Q v := by
  cases rm <;> simp [State.readRm16]

@[simp] theorem meets_checkRm8 {Q : Unit → Prop} (rm : RM8) :
    Meets P Q (s.checkRm8 rm) ↔ ∀ u, s.checkRm8 rm = .ok u → Q u :=
  meets_of_quiet (by cases rm <;> simp [Quiet, State.checkRm8])

@[simp] theorem meets_checkRm16 {Q : Unit → Prop} (rm : RM16) :
    Meets P Q (s.checkRm16 rm) ↔ ∀ u, s.checkRm16 rm = .ok u → Q u :=
  meets_of_quiet (by cases rm <;> simp [Quiet, State.checkRm16])

@[simp] theorem meets_readPointer {Q : Word × Word → Prop} (m : Mem) :
    Meets P Q (s.readPointer m) ↔ ∀ p, s.readPointer m = .ok p → Q p :=
  meets_of_quiet (by simp [Quiet, State.readPointer])

@[simp] theorem meets_readTable {Q : TableReg → Prop} (m : Mem) :
    Meets P Q (s.readTable m) ↔ ∀ t, s.readTable m = .ok t → Q t :=
  meets_of_quiet (by simp [Quiet, State.readTable])

end

/-! The registers that only privileged instructions write. -/

/-- GDTR, IDTR and MSW (10_state.md R45 to R47). -/
structure SystemRegs where
  gdtr : TableReg
  idtr : TableReg
  msw : Msw

/-- `b` is as `a`, but that TS may have been set. -/
structure SystemLe (a b : SystemRegs) : Prop where
  gdtr : b.gdtr = a.gdtr
  idtr : b.idtr = a.idtr
  pe : b.msw.pe = a.msw.pe
  mp : b.msw.mp = a.msw.mp
  em : b.msw.em = a.msw.em
  ts : a.msw.ts = true → b.msw.ts = true

/-- GDTR, IDTR, PE, MP and EM are in `t` as in `s`, and TS is set if it was. -/
def SystemKept (s t : State) : Prop := SystemLe ⟨s.gdtr, s.idtr, s.msw⟩ ⟨t.gdtr, t.idtr, t.msw⟩

theorem SystemKept.refl (s : State) : SystemKept s s := ⟨rfl, rfl, rfl, rfl, rfl, id⟩

/-- The task switch sets TS (60_exceptions.md R470 step 5). -/
theorem SystemLe.set_ts {a : SystemRegs} {g i : TableReg} {m : Msw} (h : SystemLe a ⟨g, i, m⟩) :
    SystemLe a ⟨g, i, { m with ts := true }⟩ :=
  ⟨h.gdtr, h.idtr, h.pe, h.mp, h.em, fun _ => rfl⟩

/-- `m` keeps the system registers of `s`: in what it answers and in a state that it raises in. -/
abbrev Keeps (s : State) (m : Res State) : Prop := Meets (SystemKept s) (SystemKept s) m

section
variable {s₀ s : State} {P Q : State → Prop}

@[simp] theorem meets_push (code v : Word) :
    Meets P Q (s.push code v) ↔ ∀ t, s.push code v = .ok t → Q t :=
  meets_of_quiet (by simp [Quiet, State.push])

theorem quiet_pushAll (s : State) (code : Word) (vs : List Word) : Quiet (s.pushAll code vs) := by
  induction vs generalizing s with
  | nil => trivial
  | cons v vs ih =>
    have hpush : Quiet (s.push code v) := by simp [Quiet]
    unfold State.pushAll
    split
    next t h => exact ih t
    next r h => rw [h] at hpush; exact hpush

@[simp] theorem meets_pushAll (code : Word) (vs : List Word) :
    Meets P Q (s.pushAll code vs) ↔ ∀ t, s.pushAll code vs = .ok t → Q t :=
  meets_of_quiet (quiet_pushAll s code vs)

/-- Of a state that has the system registers of one that kept them. -/
theorem SystemKept.of_eq {t : State} (h : SystemKept s₀ s) (hgdtr : t.gdtr = s.gdtr) (hidtr : t.idtr = s.idtr)
    (hmsw : t.msw = s.msw) : SystemKept s₀ t := by
  simpa only [SystemKept, hgdtr, hidtr, hmsw] using h

@[simp] theorem systemKept_write8 (a : Nat) (v : Byte) : SystemKept s₀ (s.write8 a v) ↔ SystemKept s₀ s := Iff.rfl

@[simp] theorem systemKept_write16 (a : Nat) (v : Word) : SystemKept s₀ (s.write16 a v) ↔ SystemKept s₀ s := Iff.rfl

@[simp] theorem systemKept_setReg16 (r : Reg16) (v : Word) : SystemKept s₀ (s.setReg16 r v) ↔ SystemKept s₀ s := by
  simp [SystemKept]

@[simp] theorem systemKept_setReg8 (r : Reg8) (v : Byte) : SystemKept s₀ (s.setReg8 r v) ↔ SystemKept s₀ s := by
  simp [SystemKept]

@[simp] theorem systemKept_setSeg (r : SReg) (g : SegReg) : SystemKept s₀ (s.setSeg r g) ↔ SystemKept s₀ s := by
  simp [SystemKept]

@[simp] theorem systemKept_markBusy (d : Desc) : SystemKept s₀ (s.markBusy d) ↔ SystemKept s₀ s := Iff.rfl

@[simp] theorem systemKept_markAccessed (d : Desc) : SystemKept s₀ (s.markAccessed d) ↔ SystemKept s₀ s := by
  simp [SystemKept]

theorem loadDataSeg_keeps (h : SystemKept s₀ s) (r : SReg) (sel : Word) : Keeps s₀ (s.loadDataSeg r sel) := by
  simp [State.loadDataSeg, h]

theorem loadSs_keeps (h : SystemKept s₀ s) (sel : Word) : Keeps s₀ (s.loadSs sel) := by
  simp [State.loadSs, h]

theorem loadSeg_keeps (h : SystemKept s₀ s) (r : SReg) (v : Word) : Keeps s₀ (s.loadSeg r v) := by
  simp [State.loadSeg, loadSs_keeps h, loadDataSeg_keeps h, h]

section
variable (lvl : Level) (nsp nss off sel : Word) (d : Desc)
@[simp] theorem switchStack_gdtr : (s.switchStack lvl nsp nss d).gdtr = s.gdtr := by simp [State.switchStack]
@[simp] theorem switchStack_idtr : (s.switchStack lvl nsp nss d).idtr = s.idtr := by simp [State.switchStack]
@[simp] theorem switchStack_msw : (s.switchStack lvl nsp nss d).msw = s.msw := by simp [State.switchStack]
@[simp] theorem enterCode_gdtr : (s.enterCode sel d off).gdtr = s.gdtr := by simp [State.enterCode]
@[simp] theorem enterCode_idtr : (s.enterCode sel d off).idtr = s.idtr := by simp [State.enterCode]
@[simp] theorem enterCode_msw : (s.enterCode sel d off).msw = s.msw := by simp [State.enterCode]
end

@[simp] theorem systemKept_switchStack (lvl : Level) (nsp nss : Word) (d : Desc) :
    SystemKept s₀ (s.switchStack lvl nsp nss d) ↔ SystemKept s₀ s := by
  simp [SystemKept, State.switchStack]

@[simp] theorem systemKept_enterCode (sel : Word) (d : Desc) (off : Word) :
    SystemKept s₀ (s.enterCode sel d off) ↔ SystemKept s₀ s := by
  simp [SystemKept, State.enterCode]

@[simp] theorem systemKept_realFar (sel off : Word) : SystemKept s₀ (s.realFar sel off) ↔ SystemKept s₀ s := Iff.rfl

theorem pushAll_systemKept {t : State} (h : SystemKept s₀ s) {code : Word} {vs : List Word}
    (ht : s.pushAll code vs = .ok t) : SystemKept s₀ t := by
  rw [pushAll_ok ht]
  exact h

/-! Task switches. -/

theorem switchLdt_keeps (h : SystemKept s₀ s) (ext : Word) : Keeps s₀ (s.switchLdt ext) := by
  simp only [State.switchLdt, meets_ite, meets_ok, h, implies_true, meets_bind, meets_require, meets_fetchOr, true_and]
  intros
  exact h

theorem switchCs_keeps (h : SystemKept s₀ s) (ext : Word) : Keeps s₀ (s.switchCs ext) := by
  simp [State.switchCs, h]

theorem switchSs_keeps (h : SystemKept s₀ s) (ext : Word) : Keeps s₀ (s.switchSs ext) := by
  simp [State.switchSs, h]

theorem switchData_keeps (h : SystemKept s₀ s) (r : SReg) (ext : Word) : Keeps s₀ (s.switchData r ext) := by
  simp [State.switchData, h]

theorem enterTask_keeps (h : SystemKept s₀ s) (ext : Word) : Keeps s₀ (s.enterTask ext) := by
  simp only [State.enterTask, meets_bind]
  refine (Meets.inContext h (switchLdt_keeps h ext)).imp fun t ht => ?_
  have hcpl : SystemKept s₀ { t with cpl := selRpl t.cs.sel } := ht
  refine (Meets.inContext hcpl (switchCs_keeps hcpl ext)).imp fun t ht => ?_
  refine (Meets.inContext ht (switchSs_keeps ht ext)).imp fun t ht => ?_
  refine (Meets.inContext ht (switchData_keeps ht .ds ext)).imp fun t ht => ?_
  refine (Meets.inContext ht (switchData_keeps ht .es ext)).imp fun t ht => ?_
  exact Meets.inContext ht (meets_require.2 fun _ => ht)

@[simp] theorem systemKept_saveTask (a : Nat) (returnIp : Word) (flags : Flags) :
    SystemKept s₀ (s.saveTask a returnIp flags) ↔ SystemKept s₀ s := by
  simp only [State.saveTask, systemKept_write16]

@[simp] theorem systemKept_loadTask (a : Nat) (links : Bool) :
    SystemKept s₀ (s.loadTask a links) ↔ SystemKept s₀ s := Iff.rfl

theorem SystemKept.ite {c : Prop} [Decidable c] {t : State} (hs : SystemKept s₀ s) (ht : SystemKept s₀ t) :
    SystemKept s₀ (if c then s else t) := by
  split <;> assumption

theorem leaveTask_systemKept (h : SystemKept s₀ s) (sel : Word) (d : Desc) (kind : SwitchKind) (returnIp : Word) :
    SystemKept s₀ (s.leaveTask sel d kind returnIp) := by
  unfold State.leaveTask
  extract_lets old flags image oldAr saved freed linked busy msw entered
  have hsaved : SystemKept s₀ saved := (systemKept_saveTask ..).2 h
  have hfreed : SystemKept s₀ freed := hsaved.ite ((systemKept_write8 ..).2 hsaved)
  have hlinked : SystemKept s₀ linked := SystemKept.ite ((systemKept_write16 ..).2 hfreed) hfreed
  have hbusy : SystemKept s₀ busy := SystemKept.ite hlinked ((systemKept_markBusy ..).2 hlinked)
  have hentered : SystemKept s₀ entered := SystemLe.set_ts hbusy
  exact (systemKept_loadTask ..).2 hentered

theorem taskSwitch_keeps (h : SystemKept s₀ s) (sel : Word) (d : Desc) (kind : SwitchKind) (returnIp ext : Word) :
    Keeps s₀ (s.taskSwitch sel d kind returnIp ext) := by
  simp [State.taskSwitch, enterTask_keeps (leaveTask_systemKept h ..)]

/-! Far transfers. -/

theorem callInner_keeps (h : SystemKept s₀ s) (g t : Desc) : Keeps s₀ (s.callInner g t) := by
  simp only [State.callInner, meets_bind, systemKept_enterCode, meets_pushAll, meets_stackWords, meets_roomFor,
    meets_innerSs, meets_innerStack, meets_pure]
  intros
  exact pushAll_systemKept ((systemKept_switchStack ..).2 h) ‹_›

theorem gateTransfer_keeps (h : SystemKept s₀ s) (sel : Word) (g : Desc) (call : Bool) :
    Keeps s₀ (s.gateTransfer sel g call) := by
  simp only [State.gateTransfer, meets_bind, meets_ite, callInner_keeps h, implies_true, systemKept_enterCode,
    meets_pushAll, meets_pure, h, and_true, meets_require, true_and, meets_fetchOr]
  intros
  exact pushAll_systemKept h ‹_›

theorem codeTransfer_keeps (h : SystemKept s₀ s) (sel off : Word) (d : Desc) (call : Bool) :
    Keeps s₀ (s.codeTransfer sel off d call) := by
  simp only [State.codeTransfer, meets_bind, meets_ite, systemKept_enterCode, meets_pushAll, meets_pure, h,
    implies_true, and_true, meets_require]
  intros
  exact pushAll_systemKept h ‹_›

theorem taskTransfer_keeps (h : SystemKept s₀ s) (sel : Word) (d : Desc) (call : Bool) :
    Keeps s₀ (s.taskTransfer sel d call) := by
  simp [State.taskTransfer, taskSwitch_keeps h]

theorem farTransfer_keeps (h : SystemKept s₀ s) (sel off : Word) (call : Bool) :
    Keeps s₀ (s.farTransfer sel off call) := by
  simp [State.farTransfer, codeTransfer_keeps h, gateTransfer_keeps h, taskTransfer_keeps h]

theorem farJump_keeps (h : SystemKept s₀ s) (sel off : Word) : Keeps s₀ (s.farJump sel off) := by
  simp [State.farJump, farTransfer_keeps h, h]

theorem farCall_keeps (h : SystemKept s₀ s) (sel off : Word) : Keeps s₀ (s.farCall sel off) := by
  simp only [State.farCall, meets_ite, farTransfer_keeps h, implies_true, meets_pushAll, true_and, meets_bind]
  exact fun _ _ => pushAll_systemKept h

theorem returnSame_keeps (h : SystemKept s₀ s) (rsel off size : Word) : Keeps s₀ (s.returnSame rsel off size) := by
  simp only [State.returnSame, meets_bind, meets_require, meets_fetchOr]
  intros
  exact h.of_eq (by simp) (by simp) (by simp)

theorem returnOuter_keeps (h : SystemKept s₀ s) (rsel off n release : Word) :
    Keeps s₀ (s.returnOuter rsel off n release) := by
  simp only [State.returnOuter, meets_bind, meets_require, meets_fetchOr, meets_check]
  intros
  exact h.of_eq (by simp) (by simp) (by simp)

theorem farReturn_keeps (h : SystemKept s₀ s) (imm : Word) : Keeps s₀ (s.farReturn imm) := by
  simp only [State.farReturn, meets_bind, meets_ite, meets_raise, implies_true, returnSame_keeps h, returnOuter_keeps
    h, true_and, meets_stackWord]
  intros; exact h

/-! Taking an interrupt or exception, and returning. -/

theorem enterReal_keeps (h : SystemKept s₀ s) (n : Byte) (returnIp : Word) : Keeps s₀ (s.enterReal n returnIp) := by
  simp only [State.enterReal, meets_bind, meets_pushAll, meets_require]
  exact fun _ t ht => (pushAll_systemKept h ht).of_eq rfl rfl rfl

theorem enterSame_keeps (h : SystemKept s₀ s) (g t : Desc) (returnIp : Word) (ec : Option Word) (ext : Word) :
    Keeps s₀ (s.enterSame g t returnIp ec ext) := by
  simp only [State.enterSame, meets_bind, meets_require, meets_pushAll]
  intro t ht _
  exact (pushAll_systemKept h ht).of_eq (by simp) (by simp) (by simp)

theorem enterInner_keeps (h : SystemKept s₀ s) (g t : Desc) (returnIp : Word) (ec : Option Word) (ext : Word) :
    Keeps s₀ (s.enterInner g t returnIp ec ext) := by
  simp only [State.enterInner, meets_bind, meets_require, meets_pushAll, meets_innerSs, meets_innerStack, Prod.forall]
  intro nsp nss _ d _ t ht _
  exact (pushAll_systemKept ((systemKept_switchStack ..).2 h) ht).of_eq (by simp) (by simp) (by simp)

theorem enterTaskGate_keeps (h : SystemKept s₀ s) (g : Desc) (returnIp : Word) (ec : Option Word) (ext : Word) :
    Keeps s₀ (s.enterTaskGate g returnIp ec ext) := by
  simp only [State.enterTaskGate, meets_bind, meets_tssDesc]
  intro d _
  refine (taskSwitch_keeps h ..).imp fun t ht => Meets.inContext ht ?_
  simpa using fun t => pushAll_systemKept ht

theorem enterProtected_keeps (h : SystemKept s₀ s) (n : Byte) (soft : Bool) (returnIp : Word) (ec : Option Word) :
    Keeps s₀ (s.enterProtected n soft returnIp ec) := by
  simp [State.enterProtected, enterTaskGate_keeps h, enterInner_keeps h, enterSame_keeps h]

theorem interrupt_keeps (h : SystemKept s₀ s) (n : Byte) (soft : Bool) (returnIp : Word) (ec : Option Word) :
    Keeps s₀ (s.interrupt n soft returnIp ec) := by
  simp only [State.interrupt, meets_ite, meets_bind]
  exact ⟨fun _ => enterProtected_keeps h .., fun _ => enterReal_keeps h ..⟩

theorem returnTask_keeps (h : SystemKept s₀ s) : Keeps s₀ s.returnTask := by
  simp only [State.returnTask, meets_bind, meets_ite, meets_raise, implies_true, true_and, meets_require,
    meets_stackWord]
  intros
  exact ⟨fun _ => returnSame_keeps h .., fun _ => returnOuter_keeps h ..⟩

theorem returnLinked_keeps (h : SystemKept s₀ s) : Keeps s₀ s.returnLinked := by
  simp [State.returnLinked, taskSwitch_keeps h]

theorem returnReal_keeps (h : SystemKept s₀ s) : Keeps s₀ s.returnReal := by
  simp only [State.returnReal, meets_bind, meets_stackWord]
  intros; exact h

theorem interruptReturn_keeps (h : SystemKept s₀ s) : Keeps s₀ s.interruptReturn := by
  simp only [State.interruptReturn, meets_ite, meets_bind]
  exact ⟨fun _ => returnReal_keeps h, fun _ => ⟨fun _ => returnLinked_keeps h, fun _ => returnTask_keeps h⟩⟩

end

section
variable {s₀ s : State}

@[simp] theorem systemKept_setZf (z : Bool) : SystemKept s₀ (s.setZf z) ↔ SystemKept s₀ s := Iff.rfl
@[simp] theorem systemKept_stepSi (n : Nat) : SystemKept s₀ (s.stepSi n) ↔ SystemKept s₀ s := Iff.rfl
@[simp] theorem systemKept_stepDi (n : Nat) : SystemKept s₀ (s.stepDi n) ↔ SystemKept s₀ s := Iff.rfl
@[simp] theorem systemKept_portOut (p : Word) (n : Nat) (v : Word) :
    SystemKept s₀ (s.portOut p n v) ↔ SystemKept s₀ s := Iff.rfl

@[simp] theorem systemKept_imulInto (r : Reg16) (a b : Word) : SystemKept s₀ (s.imulInto r a b) ↔ SystemKept s₀ s := by
  simp [SystemKept, State.imulInto]

variable (h : SystemKept s₀ s)
include h

theorem lwrite8_keeps (r : SReg) (off : Word) (v : Byte) : Keeps s₀ (s.lwrite8 r off v) := by
  simp [State.lwrite8, h]

theorem lwrite16_keeps (r : SReg) (off v : Word) : Keeps s₀ (s.lwrite16 r off v) := by
  simp [State.lwrite16, h]

theorem push_keeps (code v : Word) : Keeps s₀ (s.push code v) := by
  simp only [State.push, meets_bind, meets_check, meets_pure]
  exact fun _ _ => h

theorem pop_keeps : Meets (SystemKept s₀) (fun x => SystemKept s₀ x.2) s.pop := by
  simp only [State.pop, meets_bind, meets_lread16, meets_pure]
  exact fun _ _ => h

theorem writeRm8_keeps (rm : RM8) (v : Byte) : Keeps s₀ (s.writeRm8 rm v) := by
  cases rm with
  | reg r => simp [State.writeRm8, h]
  | mem m => exact lwrite8_keeps h ..

theorem writeRm16_keeps (rm : RM16) (v : Word) : Keeps s₀ (s.writeRm16 rm v) := by
  cases rm with
  | reg r => simp [State.writeRm16, h]
  | mem m => exact lwrite16_keeps h ..

theorem updRm8_keeps (rm : RM8) (op : Byte → Byte × Flags) : Keeps s₀ (s.updRm8 rm op) := by
  simp only [State.updRm8, meets_bind, meets_readRm8]
  exact fun _ _ => (writeRm8_keeps h ..).imp fun _ ht => ht

theorem updRm16_keeps (rm : RM16) (op : Word → Word × Flags) : Keeps s₀ (s.updRm16 rm op) := by
  simp only [State.updRm16, meets_bind, meets_readRm16]
  exact fun _ _ => (writeRm16_keeps h ..).imp fun _ ht => ht

theorem updReg8_keeps (r : Reg8) (rm : RM8) (op : Byte → Byte → Byte × Flags) : Keeps s₀ (s.updReg8 r rm op) := by
  simp [State.updReg8, updRm8_keeps h]

theorem updReg16_keeps (r : Reg16) (rm : RM16) (op : Word → Word → Word × Flags) : Keeps s₀ (s.updReg16 r rm op) := by
  simp [State.updReg16, updRm16_keeps h]

theorem flagsRm8_keeps (rm : RM8) (op : Byte → Byte × Flags) : Keeps s₀ (s.flagsRm8 rm op) := by
  simp only [State.flagsRm8, meets_bind, meets_readRm8, meets_pure]
  exact fun _ _ => h

theorem flagsRm16_keeps (rm : RM16) (op : Word → Word × Flags) : Keeps s₀ (s.flagsRm16 rm op) := by
  simp only [State.flagsRm16, meets_bind, meets_readRm16, meets_pure]
  exact fun _ _ => h

theorem shiftRm8_keeps (rm : RM8) (count : Byte) (op : Byte → Nat → Byte × Flags) :
    Keeps s₀ (s.shiftRm8 rm count op) := by
  simp [State.shiftRm8, updRm8_keeps h, h]

theorem shiftRm16_keeps (rm : RM16) (count : Byte) (op : Word → Nat → Word × Flags) :
    Keeps s₀ (s.shiftRm16 rm count op) := by
  simp [State.shiftRm16, updRm16_keeps h, h]

theorem jumpNear_keeps (target : Word) : Keeps s₀ (s.jumpNear target) := by
  simp only [State.jumpNear, meets_bind, meets_require, meets_pure]
  exact fun _ => h

theorem branch_keeps (cond : Bool) (rel : Byte) : Keeps s₀ (s.branch cond rel) := by
  unfold State.branch
  split
  · exact jumpNear_keeps h _
  · exact h

theorem callNear_keeps (target : Word) : Keeps s₀ (s.callNear target) := by
  simp only [State.callNear, meets_bind, meets_require]
  exact fun _ => (push_keeps h ..).imp fun t ht => jumpNear_keeps ht _

theorem retNear_keeps (imm : Word) : Keeps s₀ (s.retNear imm) := by
  simp only [State.retNear, meets_bind, meets_stackWord]
  exact fun off _ => (jumpNear_keeps h _).imp fun t ht => ht

theorem loadSegShadow_keeps (r : SReg) (v : Word) : Keeps s₀ (s.loadSegShadow r v) := by
  simp only [State.loadSegShadow, meets_bind]
  exact (loadSeg_keeps h r v).imp fun t ht => SystemKept.ite ht ht

theorem popSeg_keeps (r : SReg) : Keeps s₀ (s.popSeg r) := by
  simp only [State.popSeg, meets_bind, meets_lread16]
  exact fun v _ => (loadSegShadow_keeps h r v).imp fun t ht => ht

theorem copyDisplay_keeps (k : Nat) : Keeps s₀ (s.copyDisplay k) := by
  induction k generalizing s with
  | zero => exact h
  | succ k ih =>
    simp only [State.copyDisplay, meets_bind, meets_lread16]
    exact fun v _ => (push_keeps (s := { s with regs := { s.regs with bp := s.regs.bp - 2 } }) h 0 v).imp fun t ht => ih ht

theorem enterFrame_keeps (size : Word) (level : Nat) : Keeps s₀ (s.enterFrame size level) := by
  simp only [State.enterFrame, meets_bind]
  refine (push_keeps h ..).imp fun t ht => meets_ite.2 ⟨fun _ => ht, fun _ => ?_⟩
  simp only [meets_bind]
  exact (copyDisplay_keeps ht _).imp fun u hu => (push_keeps hu ..).imp fun v hv => hv

theorem popAllRegs_keeps : Keeps s₀ s.popAllRegs := by
  simp only [State.popAllRegs, meets_bind, meets_stackWord, meets_pure]
  intros
  exact h

theorem writeTable_keeps (m : Mem) (t : TableReg) : Keeps s₀ (s.writeTable m t) := by
  simp [State.writeTable, h]

theorem loadLdt_keeps (sel : Word) : Keeps s₀ (s.loadLdt sel) := by
  simp only [State.loadLdt, meets_ite, meets_bind, meets_require, meets_fetchOr, meets_pure, meets_ok]
  exact ⟨fun _ => h, fun _ _ _ _ _ _ => h⟩

theorem loadTr_keeps (sel : Word) : Keeps s₀ (s.loadTr sel) := by
  simp only [State.loadTr, meets_bind, meets_require, meets_fetchOr, meets_pure]
  intros
  exact h

theorem divByte_keeps (b : Byte) : Keeps s₀ (s.divByte b) := by
  simp only [State.divByte, meets_bind, meets_require, meets_pure]
  exact fun _ _ => h

theorem divWord_keeps (b : Word) : Keeps s₀ (s.divWord b) := by
  simp only [State.divWord, meets_bind, meets_require, meets_pure]
  exact fun _ _ => h

theorem idivByte_keeps (b : Byte) : Keeps s₀ (s.idivByte b) := by
  simp only [State.idivByte, meets_bind, meets_require, meets_pure]
  exact fun _ _ => h

theorem idivWord_keeps (b : Word) : Keeps s₀ (s.idivWord b) := by
  simp only [State.idivWord, meets_bind, meets_require, meets_pure]
  exact fun _ _ => h

end

/-- The element of a string operation (43_string.md R271 to R277). -/
def element : StringOp → State → Res State
  | .movsb => State.movsByte
  | .movsw => State.movsWord
  | .cmpsb => State.cmpsByte
  | .cmpsw => State.cmpsWord
  | .scasb => State.scasByte
  | .scasw => State.scasWord
  | .lodsb => State.lodsByte
  | .lodsw => State.lodsWord
  | .stosb => State.stosByte
  | .stosw => State.stosWord
  | .insb => State.insByte
  | .insw => State.insWord
  | .outsb => State.outsByte
  | .outsw => State.outsWord

theorem element_keeps {s₀ s : State} (h : SystemKept s₀ s) (op : StringOp) : Keeps s₀ (element op s) := by
  cases op with
  | movsb | stosb | insb =>
    simp [element, State.movsByte, State.stosByte, State.insByte, State.insCheck, State.lwrite8, h]
  | movsw | stosw | insw =>
    simp [element, State.movsWord, State.stosWord, State.insWord, State.insCheck, State.lwrite16, h]
  | cmpsb | cmpsw | scasb | scasw =>
    simp only [element, State.cmpsByte, State.cmpsWord, State.scasByte, State.scasWord, meets_bind, meets_lread8,
      meets_lread16, meets_pure]
    intros
    exact h
  | lodsb | lodsw => simp [element, State.lodsByte, State.lodsWord, h]
  | outsb | outsw => simp [element, State.outsByte, State.outsWord, State.outsCheck, h]

/-! What an instruction ends in. -/

/-- The next state, if there is one, has kept the system registers of `s`. -/
def EndsKept (s : State) (o : Host.Outcome State Fault Refusal) : Prop := ∀ t, o = .next t → SystemKept s t

section
variable {s : State}

@[simp] theorem endsKept_next {t : State} : EndsKept s (.next t) ↔ SystemKept s t := by
  simp [EndsKept]

@[simp] theorem endsKept_refused {r : Refusal} : EndsKept s (.refused r) := fun _ h => nomatch h

theorem EndsKept.ite {c : Prop} [Decidable c] {o o' : Host.Outcome State Fault Refusal} (ho : EndsKept s o)
    (ho' : EndsKept s o') : EndsKept s (if c then o else o') := by
  split <;> assumption

theorem deliver_systemKept {s₀ : State} {r : Raise} (h : SystemKept s₀ (r.context.getD s)) :
    SystemKept s₀ (s.deliver r) :=
  deliver_keeps (SystemKept s₀) (fun _ _ _ hs he => (interrupt_keeps hs ..).answered he)
    (fun _ _ _ hs he => (interrupt_keeps hs ..).raisedIn hs he) (fun _ hs => hs) h

theorem settle_ends {m : Res State} (hm : Keeps s m) : EndsKept s (settle s m) := by
  intro t ht
  rcases settle_next.1 ht with ⟨u, hu, rfl⟩ | ⟨r, hr, rfl⟩
  · have hkept : SystemKept s u := hm.answered hu
    exact hkept
  · exact deliver_systemKept (hm.raisedIn (SystemKept.refl s) hr)

theorem transfer_ends {f : State → Res State} (hf : ∀ u, SystemKept s u → Keeps s (f u)) : EndsKept s (transfer s f) :=
  EndsKept.ite endsKept_refused (settle_ends (hf _ (SystemKept.refl s)))

theorem plain_ends {f : State → Res State} (hf : ∀ u, SystemKept s u → Keeps s (f u)) : EndsKept s (plain s f) :=
  transfer_ends fun u hu => meets_bind.2 ((hf u hu).imp fun _ ht => ht)

theorem repeatTurn_keeps {op : StringOp} {p : Rep} {f : State → Res State} (hf : ∀ u, SystemKept s u → Keeps s (f u)) :
    Keeps s (repeatTurn s op p f) := by
  unfold repeatTurn
  split
  · exact SystemKept.refl s
  · refine meets_bind.2 ((hf s.begin (SystemKept.refl s)).imp fun u hu => meets_pure.2 ?_)
    split <;> exact hu

theorem stringInstr_ends (op : StringOp) : EndsKept s (stringInstr s op (element op)) := by
  have hf (u : State) (hu : SystemKept s u) := element_keeps hu op
  unfold stringInstr
  split
  · exact plain_ends hf
  · refine EndsKept.ite endsKept_refused ?_
    have hturn := repeatTurn_keeps (op := op) (p := ‹Rep›) hf
    split
    next t ht => exact endsKept_next.2 (hturn.answered ht)
    next r hr => exact endsKept_next.2 (deliver_systemKept (hturn.raisedIn (SystemKept.refl s) hr))

theorem escInstr_ends : EndsKept s (escInstr s) := by
  have hquiet : Quiet s.escCheck := by simp [Quiet, State.escCheck]
  unfold escInstr
  split
  · exact endsKept_refused
  next r hr => exact transfer_ends fun u hu c hc => absurd hc (by rw [hr] at hquiet; exact hquiet c)

end

/-- The instructions that write GDTR, IDTR or MSW (47_protected_mode.md R371, R372, R374, R392). -/
def writesSystem : Instr → Bool
  | .lgdt _ | .lidt _ | .lmsw _ | .cts => true
  | _ => false

theorem flagInstr_ends {s : State} (f : Flags → Flags) : EndsKept s (flagInstr s f) :=
  plain_ends fun _ hu => meets_pure.2 hu

/-- Every instruction but those four keeps the system registers. -/
theorem exec_ends (i : Instr) (s : State) (hi : writesSystem i = false) : EndsKept s (exec i s) := by
  unfold exec
  cases i with
  | addRm8R8 | addAlImm8 | orRm8R8 | orAlImm8 | adcRm8R8 | adcAlImm8 | sbbRm8R8 | sbbAlImm8 | andRm8R8 | andAlImm8
  | subRm8R8 | subAlImm8 | xorRm8R8 | xorAlImm8 | addRm8Imm8 | orRm8Imm8 | adcRm8Imm8 | sbbRm8Imm8 | andRm8Imm8
  | subRm8Imm8 | xorRm8Imm8 | addRm8Imm8Dup | orRm8Imm8Dup | adcRm8Imm8Dup | sbbRm8Imm8Dup | andRm8Imm8Dup
  | subRm8Imm8Dup | xorRm8Imm8Dup | notRm8 | negRm8 | incRm8 | decRm8 =>
    exact plain_ends fun u hu => updRm8_keeps hu ..
  | addRm16R16 | addAxImm16 | orRm16R16 | orAxImm16 | adcRm16R16 | adcAxImm16 | sbbRm16R16 | sbbAxImm16
  | andRm16R16 | andAxImm16 | subRm16R16 | subAxImm16 | xorRm16R16 | xorAxImm16 | incR16 | decR16 | addRm16Imm16
  | orRm16Imm16 | adcRm16Imm16 | sbbRm16Imm16 | andRm16Imm16 | subRm16Imm16 | xorRm16Imm16 | addRm16Imm8
  | orRm16Imm8 | adcRm16Imm8 | sbbRm16Imm8 | andRm16Imm8 | subRm16Imm8 | xorRm16Imm8 | notRm16 | negRm16 | incRm16
  | decRm16 =>
    exact plain_ends fun u hu => updRm16_keeps hu ..
  | addR8Rm8 | orR8Rm8 | adcR8Rm8 | sbbR8Rm8 | andR8Rm8 | subR8Rm8 | xorR8Rm8 =>
    exact plain_ends fun u hu => updReg8_keeps hu ..
  | addR16Rm16 | orR16Rm16 | adcR16Rm16 | sbbR16Rm16 | andR16Rm16 | subR16Rm16 | xorR16Rm16 =>
    exact plain_ends fun u hu => updReg16_keeps hu ..
  | cmpRm8R8 | cmpR8Rm8 | cmpAlImm8 | cmpRm8Imm8 | cmpRm8Imm8Dup | testRm8R8 | testAlImm8 | testRm8Imm8 =>
    exact plain_ends fun u hu => flagsRm8_keeps hu ..
  | cmpRm16R16 | cmpR16Rm16 | cmpAxImm16 | cmpRm16Imm16 | cmpRm16Imm8 | testRm16R16 | testAxImm16 | testRm16Imm16 =>
    exact plain_ends fun u hu => flagsRm16_keeps hu ..
  | rolRm8Imm8 | rorRm8Imm8 | rclRm8Imm8 | rcrRm8Imm8 | shlRm8Imm8 | shrRm8Imm8 | sarRm8Imm8 | rolRm8One
  | rorRm8One | rclRm8One | rcrRm8One | shlRm8One | shrRm8One | sarRm8One | rolRm8Cl | rorRm8Cl | rclRm8Cl
  | rcrRm8Cl | shlRm8Cl | shrRm8Cl | sarRm8Cl =>
    exact plain_ends fun u hu => shiftRm8_keeps hu ..
  | rolRm16Imm8 | rorRm16Imm8 | rclRm16Imm8 | rcrRm16Imm8 | shlRm16Imm8 | shrRm16Imm8 | sarRm16Imm8 | rolRm16One
  | rorRm16One | rclRm16One | rcrRm16One | shlRm16One | shrRm16One | sarRm16One | rolRm16Cl | rorRm16Cl | rclRm16Cl
  | rcrRm16Cl | shlRm16Cl | shrRm16Cl | sarRm16Cl =>
    exact plain_ends fun u hu => shiftRm16_keeps hu ..
  | movRm8R8 | movRm8Imm8 =>
    exact plain_ends fun u hu => writeRm8_keeps hu ..
  | movRm16R16 | movRm16Sreg | movRm16Imm16 | smsw =>
    exact plain_ends fun u hu => writeRm16_keeps hu ..
  | sldt | str =>
    exact plain_ends fun u hu => meets_bind.2 (meets_require.2 fun _ => writeRm16_keeps hu ..)
  | movMoffsAl =>
    exact plain_ends fun u hu => lwrite8_keeps hu ..
  | movMoffsAx =>
    exact plain_ends fun u hu => lwrite16_keeps hu ..
  | xchgRm8R8 =>
    exact plain_ends fun u hu => by
      simp only [meets_bind, meets_readRm8]
      exact fun v _ => (writeRm8_keeps hu ..).imp fun t ht => (systemKept_setReg8 ..).2 ht
  | xchgRm16R16 =>
    exact plain_ends fun u hu => by
      simp only [meets_bind, meets_readRm16]
      exact fun v _ => (writeRm16_keeps hu ..).imp fun t ht => (systemKept_setReg16 ..).2 ht
  | arpl =>
    exact plain_ends fun u hu => by
      simp only [State.needsProtected, meets_bind, meets_ite, systemKept_setZf, meets_pure, hu, implies_true,
        and_true, meets_checkRm16, meets_readRm16, meets_require]
      exact fun _ v _ _ _ _ => (writeRm16_keeps hu ..).imp fun t ht => ht
  | movR8Rm8 | movR16Rm16 | movAlMoffs | movAxMoffs | movR8Imm8 | movR16Imm16 | lea | xchgAxR16 | xlat | lahf | cbw
  | cwd | nop | bound =>
    exact plain_ends fun u hu => by simp [hu]
  | lar | lsl =>
    exact plain_ends fun u hu => by
      simp only [State.needsProtected, meets_bind, meets_require, meets_readRm16]
      intro _ sel _
      split <;> simp [hu]
  | verr | verw =>
    exact plain_ends fun u hu => by simp [State.needsProtected, hu]
  | mulRm8 | imulRm8 =>
    exact plain_ends fun u hu => meets_bind.2 ((meets_readRm8 ..).2 fun _ _ => hu)
  | mulRm16 | imulRm16 =>
    exact plain_ends fun u hu => meets_bind.2 ((meets_readRm16 ..).2 fun _ _ => hu)
  | imulR16Rm16Imm16 | imulR16Rm16Imm8 =>
    exact plain_ends fun u hu => meets_bind.2 ((meets_readRm16 ..).2 fun _ _ => (systemKept_imulInto ..).2 hu)
  | divRm8 =>
    exact plain_ends fun u hu => by simp [divByte_keeps hu]
  | idivRm8 =>
    exact plain_ends fun u hu => by simp [idivByte_keeps hu]
  | divRm16 =>
    exact plain_ends fun u hu => by simp [divWord_keeps hu]
  | idivRm16 =>
    exact plain_ends fun u hu => by simp [idivWord_keeps hu]
  | aaa | aas | daa | das | aad | sahf =>
    exact plain_ends fun u hu => hu
  | aam =>
    exact plain_ends fun u hu => meets_bind.2 (meets_require.2 fun _ => hu)
  | pushR16 | pushImm16 | pushImm8 | pushEs | pushCs | pushSs | pushDs | pushf =>
    exact plain_ends fun u hu => push_keeps hu ..
  | pushRm16 =>
    exact plain_ends fun u hu => by simp [push_keeps hu]
  | pusha =>
    exact EndsKept.ite endsKept_refused
      (plain_ends fun u hu => by simpa using fun t => pushAll_systemKept hu)
  | popR16 =>
    exact plain_ends fun u hu => meets_bind.2 ((pop_keeps hu).imp fun x hx => (systemKept_setReg16 ..).2 hx)
  | popRm16 =>
    exact plain_ends fun u hu => meets_bind.2 ((pop_keeps hu).imp fun x hx => writeRm16_keeps hx ..)
  | popf =>
    exact plain_ends fun u hu => meets_bind.2 ((pop_keeps hu).imp fun x hx => hx)
  | popa =>
    exact plain_ends fun u hu => popAllRegs_keeps hu
  | enter =>
    exact plain_ends fun u hu => enterFrame_keeps hu ..
  | leave =>
    exact plain_ends fun u hu => meets_bind.2 ((meets_lread16 ..).2 fun _ _ => hu)
  | popEs | popSs | popDs =>
    exact plain_ends fun u hu => popSeg_keeps hu ..
  | movSregRm16 =>
    exact plain_ends fun u hu => by simp [loadSegShadow_keeps hu]
  | lds | les =>
    exact plain_ends fun u hu => by
      simp only [meets_bind, meets_readPointer]
      exact fun p _ => (loadSeg_keeps hu ..).imp fun t ht => (systemKept_setReg16 ..).2 ht
  | jo | jno | jb | jnb | je | jne | jbe | jnbe | js | jns | jp | jnp | jl | jnl | jle | jnle | jcxz =>
    exact transfer_ends fun u hu => branch_keeps hu ..
  | loopnz | loopz | loop =>
    exact transfer_ends fun u hu => branch_keeps (s := u.countCx) hu ..
  | jmpRel16 | jmpRel8 =>
    exact transfer_ends fun u hu => jumpNear_keeps hu ..
  | jmpRm16 =>
    exact transfer_ends fun u hu => meets_bind.2 ((meets_readRm16 ..).2 fun v _ => jumpNear_keeps hu v)
  | callRel16 =>
    exact transfer_ends fun u hu => callNear_keeps hu ..
  | callRm16 =>
    exact transfer_ends fun u hu => by simp [callNear_keeps hu]
  | retImm16 | ret =>
    exact transfer_ends fun u hu => retNear_keeps hu ..
  | callPtr =>
    exact transfer_ends fun u hu => farCall_keeps hu ..
  | callM16_16 =>
    exact transfer_ends fun u hu => by simp [farCall_keeps hu]
  | jmpPtr =>
    exact transfer_ends fun u hu => farJump_keeps hu ..
  | jmpM16_16 =>
    exact transfer_ends fun u hu => by simp [farJump_keeps hu]
  | retfImm16 | retf =>
    exact transfer_ends fun u hu => farReturn_keeps hu ..
  | intImm8 | int3 =>
    exact transfer_ends fun u hu => interrupt_keeps hu ..
  | into =>
    exact transfer_ends fun u hu => meets_ite.2 ⟨fun _ => interrupt_keeps hu .., fun _ => hu⟩
  | iret =>
    exact transfer_ends fun u hu => interruptReturn_keeps hu
  | inAlImm8 | inAxImm8 | inAlDx =>
    exact plain_ends fun u hu => by simp [State.inByte, State.inWord, hu]
  | inAxDx =>
    exact EndsKept.ite endsKept_refused (plain_ends fun u hu => by simp [State.inWord, hu])
  | outImm8Al | outImm8Ax | outDxAl =>
    exact plain_ends fun u hu => by simp [State.outPort, hu]
  | outDxAx =>
    exact EndsKept.ite endsKept_refused (plain_ends fun u hu => by simp [State.outPort, hu])
  | insb | outsb | movsb | movsw | cmpsb | cmpsw | stosb | stosw | lodsb | lodsw | scasb | scasw =>
    exact stringInstr_ends _
  | insw | outsw =>
    exact EndsKept.ite endsKept_refused (stringInstr_ends _)
  | lldt =>
    exact plain_ends fun u hu => by simp [State.needsProtected, State.needsKernel, loadLdt_keeps hu]
  | ltr =>
    exact plain_ends fun u hu => by simp [State.needsProtected, State.needsKernel, loadTr_keeps hu]
  | sgdt | sidt =>
    exact plain_ends fun u hu => writeTable_keeps hu ..
  | cmc | clc | stc | cld | std =>
    exact flagInstr_ends _
  | cli | sti | hlt =>
    exact plain_ends fun u hu => meets_bind.2 (meets_require.2 fun _ => hu)
  | wait =>
    exact EndsKept.ite (endsKept_next.2 (SystemKept.refl s)) (plain_ends fun u hu => by simp [hu])
  | esc =>
    exact escInstr_ends
  | segEs | segCs | segSs | segDs | repne | rep =>
    exact EndsKept.ite endsKept_refused (endsKept_next.2 (SystemKept.refl s))
  | lock =>
    exact EndsKept.ite endsKept_refused (EndsKept.ite (endsKept_next.2 (SystemKept.refl s))
      (endsKept_next.2 (deliver_systemKept (SystemKept.refl s))))
  | lgdt | lidt | lmsw | cts =>
    cases hi

/-! PE over a step (10_state.md R45; 47_protected_mode.md R374). -/

theorem SystemKept.pe {s t : State} (h : SystemKept s t) : t.msw.pe = s.msw.pe := SystemLe.pe h

/-- What holds of PE before an instruction and in the state it computes holds after it: a raise from `s` keeps PE. -/
theorem plain_pe {P : Bool → Prop} {s t : State} {f : State → Res State} (hs : P s.msw.pe)
    (hf : Meets (SystemKept s) (fun u => P u.msw.pe) (f s.begin)) (h : plain s f = .next t) : P t.msw.pe := by
  obtain ⟨-, ⟨u, hu, rfl⟩ | ⟨r, hr, rfl⟩⟩ := plain_next.1 h
  · have hpe : P u.msw.pe := hf.answered hu
    exact hpe
  · have hkept : SystemKept s (s.begin.deliver r) := deliver_systemKept (hf.raisedIn (SystemKept.refl s) hr)
    rwa [hkept.pe]

/-- Every instruction but LMSW keeps PE. -/
theorem exec_pe_of_ne_lmsw {i : Instr} {s t : State} (hi : ∀ rm, i ≠ .lmsw rm) (h : exec i s = .next t) :
    t.msw.pe = s.msw.pe := by
  cases hw : writesSystem i
  · exact (exec_ends i s hw t h).pe
  · unfold exec at h
    cases i with
    | lgdt m | lidt m | cts => exact plain_pe (P := (· = s.msw.pe)) rfl (by simp [State.needsKernel, State.begin]) h
    | lmsw rm => exact absurd rfl (hi rm)
    | _ => cases hw

/-- LMSW does not clear PE. -/
theorem lmsw_pe_true {rm : RM16} {s t : State} (hpe : s.msw.pe = true) (h : exec (.lmsw rm) s = .next t) :
    t.msw.pe = true := by
  unfold exec at h
  exact plain_pe (P := (· = true)) hpe (by simp [State.needsKernel, State.begin, loadMsw, hpe]) h

theorem takeEvent_systemKept {s₀ s : State} (h : SystemKept s₀ s) (n : Byte) : SystemKept s₀ (s.takeEvent n) := by
  have hkeeps : Keeps s₀ (s.interrupt n false s.ip none) := interrupt_keeps h ..
  unfold State.takeEvent
  split
  next t ht => exact hkeeps.answered ht
  next r hr => exact deliver_systemKept (hkeeps.raisedIn h hr)

theorem boundary_systemKept {s t : State} (h : s.boundary = some t) : SystemKept s t := by
  have hrefl : SystemKept s s := SystemKept.refl s
  have hnmi : SystemKept s s.takeNmi :=
    takeEvent_systemKept (s := { s with nmiPending := false, nmiInService := true }) hrefl 2
  have htrap : SystemKept s s.takeTrap := takeEvent_systemKept (s := { s with trapPending := false }) hrefl 1
  have hoverrun : SystemKept s s.takeOverrun :=
    takeEvent_systemKept (s := { s with pins := { s.pins with overrun := false } }) hrefl 9
  have hintr (n : Byte) : SystemKept s (s.takeIntr n) :=
    takeEvent_systemKept (s := { s with pins := { s.pins with intr := none } }) hrefl n
  unfold State.boundary at h
  split at h
  · cases h
  split at h
  · cases h
    split <;> assumption
  split at h
  · cases h
    exact htrap
  split at h
  · cases h
    exact hnmi
  split at h
  · cases h
    exact hoverrun
  split at h
  · cases h
    exact hintr _
  · split at h <;> cases h
    exact hrefl

theorem instr_ne_lmsw (op : StringOp) (rm : RM16) : op.instr ≠ .lmsw rm := by
  cases op <;> nofun

/-- How a step to a next state went: RESET, an event or idling at the boundary, an element of a string instruction, the
instruction that the bytes at the fetch address decode to, or the exception that they raise. -/
theorem step_cases {s t : State} (h : step s = .next t) :
    (s.pins.reset = true ∧ t = s.finish s.doReset) ∨
    s.pins.reset = false ∧ ((∃ u, s.boundary = some u ∧ t = s.finish u) ∨
      (∃ op u, exec (StringOp.instr op) s = .next u ∧ t = s.finish u) ∨
      (∃ i rest u, decode s.fetchBytes = .instr i rest ∧
        exec i (fetched s (s.fetchBytes.length - rest.length)) = .next u ∧ t = s.finish u) ∨
      ∃ e, t = s.finish (s.deliver { exc := e, context := none })) := by
  obtain ⟨u, hu, rfl⟩ : ∃ u, s.turn = .next u ∧ t = s.finish u := by
    rw [step_eq_concluded] at h
    cases hturn : s.turn with
    | next u => rw [hturn] at h; cases h; exact ⟨u, rfl, rfl⟩
    | fault | refused => rw [hturn] at h; cases h
  unfold State.turn at hu
  split at hu
  next hreset => cases hu; exact .inl ⟨hreset, rfl⟩
  next hreset =>
    refine .inr ⟨Bool.eq_false_iff.2 hreset, ?_⟩
    split at hu
    next v hv => cases hu; exact .inl ⟨_, hv, rfl⟩
    next =>
      refine .inr ?_
      unfold State.runNext at hu
      split at hu
      next op _ => exact .inl ⟨op, u, hu, rfl⟩
      next =>
        refine .inr ?_
        unfold State.fetchRun at hu
        split at hu
        next i rest hdecode =>
          rw [← fetchBytes_length] at hu
          exact .inl ⟨i, rest, u, hdecode, hu, rfl⟩
        next => cases hu; exact .inr ⟨_, rfl⟩
        next => cases hu; exact .inr ⟨_, rfl⟩
        next => cases hu

@[simp] theorem finish_msw (s t : State) : (s.finish t).msw = t.msw := rfl

theorem step_reset_pe {s t : State} (h : step s = .next t) (hreset : s.pins.reset = true) : t.msw.pe = false := by
  rcases step_cases h with ⟨-, rfl⟩ | ⟨hno, -⟩
  · rfl
  · rw [hreset] at hno
    cases hno

/-- Without RESET a step keeps PE, or it runs what stands at the fetch address, and that is LMSW. -/
theorem step_pe {s t : State} (h : step s = .next t) (hreset : s.pins.reset = false) :
    t.msw.pe = s.msw.pe ∨
      (s.msw.pe = true → t.msw.pe = true) ∧ ∃ rm rest, decode s.fetchBytes = .instr (.lmsw rm) rest := by
  rcases step_cases h with ⟨hyes, -⟩ |
    ⟨-, ⟨u, hu, rfl⟩ | ⟨op, u, hu, rfl⟩ | ⟨i, rest, u, hdecode, hu, rfl⟩ | ⟨e, rfl⟩⟩
  · rw [hreset] at hyes
    cases hyes
  all_goals rw [finish_msw]
  · exact .inl (boundary_systemKept hu).pe
  · exact .inl (exec_pe_of_ne_lmsw (instr_ne_lmsw op) hu)
  · by_cases hi : ∃ rm, i = .lmsw rm
    · obtain ⟨rm, rfl⟩ := hi
      exact .inr ⟨fun hpe => lmsw_pe_true (s := fetched s _) hpe hu, rm, rest, hdecode⟩
    · have hkept : u.msw.pe = (fetched s _).msw.pe := exec_pe_of_ne_lmsw (fun rm hrm => hi ⟨rm, hrm⟩) hu
      exact .inl hkept
  · exact .inl (deliver_systemKept (SystemKept.refl s)).pe

/-- Settles O8, by cases on how the step went: RESET clears PE, LMSW at most sets it, and all else keeps it. -/
theorem modeChanges : Obligations.ModeChanges := by
  refine ⟨fun s t h hreset hpe => ?_, fun s t h hreset => step_reset_pe h hreset, fun s t h hpe hpe' => ?_⟩
  · rcases step_pe h hreset with hkept | ⟨hset, -⟩
    · rw [hkept, hpe]
    · exact hset hpe
  · cases hreset : s.pins.reset with
    | true =>
      rw [step_reset_pe h hreset] at hpe'
      cases hpe'
    | false =>
      rcases step_pe h hreset with hkept | ⟨-, hlmsw⟩
      · rw [hkept, hpe] at hpe'
        cases hpe'
      · exact hlmsw

end Sys2Proof.Proofs

/-! PROOFS. Every step keeps the invariant of the machine (20_memory.md R80; 10_state.md R25, R50; 30_encoding.md R122). -/
namespace Sys2Proof.Proofs
open Sys2Proof Sys2Proof.Machine Sys2Proof.Claims

/-! The flags that arithmetic leaves as they are (10_state.md R25). -/

section
variable {n : Nat} (s : State) (a b : BitVec n) (c : Nat)
@[simp] theorem controlKept_addOp : ControlKept s.flags (addOp s a b).2 := ⟨rfl, rfl, rfl, rfl, rfl⟩
@[simp] theorem controlKept_adcOp : ControlKept s.flags (adcOp s a b).2 := ⟨rfl, rfl, rfl, rfl, rfl⟩
@[simp] theorem controlKept_subOp : ControlKept s.flags (subOp s a b).2 := ⟨rfl, rfl, rfl, rfl, rfl⟩
@[simp] theorem controlKept_sbbOp : ControlKept s.flags (sbbOp s a b).2 := ⟨rfl, rfl, rfl, rfl, rfl⟩
@[simp] theorem controlKept_andOp : ControlKept s.flags (andOp s a b).2 := ⟨rfl, rfl, rfl, rfl, rfl⟩
@[simp] theorem controlKept_orOp : ControlKept s.flags (orOp s a b).2 := ⟨rfl, rfl, rfl, rfl, rfl⟩
@[simp] theorem controlKept_xorOp : ControlKept s.flags (xorOp s a b).2 := ⟨rfl, rfl, rfl, rfl, rfl⟩
@[simp] theorem controlKept_incOp : ControlKept s.flags (incOp s a).2 := ⟨rfl, rfl, rfl, rfl, rfl⟩
@[simp] theorem controlKept_decOp : ControlKept s.flags (decOp s a).2 := ⟨rfl, rfl, rfl, rfl, rfl⟩
@[simp] theorem controlKept_negOp : ControlKept s.flags (negOp s a).2 := ⟨rfl, rfl, rfl, rfl, rfl⟩
@[simp] theorem controlKept_notOp : ControlKept s.flags (notOp s a).2 := ⟨rfl, rfl, rfl, rfl, rfl⟩
@[simp] theorem controlKept_shlOp : ControlKept s.flags (shlOp s a c).2 := ⟨rfl, rfl, rfl, rfl, rfl⟩
@[simp] theorem controlKept_shrOp : ControlKept s.flags (shrOp s a c).2 := ⟨rfl, rfl, rfl, rfl, rfl⟩
@[simp] theorem controlKept_sarOp : ControlKept s.flags (sarOp s a c).2 := ⟨rfl, rfl, rfl, rfl, rfl⟩
@[simp] theorem controlKept_rolOp : ControlKept s.flags (rolOp s a c).2 := ⟨rfl, rfl, rfl, rfl, rfl⟩
@[simp] theorem controlKept_rorOp : ControlKept s.flags (rorOp s a c).2 := ⟨rfl, rfl, rfl, rfl, rfl⟩
@[simp] theorem controlKept_rclOp : ControlKept s.flags (rclOp s a c).2 := ⟨rfl, rfl, rfl, rfl, rfl⟩
@[simp] theorem controlKept_rcrOp : ControlKept s.flags (rcrOp s a c).2 := ⟨rfl, rfl, rfl, rfl, rfl⟩

@[simp] theorem controlKept_aaaOp (al ah : Byte) : ControlKept s.flags (aaaOp s al ah).2.2 := by
  unfold aaaOp
  extract_lets adjust f
  cases adjust <;> exact ⟨rfl, rfl, rfl, rfl, rfl⟩

@[simp] theorem controlKept_aasOp (al ah : Byte) : ControlKept s.flags (aasOp s al ah).2.2 := by
  unfold aasOp
  extract_lets adjust f
  cases adjust <;> exact ⟨rfl, rfl, rfl, rfl, rfl⟩

@[simp] theorem controlKept_daaOp (al : Byte) : ControlKept s.flags (daaOp s al).2 := ⟨rfl, rfl, rfl, rfl, rfl⟩
@[simp] theorem controlKept_dasOp (al : Byte) : ControlKept s.flags (dasOp s al).2 := ⟨rfl, rfl, rfl, rfl, rfl⟩
@[simp] theorem controlKept_mulFlags (wide : Bool) : ControlKept s.flags (mulFlags s wide) := ⟨rfl, rfl, rfl, rfl, rfl⟩
@[simp] theorem controlKept_divFlags : ControlKept s.flags (divFlags s) := ⟨rfl, rfl, rfl, rfl, rfl⟩
@[simp] theorem controlKept_adjustFlags (al : Byte) : ControlKept s.flags (adjustFlags s al) :=
  ⟨rfl, rfl, rfl, rfl, rfl⟩
end

/-! What holds of every state inside a step that runs with PE as `pe`. -/

/-- Flags as a mode allows them: in Real Address Mode IOPL and NT read 0 (10_state.md R25). -/
def FlagsOk (pe : Bool) (f : Flags) : Prop := pe = false → f.iopl = 0 ∧ f.nt = false

/-- PE is `pe`, memory is in its canonical form, and in Real Address Mode the level is 0 with IOPL and NT 0. -/
def Sound (pe : Bool) (s : State) : Prop :=
  Memory.wf s.mem = true ∧ s.msw.pe = pe ∧ (pe = false → s.cpl = 0) ∧ FlagsOk pe s.flags

/-- `m` answers and raises in sound states only. -/
abbrev Sounds (pe : Bool) (m : Res State) : Prop := Meets (Sound pe) (Sound pe) m

section
variable {pe : Bool} {s t : State} {f g : Flags}

theorem flagsOk_protected (f : Flags) : FlagsOk true f := nofun

theorem FlagsOk.of_controlKept (h : FlagsOk pe f) (hg : ControlKept f g) : FlagsOk pe g := by
  obtain ⟨-, -, -, hiopl, hnt⟩ := hg
  exact fun hpe => ⟨hiopl.trans (h hpe).1, hnt.trans (h hpe).2⟩

theorem FlagsOk.entryFlags (h : FlagsOk pe f) (clearIf clearNt : Bool) : FlagsOk pe (entryFlags f clearIf clearNt) := by
  intro hpe
  obtain ⟨hiopl, hnt⟩ := h hpe
  exact ⟨hiopl, by simp [Machine.entryFlags, hnt]⟩

/-- POPF and IRET load neither IOPL nor NT in Real Address Mode (40_data_transfer.md R183). -/
theorem flagsOk_loadFlags (pe : Bool) (cpl : Level) (old : Flags) (w : Word) : FlagsOk pe (loadFlags pe cpl old w) := by
  rintro rfl
  exact ⟨rfl, rfl⟩

theorem Sound.wf (h : Sound pe s) : Memory.wf s.mem = true := h.1

theorem Sound.msw_pe (h : Sound pe s) : s.msw.pe = pe := h.2.1

theorem Sound.flagsOk (h : Sound pe s) : FlagsOk pe s.flags := h.2.2.2

/-- In Protected Mode nothing is asked of level and flags. -/
theorem sound_protected : Sound true s ↔ Memory.wf s.mem = true ∧ s.msw.pe = true :=
  ⟨fun h => ⟨h.wf, h.msw_pe⟩, fun h => ⟨h.1, h.2, nofun, flagsOk_protected _⟩⟩

theorem Sound.with_flags (h : Sound pe s) (hf : FlagsOk pe f) : Sound pe { s with flags := f } := by
  obtain ⟨hwf, hpe, hlevel, -⟩ := h
  exact ⟨hwf, hpe, hlevel, hf⟩

theorem Sound.with_regs (h : Sound pe s) (regs : Gprs) : Sound pe { s with regs := regs } := h

theorem Sound.with_data (h : Sound pe s) (ds es : SegReg) : Sound pe { s with ds := ds, es := es } := h

/-- A state that differs from a sound one in memory at most, where memory is kept canonical. -/
theorem Sound.of_wf (h : Sound pe s) (hwf : Memory.wf t.mem = true) (hmsw : t.msw = s.msw) (hcpl : t.cpl = s.cpl)
    (hflags : t.flags = s.flags) : Sound pe t := by
  obtain ⟨-, hpe, hlevel, hf⟩ := h
  exact ⟨hwf, hmsw ▸ hpe, hcpl ▸ hlevel, hflags ▸ hf⟩

@[simp] theorem sound_setReg16 (r : Reg16) (v : Word) : Sound pe (s.setReg16 r v) ↔ Sound pe s := by simp [Sound]
@[simp] theorem sound_setReg8 (r : Reg8) (v : Byte) : Sound pe (s.setReg8 r v) ↔ Sound pe s := by simp [Sound]
@[simp] theorem sound_setSeg (r : SReg) (g : SegReg) : Sound pe (s.setSeg r g) ↔ Sound pe s := by simp [Sound]
@[simp] theorem sound_realFar (sel off : Word) : Sound pe (s.realFar sel off) ↔ Sound pe s := Iff.rfl
@[simp] theorem sound_setZf (z : Bool) : Sound pe (s.setZf z) ↔ Sound pe s := Iff.rfl
@[simp] theorem sound_stepSi (n : Nat) : Sound pe (s.stepSi n) ↔ Sound pe s := Iff.rfl
@[simp] theorem sound_stepDi (n : Nat) : Sound pe (s.stepDi n) ↔ Sound pe s := Iff.rfl
@[simp] theorem sound_portOut (p : Word) (n : Nat) (v : Word) : Sound pe (s.portOut p n v) ↔ Sound pe s := Iff.rfl

variable (h : Sound pe s)
include h

@[simp] theorem sound_write8 (a : Nat) (v : Byte) : Sound pe (s.write8 a v) := h.of_wf (wf_write8 a v h.wf) rfl rfl rfl

@[simp] theorem sound_write16 (a : Nat) (v : Word) : Sound pe (s.write16 a v) :=
  h.of_wf (wf_write16 a v h.wf) rfl rfl rfl

@[simp] theorem sound_markAccessed (d : Desc) : Sound pe (s.markAccessed d) :=
  h.of_wf (wf_markAccessed d h.wf) (by simp) (by simp) (by simp)

@[simp] theorem sound_markBusy (d : Desc) : Sound pe (s.markBusy d) := sound_write8 h ..

theorem sound_enterCode (sel : Word) (d : Desc) (off : Word) : Sound pe (s.enterCode sel d off) :=
  (sound_setSeg ..).2 (sound_markAccessed h d)

theorem sound_pushAll {code : Word} {vs : List Word} (ht : s.pushAll code vs = .ok t) : Sound pe t := by
  have hwf : Memory.wf t.mem = true := wf_pushAll h.wf ht
  rw [pushAll_ok ht]
  exact h.of_wf hwf rfl rfl rfl

/-! Operands and the stack. -/

theorem lwrite8_sound (r : SReg) (off : Word) (v : Byte) : Sounds pe (s.lwrite8 r off v) := by
  simp [State.lwrite8, h]

theorem lwrite16_sound (r : SReg) (off v : Word) : Sounds pe (s.lwrite16 r off v) := by
  simp [State.lwrite16, h]

theorem push_sound (code v : Word) : Sounds pe (s.push code v) := by
  simp only [State.push, meets_bind, meets_check, meets_pure]
  exact fun _ _ => sound_write16 h ..

theorem pop_sound : Meets (Sound pe) (fun x => Sound pe x.2) s.pop := by
  simp only [State.pop, meets_bind, meets_lread16, meets_pure]
  exact fun _ _ => h

theorem writeRm8_sound (rm : RM8) (v : Byte) : Sounds pe (s.writeRm8 rm v) := by
  cases rm with
  | reg r => exact (sound_setReg8 ..).2 h
  | mem m => exact lwrite8_sound h ..

theorem writeRm16_sound (rm : RM16) (v : Word) : Sounds pe (s.writeRm16 rm v) := by
  cases rm with
  | reg r => exact (sound_setReg16 ..).2 h
  | mem m => exact lwrite16_sound h ..

theorem updRm8_sound (rm : RM8) {op : Byte → Byte × Flags} (hop : ∀ a, ControlKept s.flags (op a).2) :
    Sounds pe (s.updRm8 rm op) := by
  simp only [State.updRm8, meets_bind, meets_readRm8]
  exact fun a _ => (writeRm8_sound h ..).imp fun t ht => ht.with_flags (h.flagsOk.of_controlKept (hop a))

theorem updRm16_sound (rm : RM16) {op : Word → Word × Flags} (hop : ∀ a, ControlKept s.flags (op a).2) :
    Sounds pe (s.updRm16 rm op) := by
  simp only [State.updRm16, meets_bind, meets_readRm16]
  exact fun a _ => (writeRm16_sound h ..).imp fun t ht => ht.with_flags (h.flagsOk.of_controlKept (hop a))

theorem updReg8_sound (r : Reg8) (rm : RM8) {op : Byte → Byte → Byte × Flags}
    (hop : ∀ a b, ControlKept s.flags (op a b).2) : Sounds pe (s.updReg8 r rm op) := by
  simp only [State.updReg8, meets_bind, meets_readRm8]
  exact fun b _ => updRm8_sound h _ fun a => hop a b

theorem updReg16_sound (r : Reg16) (rm : RM16) {op : Word → Word → Word × Flags}
    (hop : ∀ a b, ControlKept s.flags (op a b).2) : Sounds pe (s.updReg16 r rm op) := by
  simp only [State.updReg16, meets_bind, meets_readRm16]
  exact fun b _ => updRm16_sound h _ fun a => hop a b

theorem flagsRm8_sound (rm : RM8) {op : Byte → Byte × Flags} (hop : ∀ a, ControlKept s.flags (op a).2) :
    Sounds pe (s.flagsRm8 rm op) := by
  simp only [State.flagsRm8, meets_bind, meets_readRm8, meets_pure]
  exact fun a _ => h.with_flags (h.flagsOk.of_controlKept (hop a))

theorem flagsRm16_sound (rm : RM16) {op : Word → Word × Flags} (hop : ∀ a, ControlKept s.flags (op a).2) :
    Sounds pe (s.flagsRm16 rm op) := by
  simp only [State.flagsRm16, meets_bind, meets_readRm16, meets_pure]
  exact fun a _ => h.with_flags (h.flagsOk.of_controlKept (hop a))

theorem shiftRm8_sound (rm : RM8) (count : Byte) {op : Byte → Nat → Byte × Flags}
    (hop : ∀ a c, ControlKept s.flags (op a c).2) : Sounds pe (s.shiftRm8 rm count op) := by
  simp only [State.shiftRm8, meets_bind, meets_readRm8, meets_checkRm8, meets_ite, meets_pure]
  exact fun a _ _ _ => ⟨fun _ => h, fun _ => updRm8_sound h rm fun _ => hop a _⟩

theorem shiftRm16_sound (rm : RM16) (count : Byte) {op : Word → Nat → Word × Flags}
    (hop : ∀ a c, ControlKept s.flags (op a c).2) : Sounds pe (s.shiftRm16 rm count op) := by
  simp only [State.shiftRm16, meets_bind, meets_readRm16, meets_checkRm16, meets_ite, meets_pure]
  exact fun a _ _ _ => ⟨fun _ => h, fun _ => updRm16_sound h rm fun _ => hop a _⟩

theorem copyDisplay_sound (k : Nat) : Sounds pe (s.copyDisplay k) := by
  induction k generalizing s with
  | zero => exact h
  | succ k ih =>
    simp only [State.copyDisplay, meets_bind, meets_lread16]
    exact fun v _ => (push_sound (s := { s with regs := { s.regs with bp := s.regs.bp - 2 } }) h 0 v).imp fun t ht => ih ht

theorem enterFrame_sound (size : Word) (level : Nat) : Sounds pe (s.enterFrame size level) := by
  simp only [State.enterFrame, meets_bind]
  refine (push_sound h ..).imp fun t ht => meets_ite.2 ⟨fun _ => ht, fun _ => ?_⟩
  simp only [meets_bind]
  exact (copyDisplay_sound ht _).imp fun u hu => (push_sound hu ..).imp fun v hv => hv

theorem popAllRegs_sound : Sounds pe s.popAllRegs := by
  simp only [State.popAllRegs, meets_bind, meets_stackWord, meets_pure]
  intros
  exact h

theorem writeTable_sound (m : Mem) (t : TableReg) : Sounds pe (s.writeTable m t) := by
  simp only [State.writeTable, meets_bind, meets_check, meets_pure]
  exact fun _ _ => sound_write8 (sound_write8 (sound_write16 (sound_write16 h ..) ..) ..) ..

/-! Multiplication and division. -/

theorem with_mulFlags_sound (ht : Sound pe t) (wide : Bool) : Sound pe { t with flags := mulFlags s wide } :=
  ht.with_flags (h.flagsOk.of_controlKept (controlKept_mulFlags s wide))

theorem with_divFlags_sound (ht : Sound pe t) : Sound pe { t with flags := divFlags s } :=
  ht.with_flags (h.flagsOk.of_controlKept (controlKept_divFlags s))

theorem divByte_sound (b : Byte) : Sounds pe (s.divByte b) := by
  simp only [State.divByte, meets_bind, meets_require, meets_pure]
  exact fun _ _ => with_divFlags_sound h h

theorem divWord_sound (b : Word) : Sounds pe (s.divWord b) := by
  simp only [State.divWord, meets_bind, meets_require, meets_pure]
  exact fun _ _ => with_divFlags_sound h h

theorem idivByte_sound (b : Byte) : Sounds pe (s.idivByte b) := by
  simp only [State.idivByte, meets_bind, meets_require, meets_pure]
  exact fun _ _ => with_divFlags_sound h h

theorem idivWord_sound (b : Word) : Sounds pe (s.idivWord b) := by
  simp only [State.idivWord, meets_bind, meets_require, meets_pure]
  exact fun _ _ => with_divFlags_sound h h

/-! Segment registers and system registers. -/

theorem loadDataSeg_sound (r : SReg) (sel : Word) : Sounds pe (s.loadDataSeg r sel) := by
  simp [State.loadDataSeg, h]

theorem loadSs_sound (sel : Word) : Sounds pe (s.loadSs sel) := by
  simp [State.loadSs, h]

theorem loadSeg_sound (r : SReg) (v : Word) : Sounds pe (s.loadSeg r v) := by
  simp [State.loadSeg, loadSs_sound h, loadDataSeg_sound h, h]

theorem loadSegShadow_sound (r : SReg) (v : Word) : Sounds pe (s.loadSegShadow r v) := by
  simp only [State.loadSegShadow, meets_bind]
  exact (loadSeg_sound h r v).imp fun t ht => iteInduction (motive := Sound pe) (fun _ => ht) fun _ => ht

theorem popSeg_sound (r : SReg) : Sounds pe (s.popSeg r) := by
  simp only [State.popSeg, meets_bind, meets_lread16]
  exact fun v _ => (loadSegShadow_sound h r v).imp fun t ht => ht

theorem loadLdt_sound (sel : Word) : Sounds pe (s.loadLdt sel) := by
  simp only [State.loadLdt, meets_ite, meets_bind, meets_require, meets_fetchOr, meets_pure, meets_ok]
  exact ⟨fun _ => h, fun _ _ _ _ _ _ => h⟩

theorem loadTr_sound (sel : Word) : Sounds pe (s.loadTr sel) := by
  simp only [State.loadTr, meets_bind, meets_require, meets_fetchOr, meets_pure]
  exact fun _ _ d _ _ _ => sound_markBusy h d

/-! Near transfers. -/

theorem jumpNear_sound (target : Word) : Sounds pe (s.jumpNear target) := by
  simp only [State.jumpNear, meets_bind, meets_require, meets_pure]
  exact fun _ => h

theorem branch_sound (cond : Bool) (rel : Byte) : Sounds pe (s.branch cond rel) := by
  unfold State.branch
  split
  · exact jumpNear_sound h _
  · exact h

theorem callNear_sound (target : Word) : Sounds pe (s.callNear target) := by
  simp only [State.callNear, meets_bind, meets_require]
  exact fun _ => (push_sound h ..).imp fun t ht => jumpNear_sound ht _

theorem retNear_sound (imm : Word) : Sounds pe (s.retNear imm) := by
  simp only [State.retNear, meets_bind, meets_stackWord]
  exact fun off _ => (jumpNear_sound h _).imp fun t ht => ht

end

/-! Task switches, in Protected Mode alone (60_exceptions.md R470). -/

section
variable {s : State} (h : Sound true s)
include h

theorem switchStack_sound (lvl : Level) (nsp nss : Word) (d : Desc) : Sound true (s.switchStack lvl nsp nss d) := by
  obtain ⟨hwf, hpe⟩ := sound_protected.1 h
  exact sound_protected.2 ⟨by simp [State.switchStack, wf_markAccessed d hwf], by simp [hpe]⟩

theorem switchLdt_sound (ext : Word) : Sounds true (s.switchLdt ext) := by
  simp only [State.switchLdt, meets_ite, meets_ok, h, implies_true, meets_bind, meets_require, meets_fetchOr, true_and]
  intros
  exact h

theorem switchCs_sound (ext : Word) : Sounds true (s.switchCs ext) := by
  simp [State.switchCs, h]

theorem switchSs_sound (ext : Word) : Sounds true (s.switchSs ext) := by
  simp [State.switchSs, h]

theorem switchData_sound (r : SReg) (ext : Word) : Sounds true (s.switchData r ext) := by
  simp [State.switchData, h]

theorem enterTask_sound (ext : Word) : Sounds true (s.enterTask ext) := by
  simp only [State.enterTask, meets_bind]
  refine (Meets.inContext h (switchLdt_sound h ext)).imp fun t ht => ?_
  have hcpl : Sound true { t with cpl := selRpl t.cs.sel } := sound_protected.2 ⟨ht.wf, ht.msw_pe⟩
  refine (Meets.inContext hcpl (switchCs_sound hcpl ext)).imp fun t ht => ?_
  refine (Meets.inContext ht (switchSs_sound ht ext)).imp fun t ht => ?_
  refine (Meets.inContext ht (switchData_sound ht .ds ext)).imp fun t ht => ?_
  refine (Meets.inContext ht (switchData_sound ht .es ext)).imp fun t ht => ?_
  exact Meets.inContext ht (meets_require.2 fun _ => ht)

theorem saveTask_sound (a : Nat) (returnIp : Word) (flags : Flags) : Sound true (s.saveTask a returnIp flags) := by
  unfold State.saveTask
  extract_lets
  iterate 14 apply sound_write16
  exact h

theorem leaveTask_sound (sel : Word) (d : Desc) (kind : SwitchKind) (returnIp : Word) :
    Sound true (s.leaveTask sel d kind returnIp) := by
  unfold State.leaveTask
  extract_lets old flags image oldAr saved freed linked busy msw entered
  have hsaved : Sound true saved := saveTask_sound h ..
  have hfreed : Sound true freed := iteInduction (fun _ => hsaved) fun _ => sound_write8 hsaved ..
  have hlinked : Sound true linked := iteInduction (fun _ => sound_write16 hfreed ..) fun _ => hfreed
  have hbusy : Sound true busy := iteInduction (fun _ => hlinked) fun _ => sound_markBusy hlinked d
  exact sound_protected.2 ⟨hbusy.wf, hbusy.msw_pe⟩

theorem taskSwitch_sound (sel : Word) (d : Desc) (kind : SwitchKind) (returnIp ext : Word) :
    Sounds true (s.taskSwitch sel d kind returnIp ext) := by
  simp [State.taskSwitch, enterTask_sound (leaveTask_sound h ..)]

/-! Far transfers in Protected Mode. -/

theorem callInner_sound (g t : Desc) : Sounds true (s.callInner g t) := by
  simp only [State.callInner, meets_bind, meets_pushAll, meets_stackWords, meets_roomFor, meets_innerSs,
    meets_innerStack, meets_pure]
  intros
  exact sound_enterCode (sound_pushAll (switchStack_sound h ..) ‹_›) ..

theorem gateTransfer_sound (sel : Word) (g : Desc) (call : Bool) : Sounds true (s.gateTransfer sel g call) := by
  simp only [State.gateTransfer, meets_bind, meets_ite, callInner_sound h, implies_true, meets_pushAll, meets_pure,
    sound_enterCode h, and_true, meets_require, true_and, meets_fetchOr]
  intros
  exact sound_enterCode (sound_pushAll h ‹_›) ..

theorem codeTransfer_sound (sel off : Word) (d : Desc) (call : Bool) : Sounds true (s.codeTransfer sel off d call) := by
  simp only [State.codeTransfer, meets_bind, meets_ite, meets_pushAll, meets_pure, sound_enterCode h, implies_true,
    and_true, meets_require]
  intros
  exact sound_enterCode (sound_pushAll h ‹_›) ..

theorem taskTransfer_sound (sel : Word) (d : Desc) (call : Bool) : Sounds true (s.taskTransfer sel d call) := by
  simp [State.taskTransfer, taskSwitch_sound h]

theorem farTransfer_sound (sel off : Word) (call : Bool) : Sounds true (s.farTransfer sel off call) := by
  simp [State.farTransfer, codeTransfer_sound h, gateTransfer_sound h, taskTransfer_sound h]

theorem returnSame_sound (rsel off size : Word) : Sounds true (s.returnSame rsel off size) := by
  simp only [State.returnSame, meets_bind, meets_require, meets_fetchOr]
  intros
  exact meets_pure.2 ((sound_enterCode h ..).with_regs _)

theorem returnOuter_sound (rsel off n release : Word) : Sounds true (s.returnOuter rsel off n release) := by
  simp only [State.returnOuter, meets_bind, meets_require, meets_fetchOr, meets_check]
  intros
  exact meets_pure.2 ((switchStack_sound (sound_enterCode h ..) ..).with_data ..)

/-! Entries and returns in Protected Mode. -/

theorem enterSame_sound (g t : Desc) (returnIp : Word) (ec : Option Word) (ext : Word) :
    Sounds true (s.enterSame g t returnIp ec ext) := by
  simp only [State.enterSame, meets_bind, meets_require, meets_pushAll]
  exact fun u hu _ => (sound_enterCode (sound_pushAll h hu) ..).with_flags (flagsOk_protected _)

theorem enterInner_sound (g t : Desc) (returnIp : Word) (ec : Option Word) (ext : Word) :
    Sounds true (s.enterInner g t returnIp ec ext) := by
  simp only [State.enterInner, meets_bind, meets_require, meets_pushAll, meets_innerSs, meets_innerStack, Prod.forall]
  intro nsp nss _ d _ u hu _
  exact (sound_enterCode (sound_pushAll (switchStack_sound h ..) hu) ..).with_flags (flagsOk_protected _)

theorem enterTaskGate_sound (g : Desc) (returnIp : Word) (ec : Option Word) (ext : Word) :
    Sounds true (s.enterTaskGate g returnIp ec ext) := by
  simp only [State.enterTaskGate, meets_bind, meets_tssDesc]
  intro d _
  exact (taskSwitch_sound h ..).imp fun t ht => Meets.inContext ht ((meets_pushAll ..).2 fun u hu => sound_pushAll ht hu)

theorem enterProtected_sound (n : Byte) (soft : Bool) (returnIp : Word) (ec : Option Word) :
    Sounds true (s.enterProtected n soft returnIp ec) := by
  simp [State.enterProtected, enterTaskGate_sound h, enterInner_sound h, enterSame_sound h]

theorem returnTask_sound : Sounds true s.returnTask := by
  simp only [State.returnTask, meets_bind, meets_ite, meets_raise, implies_true, true_and, meets_require,
    meets_stackWord]
  intro off _ rsel _ f _ _ _
  exact ⟨fun _ => (returnSame_sound h ..).imp fun t ht => ht.with_flags (flagsOk_protected _),
    fun _ => (returnOuter_sound h ..).imp fun t ht => ht.with_flags (flagsOk_protected _)⟩

theorem returnLinked_sound : Sounds true s.returnLinked := by
  simp [State.returnLinked, taskSwitch_sound h]

end

/-! Far transfers, entries and returns in either mode. -/

section
variable {pe : Bool} {s : State}

theorem returnReal_sound (h : Sound false s) : Sounds false s.returnReal := by
  simp only [State.returnReal, meets_bind, meets_stackWord]
  intros
  exact h.with_flags (flagsOk_loadFlags false s.cpl s.flags _)

theorem enterReal_sound (h : Sound pe s) (n : Byte) (returnIp : Word) : Sounds pe (s.enterReal n returnIp) := by
  simp only [State.enterReal, meets_bind, meets_pushAll, meets_require]
  exact fun _ t ht => (sound_pushAll h ht).with_flags (h.flagsOk.entryFlags true false)

variable (h : Sound pe s)
include h

theorem farJump_sound (sel off : Word) : Sounds pe (s.farJump sel off) := by
  unfold State.farJump
  rw [h.msw_pe]
  cases pe with
  | true => exact farTransfer_sound h ..
  | false => exact h

theorem farCall_sound (sel off : Word) : Sounds pe (s.farCall sel off) := by
  unfold State.farCall
  rw [h.msw_pe]
  cases pe with
  | true => exact farTransfer_sound h ..
  | false => exact meets_bind.2 ((meets_pushAll ..).2 fun t ht => (sound_realFar ..).2 (sound_pushAll h ht))

theorem farReturn_sound (imm : Word) : Sounds pe (s.farReturn imm) := by
  simp only [State.farReturn, meets_bind, meets_stackWord, h.msw_pe]
  intro off _ sel _
  cases pe with
  | true =>
    simp only [if_true, meets_ite, meets_raise, implies_true, true_and]
    exact fun _ => ⟨fun _ => returnSame_sound h .., fun _ => returnOuter_sound h ..⟩
  | false => exact h

theorem interrupt_sound (n : Byte) (soft : Bool) (returnIp : Word) (ec : Option Word) :
    Sounds pe (s.interrupt n soft returnIp ec) := by
  unfold State.interrupt
  rw [h.msw_pe]
  cases pe with
  | true => exact meets_bind.2 (enterProtected_sound h ..)
  | false => exact meets_bind.2 (enterReal_sound h ..)

theorem interruptReturn_sound : Sounds pe s.interruptReturn := by
  simp only [State.interruptReturn, h.msw_pe, meets_ite, meets_bind]
  cases pe with
  | true => exact ⟨nofun, fun _ => ⟨fun _ => returnLinked_sound h, fun _ => returnTask_sound h⟩⟩
  | false => exact ⟨fun _ => returnReal_sound h, fun hpe => absurd rfl hpe⟩

omit h in
theorem deliver_sound {r : Raise} (hr : Sound pe (r.context.getD s)) : Sound pe (s.deliver r) :=
  deliver_keeps (Sound pe) (fun _ _ _ hs he => (interrupt_sound hs ..).answered he)
    (fun _ _ _ hs he => (interrupt_sound hs ..).raisedIn hs he) (fun _ hs => hs) hr

end

/-! Elements of string instructions (43_string.md R271 to R277). -/

theorem element_sound {pe : Bool} {s : State} (h : Sound pe s) (op : StringOp) : Sounds pe (element op s) := by
  cases op with
  | movsb | stosb | insb =>
    simp [element, State.movsByte, State.stosByte, State.insByte, State.insCheck, State.lwrite8, h]
  | movsw | stosw | insw =>
    simp [element, State.movsWord, State.stosWord, State.insWord, State.insCheck, State.lwrite16, h]
  | cmpsb | cmpsw | scasb | scasw =>
    simp only [element, State.cmpsByte, State.cmpsWord, State.scasByte, State.scasWord, meets_bind, meets_lread8,
      meets_lread16, meets_pure]
    intros
    exact h.with_flags (h.flagsOk.of_controlKept (controlKept_subOp ..))
  | lodsb | lodsw => simp [element, State.lodsByte, State.lodsWord, h]
  | outsb | outsw => simp [element, State.outsByte, State.outsWord, State.outsCheck, h]

/-! The record of prefixes and of a repetition in progress (logs 1 and 33). -/

/-- The count of prefixes is that of those recorded, and a repetition in progress has its REP or REPNE. -/
def PrefixesOk (s : State) : Prop :=
  s.pfx.count = recorded s.pfx ∧ (s.again.isSome = true → s.pfx.rep.isSome = true)

section
variable {pe : Bool} {s t : State}

theorem inv_iff : Inv s ↔ Sound s.msw.pe s ∧ PrefixesOk s := by
  have hmode : realModeOk s = true ↔ (s.msw.pe = false → s.cpl = 0) ∧ FlagsOk s.msw.pe s.flags := by
    cases hpe : s.msw.pe <;> simp [realModeOk, FlagsOk, hpe, and_assoc]
  simp only [Machine.Inv, Sound, PrefixesOk, hmode, true_and, and_assoc]

theorem Sound.self (h : Sound pe s) : Sound s.msw.pe s := by
  rw [h.msw_pe]
  exact h

theorem Sound.inv (h : Sound pe s) (hp : PrefixesOk s) : Inv s := inv_iff.2 ⟨h.self, hp⟩

theorem sound_of_inv (h : Inv s) : Sound s.msw.pe s := (inv_iff.1 h).1

theorem prefixesOk_of_inv (h : Inv s) : PrefixesOk s := (inv_iff.1 h).2

theorem prefixesOk_of_none (hpfx : s.pfx = noPrefixes) (hagain : s.again = none) : PrefixesOk s := by
  simp [PrefixesOk, hpfx, hagain, noPrefixes, recorded]

/-- Every entry drops the prefixes and the repetition (60_exceptions.md R440). -/
theorem interrupt_prefixesOk {n : Byte} {soft : Bool} {returnIp : Word} {ec : Option Word}
    (h : s.interrupt n soft returnIp ec = .ok t) : PrefixesOk t := by
  unfold State.interrupt at h
  obtain ⟨u, rfl⟩ : ∃ u : State, u.interrupted = t := by
    split at h <;> (obtain ⟨u, -, hu⟩ := bind_ok.1 h; exact ⟨u, pure_ok.1 hu⟩)
  exact prefixesOk_of_none rfl rfl

theorem doubleFault_prefixesOk (s : State) : PrefixesOk s.doubleFault := by
  unfold State.doubleFault
  split
  next t ht => exact interrupt_prefixesOk ht
  · exact prefixesOk_of_none rfl rfl

theorem deliverSecond_prefixesOk (s : State) (e : Exc) : PrefixesOk (s.deliverSecond e) := by
  unfold State.deliverSecond
  split
  next t ht => exact interrupt_prefixesOk ht
  · exact doubleFault_prefixesOk _

/-- So does taking an exception, whatever its delivery comes to. -/
theorem deliver_prefixesOk (s : State) (r : Raise) : PrefixesOk (s.deliver r) := by
  unfold State.deliver
  extract_lets s1
  split
  · exact doubleFault_prefixesOk _
  · split
    next t ht => exact interrupt_prefixesOk ht
    · exact iteInduction (fun _ => doubleFault_prefixesOk _) fun _ => deliverSecond_prefixesOk ..

theorem deliver_inv {r : Raise} (h : Sound pe (r.context.getD s)) : Inv (s.deliver r) :=
  (deliver_sound h).inv (deliver_prefixesOk s r)

theorem completed_inv (s : State) (h : Sound pe t) : Inv (s.completed t) :=
  Sound.inv (s := s.completed t) h (prefixesOk_of_none rfl rfl)

theorem between_inv {p : Rep} (hs : Inv s) (hrep : s.pfx.rep = some p) (h : Sound pe t) (op : StringOp) :
    Inv (s.between t op) :=
  Sound.inv (s := s.between t op) h ⟨(prefixesOk_of_inv hs).1, fun _ => congrArg Option.isSome hrep⟩

theorem recorded_with_seg {p : Prefixes} (h : ¬p.seg.isSome = true) (r : SReg) :
    recorded { p with seg := some r } = recorded p + 1 := by
  simp only [recorded, Bool.eq_false_iff.2 h, Option.isSome_some, Bool.toNat_true, Bool.toNat_false]
  omega

theorem recorded_with_rep {p : Prefixes} (h : ¬p.rep.isSome = true) (r : Rep) :
    recorded { p with rep := some r } = recorded p + 1 := by
  simp only [recorded, Bool.eq_false_iff.2 h, Option.isSome_some, Bool.toNat_true, Bool.toNat_false]
  omega

theorem recorded_with_lock {p : Prefixes} (h : ¬p.lock = true) : recorded { p with lock := true } = recorded p + 1 := by
  simp only [recorded, Bool.eq_false_iff.2 h, Bool.toNat_true, Bool.toNat_false]

/-- A byte that adds one to what is recorded, and drops no REP or REPNE. -/
theorem readPrefix_inv {p : Prefixes} (hs : Inv s) (hrecorded : recorded p = recorded s.pfx + 1)
    (hrep : s.pfx.rep.isSome = true → p.rep.isSome = true) : Inv (s.readPrefix p) := by
  obtain ⟨hsound, hcount, hagain⟩ := inv_iff.1 hs
  have hp : PrefixesOk (s.readPrefix p) :=
    ⟨(congrArg (· + 1) hcount).trans hrecorded.symm, fun h => hrep (hagain h)⟩
  exact Sound.inv (s := s.readPrefix p) hsound hp

/-! What an instruction ends in. -/

/-- The next state, if there is one, meets the invariant. -/
def EndsInv (o : Host.Outcome State Fault Refusal) : Prop := ∀ t, o = .next t → Inv t

theorem endsInv_refused {r : Refusal} : EndsInv (.refused r) := fun _ h => nomatch h

theorem endsInv_next (h : Inv t) : EndsInv (.next t) := by
  rintro _ ⟨⟩
  exact h

/-- LMSW may set PE and changes level and flags in no mode (47_protected_mode.md R374). -/
theorem loadMsw_sound (h : Sound pe s) (v : Word) :
    Sound (loadMsw s.msw v).pe { s with msw := loadMsw s.msw v, cpl := if s.msw.pe then s.cpl else 0 } := by
  have hreal (hpe : (loadMsw s.msw v).pe = false) : s.msw.pe = false := (Bool.or_eq_false_iff.1 hpe).1
  exact ⟨h.wf, rfl, fun hpe => by simp [hreal hpe], fun hpe => h.flagsOk (h.msw_pe ▸ hreal hpe)⟩

variable (hs : Inv s) {f : State → Res State}
include hs

theorem transfer_inv_of_meets (hf : Meets (Sound s.msw.pe) (fun t => Sound t.msw.pe t) (f s.begin)) :
    EndsInv (transfer s f) := by
  intro t ht
  obtain ⟨-, hsettle⟩ := transfer_next.1 ht
  rcases settle_next.1 hsettle with ⟨u, hu, rfl⟩ | ⟨r, hr, rfl⟩
  · exact completed_inv s (hf.answered hu)
  · exact deliver_inv (hf.raisedIn (t := s.begin) (sound_of_inv hs) hr)

theorem transfer_inv (hf : ∀ u, Sound s.msw.pe u → Sounds s.msw.pe (f u)) : EndsInv (transfer s f) :=
  transfer_inv_of_meets hs ((hf s.begin (sound_of_inv hs)).imp fun _ ht => ht.self)

theorem plain_inv (hf : ∀ u, Sound s.msw.pe u → Sounds s.msw.pe (f u)) : EndsInv (plain s f) :=
  transfer_inv hs fun u hu => meets_bind.2 ((hf u hu).imp fun _ ht => ht)

theorem flagInstr_inv {f : Flags → Flags} (hf : ∀ g, FlagsOk s.msw.pe g → FlagsOk s.msw.pe (f g)) :
    EndsInv (flagInstr s f) :=
  plain_inv hs fun _ hu => meets_pure.2 (hu.with_flags (hf _ hu.flagsOk))

theorem lmsw_inv (rm : RM16) : EndsInv (execLmsw rm s) := by
  unfold execLmsw plain
  refine transfer_inv_of_meets hs ?_
  simp only [State.needsKernel, meets_bind, meets_require, meets_readRm16, meets_pure]
  exact fun _ v _ => loadMsw_sound (s := s.begin) (sound_of_inv hs) v

theorem repeatTurn_inv {op : StringOp} {p : Rep} (hrep : s.pfx.rep = some p)
    (hf : ∀ u, Sound s.msw.pe u → Sounds s.msw.pe (f u)) : Meets (Sound s.msw.pe) Inv (repeatTurn s op p f) := by
  unfold repeatTurn
  refine meets_ite.2 ⟨fun _ => completed_inv (t := s.begin.advance) s (sound_of_inv hs), fun _ => meets_bind.2 ?_⟩
  exact (hf s.begin (sound_of_inv hs)).imp fun u hu => meets_pure.2
    (iteInduction (fun _ => completed_inv s hu) fun _ => between_inv hs hrep hu op)

theorem stringInstr_inv (op : StringOp) : EndsInv (stringInstr s op (element op)) := by
  have hf (u : State) (hu : Sound s.msw.pe u) := element_sound hu op
  unfold stringInstr
  split
  · exact plain_inv hs hf
  next p hrep =>
    refine iteInduction (fun _ => endsInv_refused) fun _ => ?_
    have hturn := repeatTurn_inv hs (op := op) hrep hf
    split
    next t ht => exact endsInv_next (hturn.answered ht)
    next r hr => exact endsInv_next (deliver_inv (hturn.raisedIn (sound_of_inv hs) hr))

theorem escInstr_inv : EndsInv (escInstr s) := by
  have hquiet : Quiet s.escCheck := by simp [Quiet, State.escCheck]
  unfold escInstr
  split
  · exact endsInv_refused
  next r hr =>
    rw [hr] at hquiet
    exact transfer_inv hs fun u hu => fun c hc => (hquiet c hc).elim

theorem overrideInstr_inv (r : SReg) : EndsInv (overrideInstr s r) :=
  iteInduction (fun _ => endsInv_refused) fun hseg =>
    endsInv_next (readPrefix_inv hs (recorded_with_seg hseg r) id)

theorem repeatInstr_inv (p : Rep) : EndsInv (repeatInstr s p) :=
  iteInduction (fun _ => endsInv_refused) fun hrep =>
    endsInv_next (readPrefix_inv hs (recorded_with_rep hrep p) fun _ => rfl)

theorem lock_inv : EndsInv (execLock s) := by
  refine iteInduction (fun _ => endsInv_refused) fun hlock => iteInduction (fun _ => ?_) fun _ => ?_
  · exact endsInv_next (readPrefix_inv hs (recorded_with_lock hlock) id)
  · exact endsInv_next (deliver_inv (sound_of_inv hs))

theorem wait_inv : EndsInv (execWait s) := by
  refine iteInduction (fun _ => endsInv_next ?_) fun _ => plain_inv hs fun u hu => by simp [hu]
  have hsound : Sound s.msw.pe s := sound_of_inv hs
  exact Sound.inv (s := s.idle) hsound (prefixesOk_of_none rfl rfl)

end

/-- Every instruction keeps the invariant. -/
theorem exec_inv (i : Instr) {s : State} (hs : Inv s) : EndsInv (exec i s) := by
  unfold exec
  cases i with
  | addRm8R8 | addAlImm8 | orRm8R8 | orAlImm8 | adcRm8R8 | adcAlImm8 | sbbRm8R8 | sbbAlImm8 | andRm8R8 | andAlImm8
  | subRm8R8 | subAlImm8 | xorRm8R8 | xorAlImm8 | addRm8Imm8 | orRm8Imm8 | adcRm8Imm8 | sbbRm8Imm8 | andRm8Imm8
  | subRm8Imm8 | xorRm8Imm8 | addRm8Imm8Dup | orRm8Imm8Dup | adcRm8Imm8Dup | sbbRm8Imm8Dup | andRm8Imm8Dup
  | subRm8Imm8Dup | xorRm8Imm8Dup | notRm8 | negRm8 | incRm8 | decRm8 =>
    exact plain_inv hs fun u hu => updRm8_sound hu _ fun a => by simp
  | addRm16R16 | addAxImm16 | orRm16R16 | orAxImm16 | adcRm16R16 | adcAxImm16 | sbbRm16R16 | sbbAxImm16
  | andRm16R16 | andAxImm16 | subRm16R16 | subAxImm16 | xorRm16R16 | xorAxImm16 | incR16 | decR16 | addRm16Imm16
  | orRm16Imm16 | adcRm16Imm16 | sbbRm16Imm16 | andRm16Imm16 | subRm16Imm16 | xorRm16Imm16 | addRm16Imm8
  | orRm16Imm8 | adcRm16Imm8 | sbbRm16Imm8 | andRm16Imm8 | subRm16Imm8 | xorRm16Imm8 | notRm16 | negRm16 | incRm16
  | decRm16 =>
    exact plain_inv hs fun u hu => updRm16_sound hu _ fun a => by simp
  | addR8Rm8 | orR8Rm8 | adcR8Rm8 | sbbR8Rm8 | andR8Rm8 | subR8Rm8 | xorR8Rm8 =>
    exact plain_inv hs fun u hu => updReg8_sound hu _ _ fun a b => by simp
  | addR16Rm16 | orR16Rm16 | adcR16Rm16 | sbbR16Rm16 | andR16Rm16 | subR16Rm16 | xorR16Rm16 =>
    exact plain_inv hs fun u hu => updReg16_sound hu _ _ fun a b => by simp
  | cmpRm8R8 | cmpR8Rm8 | cmpAlImm8 | cmpRm8Imm8 | cmpRm8Imm8Dup | testRm8R8 | testAlImm8 | testRm8Imm8 =>
    exact plain_inv hs fun u hu => flagsRm8_sound hu _ fun a => by simp
  | cmpRm16R16 | cmpR16Rm16 | cmpAxImm16 | cmpRm16Imm16 | cmpRm16Imm8 | testRm16R16 | testAxImm16 | testRm16Imm16 =>
    exact plain_inv hs fun u hu => flagsRm16_sound hu _ fun a => by simp
  | rolRm8Imm8 | rorRm8Imm8 | rclRm8Imm8 | rcrRm8Imm8 | shlRm8Imm8 | shrRm8Imm8 | sarRm8Imm8 | rolRm8One
  | rorRm8One | rclRm8One | rcrRm8One | shlRm8One | shrRm8One | sarRm8One | rolRm8Cl | rorRm8Cl | rclRm8Cl
  | rcrRm8Cl | shlRm8Cl | shrRm8Cl | sarRm8Cl =>
    exact plain_inv hs fun u hu => shiftRm8_sound hu _ _ fun a c => by simp
  | rolRm16Imm8 | rorRm16Imm8 | rclRm16Imm8 | rcrRm16Imm8 | shlRm16Imm8 | shrRm16Imm8 | sarRm16Imm8 | rolRm16One
  | rorRm16One | rclRm16One | rcrRm16One | shlRm16One | shrRm16One | sarRm16One | rolRm16Cl | rorRm16Cl | rclRm16Cl
  | rcrRm16Cl | shlRm16Cl | shrRm16Cl | sarRm16Cl =>
    exact plain_inv hs fun u hu => shiftRm16_sound hu _ _ fun a c => by simp
  | movRm8R8 | movRm8Imm8 =>
    exact plain_inv hs fun u hu => writeRm8_sound hu ..
  | movRm16R16 | movRm16Sreg | movRm16Imm16 | smsw =>
    exact plain_inv hs fun u hu => writeRm16_sound hu ..
  | sldt | str =>
    exact plain_inv hs fun u hu => meets_bind.2 (meets_require.2 fun _ => writeRm16_sound hu ..)
  | movMoffsAl =>
    exact plain_inv hs fun u hu => lwrite8_sound hu ..
  | movMoffsAx =>
    exact plain_inv hs fun u hu => lwrite16_sound hu ..
  | xchgRm8R8 =>
    exact plain_inv hs fun u hu => by
      simp only [meets_bind, meets_readRm8]
      exact fun v _ => (writeRm8_sound hu ..).imp fun t ht => (sound_setReg8 ..).2 ht
  | xchgRm16R16 =>
    exact plain_inv hs fun u hu => by
      simp only [meets_bind, meets_readRm16]
      exact fun v _ => (writeRm16_sound hu ..).imp fun t ht => (sound_setReg16 ..).2 ht
  | arpl =>
    exact plain_inv hs fun u hu => by
      simp only [State.needsProtected, meets_bind, meets_ite, sound_setZf, meets_pure, hu, implies_true,
        and_true, meets_checkRm16, meets_readRm16, meets_require]
      exact fun _ v _ _ _ _ => writeRm16_sound hu ..
  | movR8Rm8 | movR16Rm16 | movAlMoffs | movAxMoffs | movR8Imm8 | movR16Imm16 | lea | xchgAxR16 | xlat | lahf | cbw
  | cwd | nop | bound =>
    exact plain_inv hs fun u hu => by simp [hu]
  | lar | lsl =>
    exact plain_inv hs fun u hu => by
      simp only [State.needsProtected, meets_bind, meets_require, meets_readRm16]
      intro _ sel _
      split <;> simp [hu]
  | verr | verw =>
    exact plain_inv hs fun u hu => by simp [State.needsProtected, hu]
  | mulRm8 | imulRm8 =>
    exact plain_inv hs fun u hu => meets_bind.2 ((meets_readRm8 ..).2 fun _ _ => with_mulFlags_sound hu hu _)
  | mulRm16 | imulRm16 =>
    exact plain_inv hs fun u hu => meets_bind.2 ((meets_readRm16 ..).2 fun _ _ => with_mulFlags_sound hu hu _)
  | imulR16Rm16Imm16 | imulR16Rm16Imm8 =>
    exact plain_inv hs fun u hu => meets_bind.2 ((meets_readRm16 ..).2 fun _ _ =>
      with_mulFlags_sound hu ((sound_setReg16 ..).2 hu) _)
  | divRm8 =>
    exact plain_inv hs fun u hu => by simp [divByte_sound hu]
  | idivRm8 =>
    exact plain_inv hs fun u hu => by simp [idivByte_sound hu]
  | divRm16 =>
    exact plain_inv hs fun u hu => by simp [divWord_sound hu]
  | idivRm16 =>
    exact plain_inv hs fun u hu => by simp [idivWord_sound hu]
  | aaa =>
    exact plain_inv hs fun u hu => hu.with_flags (hu.flagsOk.of_controlKept (controlKept_aaaOp ..))
  | aas =>
    exact plain_inv hs fun u hu => hu.with_flags (hu.flagsOk.of_controlKept (controlKept_aasOp ..))
  | daa =>
    exact plain_inv hs fun u hu => hu.with_flags (hu.flagsOk.of_controlKept (controlKept_daaOp ..))
  | das =>
    exact plain_inv hs fun u hu => hu.with_flags (hu.flagsOk.of_controlKept (controlKept_dasOp ..))
  | aad =>
    exact plain_inv hs fun u hu => hu.with_flags (hu.flagsOk.of_controlKept (controlKept_adjustFlags ..))
  | aam =>
    exact plain_inv hs fun u hu => meets_bind.2 (meets_require.2 fun _ =>
      hu.with_flags (hu.flagsOk.of_controlKept (controlKept_adjustFlags ..)))
  | sahf =>
    exact plain_inv hs fun u hu => hu
  | pushR16 | pushImm16 | pushImm8 | pushEs | pushCs | pushSs | pushDs | pushf =>
    exact plain_inv hs fun u hu => push_sound hu ..
  | pushRm16 =>
    exact plain_inv hs fun u hu => by simp [push_sound hu]
  | pusha =>
    exact iteInduction (fun _ => endsInv_refused) fun _ =>
      plain_inv hs fun u hu => (meets_pushAll ..).2 fun t ht => sound_pushAll hu ht
  | popR16 =>
    exact plain_inv hs fun u hu => meets_bind.2 ((pop_sound hu).imp fun x hx => (sound_setReg16 ..).2 hx)
  | popRm16 =>
    exact plain_inv hs fun u hu => meets_bind.2 ((pop_sound hu).imp fun x hx => writeRm16_sound hx ..)
  | popf =>
    exact plain_inv hs fun u hu => meets_bind.2 ((pop_sound hu).imp fun x hx =>
      hx.with_flags (hu.msw_pe ▸ flagsOk_loadFlags u.msw.pe u.cpl u.flags x.1))
  | popa =>
    exact plain_inv hs fun u hu => popAllRegs_sound hu
  | enter =>
    exact plain_inv hs fun u hu => enterFrame_sound hu ..
  | leave =>
    exact plain_inv hs fun u hu => meets_bind.2 ((meets_lread16 ..).2 fun _ _ => hu)
  | popEs | popSs | popDs =>
    exact plain_inv hs fun u hu => popSeg_sound hu ..
  | movSregRm16 =>
    exact plain_inv hs fun u hu => by simp [loadSegShadow_sound hu]
  | lds | les =>
    exact plain_inv hs fun u hu => by
      simp only [meets_bind, meets_readPointer]
      exact fun p _ => (loadSeg_sound hu ..).imp fun t ht => (sound_setReg16 ..).2 ht
  | jo | jno | jb | jnb | je | jne | jbe | jnbe | js | jns | jp | jnp | jl | jnl | jle | jnle | jcxz =>
    exact transfer_inv hs fun u hu => branch_sound hu ..
  | loopnz | loopz | loop =>
    exact transfer_inv hs fun u hu => branch_sound (s := u.countCx) hu ..
  | jmpRel16 | jmpRel8 =>
    exact transfer_inv hs fun u hu => jumpNear_sound hu ..
  | jmpRm16 =>
    exact transfer_inv hs fun u hu => meets_bind.2 ((meets_readRm16 ..).2 fun v _ => jumpNear_sound hu v)
  | callRel16 =>
    exact transfer_inv hs fun u hu => callNear_sound hu ..
  | callRm16 =>
    exact transfer_inv hs fun u hu => by simp [callNear_sound hu]
  | retImm16 | ret =>
    exact transfer_inv hs fun u hu => retNear_sound hu ..
  | callPtr =>
    exact transfer_inv hs fun u hu => farCall_sound hu ..
  | callM16_16 =>
    exact transfer_inv hs fun u hu => by simp [farCall_sound hu]
  | jmpPtr =>
    exact transfer_inv hs fun u hu => farJump_sound hu ..
  | jmpM16_16 =>
    exact transfer_inv hs fun u hu => by simp [farJump_sound hu]
  | retfImm16 | retf =>
    exact transfer_inv hs fun u hu => farReturn_sound hu ..
  | intImm8 | int3 =>
    exact transfer_inv hs fun u hu => interrupt_sound hu ..
  | into =>
    exact transfer_inv hs fun u hu => meets_ite.2 ⟨fun _ => interrupt_sound hu .., fun _ => hu⟩
  | iret =>
    exact transfer_inv hs fun u hu => interruptReturn_sound hu
  | inAlImm8 | inAxImm8 | inAlDx =>
    exact plain_inv hs fun u hu => by simp [State.inByte, State.inWord, hu]
  | inAxDx =>
    exact iteInduction (fun _ => endsInv_refused) fun _ => plain_inv hs fun u hu => by simp [State.inWord, hu]
  | outImm8Al | outImm8Ax | outDxAl =>
    exact plain_inv hs fun u hu => by simp [State.outPort, hu]
  | outDxAx =>
    exact iteInduction (fun _ => endsInv_refused) fun _ => plain_inv hs fun u hu => by simp [State.outPort, hu]
  | insb | outsb | movsb | movsw | cmpsb | cmpsw | stosb | stosw | lodsb | lodsw | scasb | scasw =>
    exact stringInstr_inv hs _
  | insw | outsw =>
    exact iteInduction (fun _ => endsInv_refused) fun _ => stringInstr_inv hs _
  | lgdt | lidt =>
    exact plain_inv hs fun u hu => by
      simp only [State.needsKernel, meets_bind, meets_require, meets_readTable, meets_pure]
      exact fun _ _ _ => hu
  | lldt =>
    exact plain_inv hs fun u hu => by simp [State.needsProtected, State.needsKernel, loadLdt_sound hu]
  | ltr =>
    exact plain_inv hs fun u hu => by simp [State.needsProtected, State.needsKernel, loadTr_sound hu]
  | lmsw =>
    exact lmsw_inv hs _
  | sgdt | sidt =>
    exact plain_inv hs fun u hu => writeTable_sound hu ..
  | cmc | clc | stc | cld | std =>
    exact flagInstr_inv hs fun f hf => hf
  | cli | sti | hlt | cts =>
    exact plain_inv hs fun u hu => meets_bind.2 (meets_require.2 fun _ => hu)
  | wait =>
    exact wait_inv hs
  | esc =>
    exact escInstr_inv hs
  | segEs | segCs | segSs | segDs =>
    exact overrideInstr_inv hs _
  | repne | rep =>
    exact repeatInstr_inv hs _
  | lock =>
    exact lock_inv hs

/-! Between instructions. -/

section
variable {s t : State} (hs : Inv s)
include hs

theorem takeEvent_inv (n : Byte) : Inv (s.takeEvent n) := by
  have hentry : Sounds s.msw.pe (s.interrupt n false s.ip none) := interrupt_sound (sound_of_inv hs) ..
  unfold State.takeEvent
  split
  next t ht => exact (hentry.answered ht).inv (interrupt_prefixesOk ht)
  next r hr => exact deliver_inv (hentry.raisedIn (sound_of_inv hs) hr)

theorem boundary_inv (h : s.boundary = some t) : Inv t := by
  have hnmi : Inv s.takeNmi := takeEvent_inv (s := { s with nmiPending := false, nmiInService := true }) hs 2
  have htrap : Inv s.takeTrap := takeEvent_inv (s := { s with trapPending := false }) hs 1
  have hoverrun : Inv s.takeOverrun := takeEvent_inv (s := { s with pins := { s.pins with overrun := false } }) hs 9
  have hintr (n : Byte) : Inv (s.takeIntr n) := takeEvent_inv (s := { s with pins := { s.pins with intr := none } }) hs n
  unfold State.boundary at h
  split at h
  · cases h
  split at h
  · cases h
    split <;> assumption
  split at h
  · cases h
    exact htrap
  split at h
  · cases h
    exact hnmi
  split at h
  · cases h
    exact hoverrun
  split at h
  · cases h
    exact hintr _
  · split at h <;> cases h
    exact hs

theorem doReset_inv : Inv s.doReset := ⟨wf_doReset hs.1, resetInv.2⟩

end

theorem finish_inv (s : State) {t : State} (h : Inv t) : Inv (s.finish t) := h

/-- Settles O7, by cases on how the step went: an instruction computes sound states in its own mode, LMSW's being sound in
the mode it sets, and entries, exceptions and completed instructions leave no prefixes and no repetition. -/
theorem stepKeepsInv : Obligations.StepKeepsInv := by
  intro s t hs h
  rcases step_cases h with ⟨-, rfl⟩ |
    ⟨-, ⟨u, hu, rfl⟩ | ⟨op, u, hu, rfl⟩ | ⟨i, rest, u, -, hu, rfl⟩ | ⟨e, rfl⟩⟩
  · exact finish_inv s (doReset_inv hs)
  · exact finish_inv s (boundary_inv hs hu)
  · exact finish_inv s (exec_inv op.instr hs u hu)
  · have hfetched : Inv (fetched s (s.fetchBytes.length - rest.length)) := hs
    exact finish_inv s (exec_inv i hfetched u hu)
  · exact finish_inv s (deliver_inv (sound_of_inv hs))

end Sys2Proof.Proofs

/-! PROOFS. Accesses through a segment register (20_memory.md R83, R90 to R93). -/
namespace Sys2Proof.Proofs
open Sys2Proof Sys2Proof.Machine Sys2Proof.Claims

/-! The check of an access. -/

section
variable {s : State} {r : SReg} {off n : Nat} {write : Bool} {code : Word}

/-- The limit of the model and the limit of the rules (20_memory.md R83, R92). -/
theorem insideLimit_iff_within (hpe : s.msw.pe = true) : insideLimit (s.seg r) off n = true ↔ Within s r off n := by
  cases hdown : arExpandDown (s.seg r).ar <;> simp [insideLimit, Within, hpe, hdown]

/-- A passed check is an access that is allowed, whatever error code a failed one would have had. -/
theorem check_ok_iff_fits : s.check r off n write code = .ok () ↔ Fits s r off n write := by
  cases hpe : s.msw.pe with
  | false => simp [check_real hpe, Fits, Within, hpe]
  | true => simp only [check_protected hpe, insideLimit_iff_within hpe, Fits, TypeOk, hpe, forall_const, and_assoc]

/-- A fault of validity or type comes before one of the limit (20_memory.md R90, R91). -/
theorem check_of_not_typeOk (hpe : s.msw.pe = true) (htype : ¬TypeOk s r write) :
    s.check r off n write code = raise (.generalProtection code) := by
  cases hvalid : (s.seg r).valid with
  | false =>
    simp only [State.check, hpe, hvalid, if_true]
    rfl
  | true =>
    have hbad : (if write then decide (r ≠ .cs) && arWritable (s.seg r).ar else arReadable (s.seg r).ar) = false := by
      cases write <;> simpa [TypeOk, hvalid] using htype
    simp only [State.check, hpe, hvalid, hbad, if_true, require_true]
    rfl

/-- Past validity and type only the limit is left to check (20_memory.md R92). -/
theorem check_of_typeOk (hpe : s.msw.pe = true) (htype : TypeOk s r write) :
    s.check r off n write code = require (insideLimit (s.seg r) off n) (segFault r code) := by
  obtain ⟨hvalid, hkind⟩ := htype
  have hgood : (if write then decide (r ≠ .cs) && arWritable (s.seg r).ar else arReadable (s.seg r).ar) = true := by
    cases write <;> simpa using hkind
  simp only [State.check, hpe, hvalid, hgood, if_true, require_true]
  rfl

/-- A check that fails raises what the rules say (20_memory.md R90 to R93). -/
theorem check_error_of_not_fits (h : ¬Fits s r off n write) :
    ∃ e, AccessExc s r write e ∧ s.check r off n write 0 = .error { exc := e, context := none } := by
  by_cases htype : s.msw.pe = true → TypeOk s r write
  · obtain ⟨b, hb⟩ : ∃ b, s.check r off n write 0 = require b (segFault r 0) := by
      cases hpe : s.msw.pe with
      | true => exact ⟨_, check_of_typeOk hpe (htype hpe)⟩
      | false => exact ⟨decide (off + n ≤ 0x10000), by simp [State.check, hpe]⟩
    cases b with
    | true => exact absurd (check_ok_iff_fits.1 hb) h
    | false => exact ⟨_, .inr ⟨htype, rfl⟩, hb⟩
  · obtain ⟨hpe, hbad⟩ := Classical.not_imp.1 htype
    exact ⟨_, .inl ⟨hpe, hbad, rfl⟩, check_of_not_typeOk hpe hbad⟩

end

theorem bind_error {α β : Type} {m : Res α} {f : α → Res β} {r : Raise} (h : m = .error r) :
    (m >>= f) = .error r := by
  rw [h]
  rfl

/-- What follows a check that fails is not done. -/
theorem check_bind_error {s : State} {r : SReg} {off n : Nat} {write : Bool} {α : Type} (f : Unit → Res α)
    (h : ¬Fits s r off n write) :
    ∃ e, AccessExc s r write e ∧ (s.check r off n write 0 >>= f) = .error { exc := e, context := none } := by
  obtain ⟨e, hexc, hcheck⟩ := check_error_of_not_fits h
  exact ⟨e, hexc, bind_error hcheck⟩

/-! What a write stores. -/

theorem write8_storedByte (s : State) (r : SReg) (off : Nat) (v : Byte) :
    StoredByte s (s.write8 (s.linear r off) v) r off v :=
  ⟨write8_physByte_same .., fun _ hp => write8_physByte_ne s _ v hp⟩

/-- The two cells of a word are not one, even where the word wraps in memory. -/
theorem write16_storedWord (s : State) (r : SReg) (off : Nat) (v : Word) :
    StoredWord s (s.write16 (s.linear r off) v) r off v := by
  refine ⟨?_, write8_physByte_same .., fun p h0 h1 => write16_physByte_ne s _ v h0 h1⟩
  have hlow : (s.write8 (s.linear r off) (loByte v)).physByte (cell s r off) = loByte v := write8_physByte_same ..
  have hkept := write8_physByte_ne (s.write8 (s.linear r off) (loByte v)) (s.linear r off + 1) (hiByte v)
    (physAddr_succ_ne s.msw.pe (s.linear r off))
  exact hkept.trans hlow

/-- Settles O12: the check decides, and past it the access is made at the cells of the offset. -/
theorem segmentAccess : Obligations.SegmentAccess := by
  refine ⟨fun s r off => ⟨fun h => ?_, fun h => ?_, check_bind_error _, check_bind_error _⟩,
    fun s r off v => ⟨fun h => ?_, check_bind_error _⟩, fun s r off v => ⟨fun h => ?_, check_bind_error _⟩⟩
  · exact lread8_ok.2 ⟨check_ok_iff_fits.2 h, rfl⟩
  · exact lread16_ok.2 ⟨check_ok_iff_fits.2 h, rfl⟩
  · exact ⟨_, lwrite8_ok.2 ⟨check_ok_iff_fits.2 h, rfl⟩, rfl, write8_storedByte ..⟩
  · exact ⟨_, lwrite16_ok.2 ⟨check_ok_iff_fits.2 h, rfl⟩, rfl, write16_storedWord ..⟩

end Sys2Proof.Proofs

/-! PROOFS. Statements of 30_encoding.md: round trips and words decoded (R121 to R140), effective addresses (R130, R131), the
encodings that are no instruction (R141), and prefixes (R122, R142). -/
namespace Sys2Proof.Proofs
open Sys2Proof Sys2Proof.Machine Sys2Proof.Claims

/-- Settles O2: one round trip per row, proved where a step at an encoded instruction needs it. -/
theorem roundTrip : Obligations.RoundTrip := decode_encode

/-- Settles O1: the decoder computes each word's instruction. -/
theorem decodeWords : Obligations.DecodeWords :=
  ⟨rfl, rfl, rfl, rfl, rfl, rfl, rfl, rfl, rfl, rfl, rfl, rfl⟩

/-! Effective addresses (30_encoding.md R130, R131). -/

theorem baseSegment_eq_ss {b : Base} : baseSegment b = .ss ↔ b = .bpsi ∨ b = .bpdi ∨ b = .bp := by
  cases b <;> simp [baseSegment]

theorem baseSegment_eq_ds {b : Base} : baseSegment b = .ds ↔ b ≠ .bpsi ∧ b ≠ .bpdi ∧ b ≠ .bp := by
  cases b <;> simp [baseSegment]

theorem segOf_default {s : State} (m : Mem) (h : s.pfx.seg = none) : s.segOf m = memSegment m := by
  simp [State.segOf, State.segOr, h]

theorem segOf_override {s : State} {r : SReg} (m : Mem) (h : s.pfx.seg = some r) : s.segOf m = r := by
  simp [State.segOf, State.segOr, h]

/-- Settles O14: each form adds to the sum of its registers, and its segment is the override or that of its registers. -/
theorem effectiveAddress : Obligations.EffectiveAddress := by
  intro s d8 d16
  refine ⟨?_, fun b => ⟨?_, rfl, rfl⟩, rfl, fun hseg => ⟨fun b => ⟨rfl, rfl, ?_, ?_⟩, ?_⟩, fun r m => segOf_override m⟩
  · simp [State.ea, State.baseSum, Base.ofNum]
  · simp [State.ea]
  · rw [segOf_default _ hseg]
    exact baseSegment_eq_ss
  · rw [segOf_default _ hseg]
    exact baseSegment_eq_ds
  · exact segOf_default _ hseg

/-! The encodings that are no instruction (30_encoding.md R141). -/

theorem decode_64_to_67_illegal {op : Byte} (hop : op = 0x64 ∨ op = 0x65 ∨ op = 0x66 ∨ op = 0x67) (rest : List Byte) :
    decode (op :: rest) = .illegal := by
  rcases hop with rfl | rfl | rfl | rfl <;> rfl

theorem decode_D6_F1_reserved {op : Byte} (hop : op = 0xD6 ∨ op = 0xF1) (rest : List Byte) :
    decode (op :: rest) = .reserved := by
  rcases hop with rfl | rfl <;> rfl

theorem decode_0F_illegal {b : Byte} (hb : 5 < b.toNat) (hcts : b ≠ 0x06) (rest : List Byte) :
    decode (0x0F :: b :: rest) = .illegal := by
  have hne : b.toNat ≠ 6 := fun h => hcts (BitVec.eq_of_toNat_eq h)
  obtain ⟨n, hn⟩ : ∃ n, b.toNat = n + 7 := ⟨b.toNat - 7, by omega⟩
  change decode0F (b :: rest) = .illegal
  simp only [decode0F, hn]

theorem decode_0F04_0F05_reserved {b : Byte} (hb : b = 0x04 ∨ b = 0x05) (rest : List Byte) :
    decode (0x0F :: b :: rest) = .reserved := by
  rcases hb with rfl | rfl <;> rfl

section
variable {g : BitVec 3} {rm : RM16} (h : rm.wellFormed = true) (rest : List Byte)
include h

theorem decode_0F00_illegal (hg : 6 ≤ g.toNat) : decode (0x0F :: 0x00 :: (rm.bytes g ++ rest)) = .illegal := by
  change group0F00 _ = _
  rw [group0F00, onRM_bytes16 h]
  have hlt : g.toNat < 8 := g.isLt
  interval_cases g.toNat <;> rfl

theorem decode_0F01_illegal (hg : g = 5 ∨ g = 7) : decode (0x0F :: 0x01 :: (rm.bytes g ++ rest)) = .illegal := by
  change group0F01 _ = _
  rw [group0F01, onRM_bytes16 h]
  rcases hg with rfl | rfl <;> rfl

theorem decode_FF_illegal : decode (0xFF :: (rm.bytes 7 ++ rest)) = .illegal := by
  change groupFF _ = _
  rw [groupFF, onRM_bytes16 h]
  rfl

/-- MOV to CS. -/
theorem decode_8E_illegal : decode (0x8E :: (rm.bytes 1 ++ rest)) = .illegal := by
  simp [decode, decodeRow8, onRM_bytes16 h, SReg.ofNum]

theorem decode_8C_8E_reserved {op : Byte} (hop : op = 0x8C ∨ op = 0x8E) (hg : 4 ≤ g.toNat) :
    decode (op :: (rm.bytes g ++ rest)) = .reserved := by
  have hnone : SReg.ofNum g = none := by
    have hlt : g.toNat < 8 := g.isLt
    unfold SReg.ofNum
    interval_cases g.toNat <;> rfl
  rcases hop with rfl | rfl <;> simp [decode, decodeRow8, onRM_bytes16 h, hnone]

theorem decode_8F_C6_C7_reserved {op : Byte} (hop : op = 0x8F ∨ op = 0xC6 ∨ op = 0xC7) (hg : g ≠ 0) :
    decode (op :: (rm.bytes g ++ rest)) = .reserved := by
  have hpos : 0 < g.toNat := Nat.pos_of_ne_zero fun h0 => hg (BitVec.eq_of_toNat_eq h0)
  have hlt : g.toNat < 8 := g.isLt
  rcases hop with rfl | rfl | rfl <;>
    simp only [decode, decodeRow8, decodeRowC, group8F, groupC6, groupC7, BitVec.reduceToNat, Nat.reduceDiv, Nat.reduceMod,
      onRM_bytes16 h] <;>
    interval_cases g.toNat <;> rfl

/-- The shifts and rotates have no row 6. -/
theorem decode_shift_reserved {op : Byte}
    (hop : op = 0xC0 ∨ op = 0xC1 ∨ op = 0xD0 ∨ op = 0xD1 ∨ op = 0xD2 ∨ op = 0xD3) :
    decode (op :: (rm.bytes 6 ++ rest)) = .reserved := by
  rcases hop with rfl | rfl | rfl | rfl | rfl | rfl <;>
    simp [decode, decodeRowC, decodeRowD, groupC0, groupC1, groupD0, groupD1, groupD2, groupD3, onRM_bytes16 h]

theorem decode_F6_F7_reserved {op : Byte} (hop : op = 0xF6 ∨ op = 0xF7) :
    decode (op :: (rm.bytes 1 ++ rest)) = .reserved := by
  rcases hop with rfl | rfl <;> simp [decode, decodeRowF, groupF6, groupF7, onRM_bytes16 h]

end

theorem decode_FE_illegal {g : BitVec 3} {rm : RM8} (h : rm.wellFormed = true) (hg : 2 ≤ g.toNat) (rest : List Byte) :
    decode (0xFE :: (rm.bytes g ++ rest)) = .illegal := by
  change groupFE _ = _
  rw [groupFE, onRM_bytes8 h]
  have hlt : g.toNat < 8 := g.isLt
  interval_cases g.toNat <;> rfl

section
variable (g : BitVec 3) (r : Reg16) (rest : List Byte)

/-- SGDT, SIDT, LGDT and LIDT with a register. -/
theorem decode_0F01_reg_illegal (hg : g.toNat ≤ 3) :
    decode (0x0F :: 0x01 :: (RM16.bytes (.reg r) g ++ rest)) = .illegal := by
  change group0F01 (modRM 3 g r.num :: rest) = _
  rw [group0F01, onRM_reg]
  interval_cases g.toNat <;> rfl

/-- A far CALL and JMP through a register. -/
theorem decode_FF_reg_illegal (hg : g = 3 ∨ g = 5) : decode (0xFF :: (RM16.bytes (.reg r) g ++ rest)) = .illegal := by
  change groupFF (modRM 3 g r.num :: rest) = _
  rw [groupFF, onRM_reg]
  rcases hg with rfl | rfl <;> rfl

theorem onMem_reg {k : BitVec 3 → Mem → List Byte → Decoded} :
    onMem (RM16.bytes (.reg r) g ++ rest) k = .illegal :=
  onRM_reg r.num

/-- LEA, LES, LDS and BOUND with a register. -/
theorem decode_onMem_reg_illegal {op : Byte} (hop : op = 0x8D ∨ op = 0xC4 ∨ op = 0xC5 ∨ op = 0x62) :
    decode (op :: (RM16.bytes (.reg r) g ++ rest)) = .illegal := by
  rcases hop with rfl | rfl | rfl | rfl <;> simp [decode, decodeRow6, decodeRow8, decodeRowC, onMem_reg]

end

theorem rejectedBytes : RejectedBytes :=
  ⟨fun _ hop => decode_64_to_67_illegal hop,
    fun _ => decode_0F_illegal,
    fun _ _ h hg rest => decode_0F00_illegal h rest hg,
    fun _ _ h hg rest => decode_0F01_illegal h rest hg,
    fun g r hg rest => decode_0F01_reg_illegal g r rest hg,
    fun _ _ => decode_FE_illegal,
    fun _ => decode_FF_illegal,
    fun g r hg rest => decode_FF_reg_illegal g r rest hg,
    fun _ hop g r rest => decode_onMem_reg_illegal g r rest hop,
    fun _ => decode_8E_illegal,
    fun _ => decode_D6_F1_reserved,
    fun _ => decode_0F04_0F05_reserved,
    fun _ hop _ _ h hg rest => decode_8C_8E_reserved h rest hop hg,
    fun _ hop _ _ h hg rest => decode_8F_C6_C7_reserved h rest hop hg,
    fun _ hop _ h rest => decode_shift_reserved h rest hop,
    fun _ hop _ h rest => decode_F6_F7_reserved h rest hop⟩

theorem rejectedSteps : RejectedSteps := by
  intro s hreset hboundary hagain
  have hstep : step s = concluded s s.fetchRun := step_of_runNext hreset hboundary (by simp only [State.runNext, hagain])
  refine ⟨fun hdecode => ?_, fun hdecode => ?_, fun hdecode => ?_⟩ <;>
    simp only [hstep, State.fetchRun, hdecode, concluded]

/-- Settles O3: each list of bytes is rejected by its row or group, and a step goes by what the bytes decode to. -/
theorem rejectedEncodings : Obligations.RejectedEncodings := ⟨rejectedBytes, rejectedSteps⟩

/-! Prefixes (30_encoding.md R122, R142). -/

theorem trusted_iff {s : State} : s.trusted = true ↔ s.msw.pe = false ∨ s.cpl ≤ s.flags.iopl := by
  simp [State.trusted]

theorem overrideInstr_recorded {s : State} (r : SReg) (h : s.pfx.seg = none) :
    overrideInstr s r = .next { s with pfx := { s.pfx with seg := some r, count := s.pfx.count + 1 } } := by
  simp [overrideInstr, h, State.readPrefix]

theorem overrideInstr_refused {s : State} (r : SReg) (h : s.pfx.seg ≠ none) :
    overrideInstr s r = .refused .redundantPrefix :=
  if_pos (Option.isSome_iff_ne_none.2 h)

theorem repeatInstr_recorded {s : State} (p : Rep) (h : s.pfx.rep = none) :
    repeatInstr s p = .next { s with pfx := { s.pfx with rep := some p, count := s.pfx.count + 1 } } := by
  simp [repeatInstr, h, State.readPrefix]

theorem repeatInstr_refused {s : State} (p : Rep) (h : s.pfx.rep ≠ none) :
    repeatInstr s p = .refused .redundantPrefix :=
  if_pos (Option.isSome_iff_ne_none.2 h)

theorem execLock_recorded {s : State} (hlock : s.pfx.lock = false) (h : s.msw.pe = false ∨ s.cpl ≤ s.flags.iopl) :
    execLock s = .next { s with pfx := { s.pfx with lock := true, count := s.pfx.count + 1 } } := by
  simp [execLock, hlock, trusted_iff.2 h, State.readPrefix]

theorem execLock_faults {s : State} (hlock : s.pfx.lock = false) (hpe : s.msw.pe = true) (hcpl : s.flags.iopl < s.cpl) :
    execLock s = .next (s.deliver { exc := .generalProtection 0, context := none }) := by
  have huntrusted : ¬s.trusted = true := by simp [trusted_iff, hpe, hcpl]
  simp [execLock, hlock, huntrusted]

theorem prefixBytes : PrefixBytes := by
  intro s
  refine ⟨fun i r hi => ?_, fun i p hi => ?_, fun hlock => if_pos hlock,
    fun hlock => ⟨execLock_recorded hlock, execLock_faults hlock⟩⟩
  · rcases hi with ⟨rfl, rfl⟩ | ⟨rfl, rfl⟩ | ⟨rfl, rfl⟩ | ⟨rfl, rfl⟩ <;>
      exact ⟨overrideInstr_recorded _, overrideInstr_refused _⟩
  · rcases hi with ⟨rfl, rfl⟩ | ⟨rfl, rfl⟩ <;> exact ⟨repeatInstr_recorded _, repeatInstr_refused _⟩

/-- The instruction is refused, on whatever ground. -/
def Refused (o : Host.Outcome State Fault Refusal) : Prop := ∃ r, o = .refused r

section
variable {s : State} (h : s.pfx.rep ≠ none)
include h

theorem transfer_refused (f : State → Res State) : Refused (transfer s f) :=
  ⟨_, if_pos (Option.isSome_iff_ne_none.2 h)⟩

theorem plain_refused (f : State → Res State) : Refused (plain s f) := transfer_refused h _

theorem flagInstr_refused (f : Flags → Flags) : Refused (flagInstr s f) := plain_refused h _

theorem ite_plain_refused {c : Prop} [Decidable c] (r : Refusal) (f : State → Res State) :
    Refused (if c then .refused r else plain s f) :=
  iteInduction (fun _ => ⟨r, rfl⟩) fun _ => plain_refused h f

theorem escInstr_refused : Refused (escInstr s) := by
  unfold escInstr
  split
  · exact ⟨_, rfl⟩
  · exact transfer_refused h _

/-- WAIT idles only without REP and REPNE, and so does not idle here. -/
theorem execWait_refused : Refused (execWait s) := by
  have hrep : s.pfx.rep.isNone = false := Option.isNone_eq_false_iff.2 (Option.isSome_iff_ne_none.2 h)
  simp only [execWait, hrep, Bool.and_false, Bool.false_eq_true, if_false]
  exact plain_refused h _

end

theorem repeatOnlyStrings : RepeatOnlyStrings := by
  intro i s h hi
  change Refused (exec i s)
  unfold exec
  cases i with
  | movsb | movsw | cmpsb | cmpsw | scasb | scasw | lodsb | lodsw | stosb | stosw | insb | insw | outsb | outsw | segEs
  | segCs | segSs | segDs | rep | repne | lock => simp at hi
  | jo | jno | jb | jnb | je | jne | jbe | jnbe | js | jns | jp | jnp | jl | jnl | jle | jnle | jcxz | loopnz | loopz
  | loop | jmpRel16 | jmpRel8 | jmpRm16 | callRel16 | callRm16 | retImm16 | ret | callPtr | callM16_16 | jmpPtr
  | jmpM16_16 | retfImm16 | retf | intImm8 | int3 | into | iret => exact transfer_refused h _
  | inAxDx | outDxAx | pusha => exact ite_plain_refused h _ _
  | clc | stc | cmc | cld | std => exact flagInstr_refused h _
  | esc => exact escInstr_refused h
  | wait => exact execWait_refused h
  | _ => exact plain_refused h _

/-- Settles O56: the first byte of its kind is recorded, and what is no string instruction goes through `transfer`, which refuses
REP and REPNE, or is refused on a ground of its own. -/
theorem prefixes : Obligations.Prefixes := ⟨prefixBytes, repeatOnlyStrings⟩

end Sys2Proof.Proofs

/-! PROOFS. What an operand in memory raises, and what an instruction that completes or raises leaves (20_memory.md R90 to R93;
40_data_transfer.md R160; 60_exceptions.md R424). -/
namespace Sys2Proof.Proofs
open Sys2Proof Sys2Proof.Machine Sys2Proof.Claims

/-! What a sequence raises. -/

section
variable {α β : Type} {m : Res α} {f : α → Res β} {a : α} {e : Exc}

/-- A sequence raises what its first part raises, or where that answers what the rest raises. -/
theorem bind_eq_raise : (m >>= f) = raise e ↔ m = raise e ∨ ∃ a, m = .ok a ∧ f a = raise e := by
  cases m with
  | ok a => exact ⟨fun h => .inr ⟨a, rfl, h⟩, fun h => h.elim nofun fun ⟨_, ha, hf⟩ => Except.ok.inj ha ▸ hf⟩
  | error r => exact ⟨fun h => .inl (congrArg Except.error (Except.error.inj h)),
      fun h => h.elim (fun h => congrArg Except.error (Except.error.inj h)) nofun⟩

theorem bind_raise (h : m = raise e) : (m >>= f) = raise e := bind_error h

theorem ok_bind (h : m = .ok a) : (m >>= f) = f a := by
  rw [h]
  rfl

theorem require_eq_raise {b : Bool} {e' : Exc} : require b e' = raise e ↔ b = false ∧ e' = e := by
  cases b <;> simp [require, raise]

theorem require_bind {b : Bool} {f : Unit → Res β} (h : b = true) : (require b e >>= f) = f () := by
  rw [h]
  rfl

/-- Two checks with one exception are one check. -/
theorem require_require {b c : Bool} {f : Unit → Res β} :
    (require b e >>= fun _ => require c e >>= f) = (require (b && c) e >>= f) := by
  cases b <;> rfl

/-- All that `m` raises is `e`, in the state it started in. -/
def RaisesOnly (e : Exc) (m : Res α) : Prop := ∀ r, m = .error r → r = { exc := e, context := none }

theorem raisesOnly_ok : RaisesOnly e (.ok a) := fun _ h => nomatch h

theorem raisesOnly_raise : RaisesOnly e (raise e : Res α) := fun _ h => (Except.error.inj h).symm

theorem RaisesOnly.bind (hm : RaisesOnly e m) (hf : ∀ a, m = .ok a → RaisesOnly e (f a)) : RaisesOnly e (m >>= f) := by
  cases m with
  | ok a => exact hf a rfl
  | error r => exact fun q hq => hm q (congrArg Except.error (Except.error.inj hq))

/-- What cannot answer raises. -/
theorem RaisesOnly.eq_raise (hm : RaisesOnly e m) (h : ∀ a, m ≠ .ok a) : m = raise e := by
  cases m with
  | ok a => exact absurd rfl (h a)
  | error r => exact congrArg Except.error (hm r rfl)

end

/-! What an access raises. -/

section
variable {s t : State} {r : SReg} {off n : Nat} {write : Bool} {e e' : Exc}

theorem accessExc_unique (h : AccessExc s r write e) (h' : AccessExc s r write e') : e = e' := by
  rcases h with ⟨hpe, hbad, rfl⟩ | ⟨hgood, rfl⟩
  · rcases h' with ⟨-, -, rfl⟩ | ⟨hgood, -⟩
    · rfl
    · exact absurd (hgood hpe) hbad
  · rcases h' with ⟨hpe, hbad, -⟩ | ⟨-, rfl⟩
    · exact absurd (hgood hpe) hbad
    · rfl

theorem check_eq_raise : s.check r off n write 0 = raise e ↔ ¬Fits s r off n write ∧ AccessExc s r write e := by
  by_cases hfits : Fits s r off n write
  · rw [check_ok_iff_fits.2 hfits]
    exact iff_of_false nofun fun h => h.1 hfits
  · obtain ⟨e', hexc, hcheck⟩ := check_error_of_not_fits hfits
    rw [hcheck]
    refine ⟨fun h => ⟨hfits, ?_⟩, fun h => congrArg raise (accessExc_unique hexc h.2)⟩
    cases h
    exact hexc

theorem check_raisesOnly (he : AccessExc s r write e) : RaisesOnly e (s.check r off n write 0) := by
  by_cases hfits : Fits s r off n write
  · rw [check_ok_iff_fits.2 hfits]
    exact raisesOnly_ok
  · rw [check_eq_raise.2 ⟨hfits, he⟩]
    exact raisesOnly_raise

/-- Only the mode and the segment register decide whether an access is allowed. -/
theorem fits_congr (hmsw : t.msw = s.msw) (hseg : t.seg r = s.seg r) :
    Fits t r off n write ↔ Fits s r off n write := by
  simp only [Fits, Within, TypeOk, hmsw, hseg]

theorem accessExc_congr (hmsw : t.msw = s.msw) (hseg : t.seg r = s.seg r) :
    AccessExc t r write e ↔ AccessExc s r write e := by
  simp only [AccessExc, TypeOk, hmsw, hseg]

theorem lread8_eq_raise {off : Word} :
    s.lread8 r off = raise e ↔ ¬Fits s r off.toNat 1 false ∧ AccessExc s r false e := by
  simp only [State.lread8, bind_eq_raise, check_eq_raise]
  exact or_iff_left fun ⟨_, _, h⟩ => nomatch h

theorem lread16_eq_raise {off : Word} :
    s.lread16 r off = raise e ↔ ¬Fits s r off.toNat 2 false ∧ AccessExc s r false e := by
  simp only [State.lread16, bind_eq_raise, check_eq_raise]
  exact or_iff_left fun ⟨_, _, h⟩ => nomatch h

theorem lwrite8_eq_raise {off : Word} {v : Byte} :
    s.lwrite8 r off v = raise e ↔ ¬Fits s r off.toNat 1 true ∧ AccessExc s r true e := by
  simp only [State.lwrite8, bind_eq_raise, check_eq_raise]
  exact or_iff_left fun ⟨_, _, h⟩ => nomatch h

theorem lwrite16_eq_raise {off v : Word} :
    s.lwrite16 r off v = raise e ↔ ¬Fits s r off.toNat 2 true ∧ AccessExc s r true e := by
  simp only [State.lwrite16, bind_eq_raise, check_eq_raise]
  exact or_iff_left fun ⟨_, _, h⟩ => nomatch h

theorem lread8_of_fits {off : Word} (h : Fits s r off.toNat 1 false) : s.lread8 r off = .ok (byteAt s r off.toNat) :=
  lread8_ok.2 ⟨check_ok_iff_fits.2 h, rfl⟩

theorem lread16_of_fits {off : Word} (h : Fits s r off.toNat 2 false) : s.lread16 r off = .ok (wordAt s r off.toNat) :=
  lread16_ok.2 ⟨check_ok_iff_fits.2 h, rfl⟩

theorem readPointer_eq_raise {m : Mem} :
    s.readPointer m = raise e ↔ ¬Fits s (s.segOf m) (s.ea m).toNat 4 false ∧ AccessExc s (s.segOf m) false e := by
  simp only [State.readPointer, bind_eq_raise, check_eq_raise]
  exact or_iff_left fun ⟨_, _, h⟩ => nomatch h

theorem readPointer_of_fits {m : Mem} (h : Fits s (s.segOf m) (s.ea m).toNat 4 false) :
    s.readPointer m = .ok (wordAt s (s.segOf m) (s.ea m).toNat, wordAt s (s.segOf m) ((s.ea m).toNat + 2)) :=
  readPointer_ok.2 ⟨check_ok_iff_fits.2 h, rfl⟩

end

/-! Operands: what reading and writing them raises. -/

section
variable {s : State} {e : Exc}

theorem readRm8_raises {rm : RM8} (h : ReadExc8 s rm e) : s.readRm8 rm = raise e := by
  obtain ⟨m, rfl, h⟩ := h
  exact lread8_eq_raise.2 h

theorem readRm16_raises {rm : RM16} (h : ReadExc16 s rm e) : s.readRm16 rm = raise e := by
  obtain ⟨m, rfl, h⟩ := h
  exact lread16_eq_raise.2 h

theorem readRm8_of_readable {rm : RM8} (h : Readable8 s rm) : s.readRm8 rm = .ok (value8 s rm) := by
  cases rm with
  | reg r => rfl
  | mem m => exact lread8_of_fits h

theorem readRm16_of_readable {rm : RM16} (h : Readable16 s rm) : s.readRm16 rm = .ok (value16 s rm) := by
  cases rm with
  | reg r => rfl
  | mem m => exact lread16_of_fits h

/-- What can be read and not written can be read. -/
theorem readRm8_of_writeExc {rm : RM8} (h : WriteExc8 s rm e) : s.readRm8 rm = .ok (value8 s rm) := by
  obtain ⟨m, rfl, hread, -⟩ := h
  exact lread8_of_fits hread

theorem readRm16_of_writeExc {rm : RM16} (h : WriteExc16 s rm e) : s.readRm16 rm = .ok (value16 s rm) := by
  obtain ⟨m, rfl, hread, -⟩ := h
  exact lread16_of_fits hread

theorem writeRm8_raises {rm : RM8} (h : WriteExc8 s rm e) (v : Byte) : s.writeRm8 rm v = raise e := by
  obtain ⟨m, rfl, -, h⟩ := h
  exact lwrite8_eq_raise.2 h

theorem writeRm16_raises {rm : RM16} (h : WriteExc16 s rm e) (v : Word) : s.writeRm16 rm v = raise e := by
  obtain ⟨m, rfl, -, h⟩ := h
  exact lwrite16_eq_raise.2 h

theorem checkRm8_raises {rm : RM8} (h : WriteExc8 s rm e) : s.checkRm8 rm = raise e := by
  obtain ⟨m, rfl, -, h⟩ := h
  exact check_eq_raise.2 h

theorem checkRm16_raises {rm : RM16} (h : WriteExc16 s rm e) : s.checkRm16 rm = raise e := by
  obtain ⟨m, rfl, -, h⟩ := h
  exact check_eq_raise.2 h

end

/-! What an instruction that raises, or completes, leaves. The meaning `f` of an instruction is found by unification once
its arm of `exec` is opened: `(exec.eq_def ..).trans rfl`. -/

section
variable {i : Instr} {s u : State} {e : Exc} {f : State → Res State}

theorem raises_of_plain (hrep : NoRep s) (hexec : exec i s = plain s f) (hf : f s.begin = raise e) : Raises i s e :=
  hexec.trans (plain_error hrep hf)

theorem raises_of_transfer (hrep : NoRep s) (hexec : exec i s = transfer s f) (hf : f s.begin = raise e) :
    Raises i s e :=
  hexec.trans (transfer_error hrep hf)

/-- `u` differs from `s` in registers, flags and memory at most. -/
def OnlyData (s u : State) : Prop := u = { s with regs := u.regs, flags := u.flags, mem := u.mem }

theorem OnlyData.refl (s : State) : OnlyData s s := rfl

/-- Without a shadow the trap is due where TF was 1 (60_exceptions.md R432). -/
theorem completed_advance (hip : u.ipNext = s.ipNext) (hshadow : u.shadow = .none) :
    s.completed u.advance = after s u s.ipNext := by
  simp [State.completed, State.advance, after, hip, hshadow]

theorem exec_of_plain (hrep : NoRep s) (hexec : exec i s = plain s f) (hf : f s.begin = .ok u)
    (hip : u.ipNext = s.ipNext) (hshadow : u.shadow = .none) : exec i s = .next (after s u s.ipNext) := by
  rw [hexec, plain_ok hrep hf, completed_advance hip hshadow]

/-- The same, with the boundary passed in `u` as `State.begin` passes it. -/
theorem exec_of_plain_begin (hrep : NoRep s) (hexec : exec i s = plain s f) (hf : f s.begin = .ok u.begin)
    (hip : u.ipNext = s.ipNext) : exec i s = .next (after s u s.ipNext) :=
  exec_of_plain (u := u.begin) hrep hexec hf hip rfl

/-- An instruction that changes data only ends in the state of its meaning. -/
theorem ended_of_plain (hrep : NoRep s) (hexec : exec i s = plain s f) (hf : f s.begin = .ok u)
    (hu : OnlyData s.begin u) : exec i s = .next (after s u s.ipNext) ∧ Ended s (after s u s.ipNext) := by
  obtain ⟨regs, flags, mem, rfl⟩ : ∃ regs flags mem, u = { s.begin with regs := regs, flags := flags, mem := mem } :=
    ⟨_, _, _, hu⟩
  exact ⟨exec_of_plain hrep hexec hf rfl rfl, rfl⟩

end

/-! Registers. -/

section
variable {s u : State}

theorem OnlyData.setReg16 (h : OnlyData s u) (r : Reg16) (v : Word) : OnlyData s (u.setReg16 r v) := by
  obtain ⟨regs, flags, mem, rfl⟩ : ∃ regs flags mem, u = { s with regs := regs, flags := flags, mem := mem } :=
    ⟨_, _, _, h⟩
  cases r <;> rfl

theorem OnlyData.setReg8 (h : OnlyData s u) (r : Reg8) (v : Byte) : OnlyData s (u.setReg8 r v) := h.setReg16 ..

theorem reg16_congr (h : u.regs = s.regs) (r : Reg16) : u.reg16 r = s.reg16 r := by
  simp only [State.reg16, h]

theorem reg8_congr (h : u.regs = s.regs) (r : Reg8) : u.reg8 r = s.reg8 r := by
  simp only [State.reg8, reg16_congr h]

@[simp] theorem setReg8_sp (r : Reg8) (v : Byte) : (s.setReg8 r v).regs.sp = s.regs.sp := by cases r <;> rfl
@[simp] theorem setReg8_bp (r : Reg8) (v : Byte) : (s.setReg8 r v).regs.bp = s.regs.bp := by cases r <;> rfl
@[simp] theorem setReg8_si (r : Reg8) (v : Byte) : (s.setReg8 r v).regs.si = s.regs.si := by cases r <;> rfl
@[simp] theorem setReg8_di (r : Reg8) (v : Byte) : (s.setReg8 r v).regs.di = s.regs.di := by cases r <;> rfl

theorem regWord_setReg16 (h : u.regs = s.regs) (r : Reg16) (v : Word) : RegWord s (u.setReg16 r v) r v :=
  ⟨reg16_setReg16 .., fun q hq => (reg16_setReg16_ne u v hq).trans (reg16_congr h q)⟩

theorem regByte_setReg8 (h : u.regs = s.regs) (r : Reg8) (v : Byte) : RegByte s (u.setReg8 r v) r v :=
  ⟨reg8_setReg8 .., fun q hq => (reg8_setReg8_ne u v hq).trans (reg8_congr h q),
    by simp [h], by simp [h], by simp [h], by simp [h]⟩

theorem memSame_of_mem (hmem : u.mem = s.mem) : MemSame s u := by
  intro p
  simp only [State.physByte, Config.region, hmem]

end

/-! Operands written. -/

section
variable {s : State}

/-- Past its check a write puts the value there. -/
theorem writeRm8_of_writable {rm : RM8} (h : Writable8 s rm) (v : Byte) :
    ∃ u, s.writeRm8 rm v = .ok u ∧ OnlyData s u ∧ u.flags = s.flags ∧ Put8 s u rm v := by
  cases rm with
  | reg r =>
    exact ⟨_, rfl, (OnlyData.refl s).setReg8 .., setReg8_flags .., regByte_setReg8 rfl ..,
      memSame_of_mem (setReg8_mem ..)⟩
  | mem m => exact ⟨_, lwrite8_ok.2 ⟨check_ok_iff_fits.2 h, rfl⟩, rfl, rfl, rfl, write8_storedByte ..⟩

theorem writeRm16_of_writable {rm : RM16} (h : Writable16 s rm) (v : Word) :
    ∃ u, s.writeRm16 rm v = .ok u ∧ OnlyData s u ∧ u.flags = s.flags ∧ Put16 s u rm v := by
  cases rm with
  | reg r =>
    exact ⟨_, rfl, (OnlyData.refl s).setReg16 .., setReg16_flags .., regWord_setReg16 rfl ..,
      memSame_of_mem (setReg16_mem ..)⟩
  | mem m => exact ⟨_, lwrite16_ok.2 ⟨check_ok_iff_fits.2 h, rfl⟩, rfl, rfl, rfl, write16_storedWord ..⟩

theorem controlKept_refl (f : Flags) : ControlKept f f := ⟨rfl, rfl, rfl, rfl, rfl⟩

/-- An instruction whose meaning is the write of a byte operand. -/
theorem replaces8_of_write {i : Instr} {f : State → Res State} {rm : RM8} {v : Byte} (hrep : NoRep s)
    (hexec : exec i s = plain s f) (hf : f s.begin = s.begin.writeRm8 rm v) (h : Writable8 s rm) :
    Replaces8 i s rm v (· = s.flags) := by
  obtain ⟨u, hu, hdata, hflags, hput⟩ := writeRm8_of_writable (s := s.begin) h v
  obtain ⟨hnext, hended⟩ := ended_of_plain hrep hexec (hf.trans hu) hdata
  have hkept : ControlKept s.flags u.flags := hflags ▸ controlKept_refl _
  exact ⟨_, hnext, hended, hput, hflags, hkept⟩

/-- An instruction whose meaning is the write of a word operand. -/
theorem replaces16_of_write {i : Instr} {f : State → Res State} {rm : RM16} {v : Word} (hrep : NoRep s)
    (hexec : exec i s = plain s f) (hf : f s.begin = s.begin.writeRm16 rm v) (h : Writable16 s rm) :
    Replaces16 i s rm v (· = s.flags) := by
  obtain ⟨u, hu, hdata, hflags, hput⟩ := writeRm16_of_writable (s := s.begin) h v
  obtain ⟨hnext, hended⟩ := ended_of_plain hrep hexec (hf.trans hu) hdata
  have hkept : ControlKept s.flags u.flags := hflags ▸ controlKept_refl _
  exact ⟨_, hnext, hended, hput, hflags, hkept⟩

end

end Sys2Proof.Proofs

/-! PROOFS. Statements of 40_data_transfer.md: MOV (R161, R162), PUSH and POP (R164 to R166, R182, R183), XCHG and NOP (R168,
R169), IN and OUT (R170, R171), XLAT, LEA, LAHF and SAHF (R172, R173, R180, R181). -/
namespace Sys2Proof.Proofs
open Sys2Proof Sys2Proof.Machine Sys2Proof.Claims

/-! MOV and XCHG. -/

/-- Settles O28: each form writes its destination with a source that is read first. -/
theorem movForms : Obligations.MovForms := by
  refine ⟨fun s rm r v hrep => ⟨?_, ?_, fun hread => ?_, ?_⟩,
    fun s rm r v g hrep => ⟨?_, ?_, ?_, fun hread => ?_, ?_⟩,
    fun s off hrep => ⟨fun hread => ?_, fun hread => ?_, ?_, ?_⟩⟩
  · exact replaces8_of_write hrep ((exec.eq_def ..).trans rfl) rfl
  · exact replaces8_of_write hrep ((exec.eq_def ..).trans rfl) rfl
  · exact replaces8_of_write hrep ((exec.eq_def ..).trans rfl) (ok_bind (readRm8_of_readable (s := s.begin) hread)) trivial
  · exact replaces8_of_write hrep ((exec.eq_def ..).trans rfl) rfl trivial
  · exact replaces16_of_write hrep ((exec.eq_def ..).trans rfl) rfl
  · exact replaces16_of_write hrep ((exec.eq_def ..).trans rfl) rfl
  · exact replaces16_of_write hrep ((exec.eq_def ..).trans rfl) rfl
  · exact replaces16_of_write hrep ((exec.eq_def ..).trans rfl) (ok_bind (readRm16_of_readable (s := s.begin) hread)) trivial
  · exact replaces16_of_write hrep ((exec.eq_def ..).trans rfl) rfl trivial
  · exact replaces8_of_write hrep ((exec.eq_def ..).trans rfl) (ok_bind (lread8_of_fits (s := s.begin) hread)) trivial
  · exact replaces16_of_write hrep ((exec.eq_def ..).trans rfl) (ok_bind (lread16_of_fits (s := s.begin) hread)) trivial
  · exact replaces8_of_write hrep ((exec.eq_def ..).trans rfl) rfl
  · exact replaces16_of_write hrep ((exec.eq_def ..).trans rfl) rfl

section
variable (s : State)

/-- Two registers with their values swapped: `r`, written last, has that of `q`, and so has `q` that of `r` even where they are
one register. -/
theorem reg8_swap (q r : Reg8) :
    ((s.setReg8 q (s.reg8 r)).setReg8 r (s.reg8 q)).reg8 q = s.reg8 r := by
  by_cases hqr : q = r
  · subst hqr
    exact reg8_setReg8 ..
  · rw [reg8_setReg8_ne _ _ hqr, reg8_setReg8]

theorem reg16_swap (q r : Reg16) :
    ((s.setReg16 q (s.reg16 r)).setReg16 r (s.reg16 q)).reg16 q = s.reg16 r := by
  by_cases hqr : q = r
  · subst hqr
    exact reg16_setReg16 ..
  · rw [reg16_setReg16_ne _ _ hqr, reg16_setReg16]

/-- What a swap of word registers by `i` leaves. -/
theorem swaps_of_plain {s : State} {i : Instr} {f : State → Res State} {q r : Reg16} (hrep : NoRep s)
    (hexec : exec i s = plain s f)
    (hf : f s.begin = .ok ((s.begin.setReg16 q (s.reg16 r)).setReg16 r (s.reg16 q))) :
    ∃ t, exec i s = .next t ∧ Ended s t ∧ t.flags = s.flags ∧ MemSame s t ∧ t.reg16 q = s.reg16 r ∧
      t.reg16 r = s.reg16 q ∧ ∀ p, p ≠ q → p ≠ r → t.reg16 p = s.reg16 p := by
  obtain ⟨hnext, hended⟩ := ended_of_plain hrep hexec hf (((OnlyData.refl _).setReg16 ..).setReg16 ..)
  refine ⟨_, hnext, hended, ?_, memSame_of_mem ?_, reg16_swap s.begin q r, reg16_setReg16 .., fun p hq hr => ?_⟩
  · exact (setReg16_flags ..).trans (setReg16_flags ..)
  · exact (setReg16_mem ..).trans (setReg16_mem ..)
  · exact (reg16_setReg16_ne _ _ hr).trans (reg16_setReg16_ne _ _ hq)

end

theorem xchg_reg8 (s : State) (q r : Reg8) (hrep : NoRep s) :
    ∃ t, exec (.xchgRm8R8 (.reg q) r) s = .next t ∧ Ended s t ∧ t.flags = s.flags ∧
      MemSame s t ∧ t.reg8 q = s.reg8 r ∧ t.reg8 r = s.reg8 q ∧ (∀ p, p ≠ q → p ≠ r → t.reg8 p = s.reg8 p) ∧
      t.regs.sp = s.regs.sp ∧ t.regs.bp = s.regs.bp ∧ t.regs.si = s.regs.si ∧ t.regs.di = s.regs.di := by
  obtain ⟨hnext, hended⟩ := ended_of_plain (i := .xchgRm8R8 (.reg q) r) (s := s) hrep ((exec.eq_def ..).trans rfl) rfl
    (((OnlyData.refl _).setReg8 ..).setReg8 ..)
  refine ⟨_, hnext, hended, ?_, memSame_of_mem ?_, reg8_swap s.begin q r, reg8_setReg8 .., fun p hq hr => ?_, ?_⟩
  · exact (setReg8_flags ..).trans (setReg8_flags ..)
  · exact (setReg8_mem ..).trans (setReg8_mem ..)
  · exact (reg8_setReg8_ne _ _ hr).trans (reg8_setReg8_ne _ _ hq)
  · simp [after]

/-- The memory operand is written before the register, with what the register held. -/
theorem xchg_mem8 (s : State) (m : Mem) (r : Reg8) (hrep : NoRep s) (hw : Writable8 s (.mem m)) :
    ∃ t, exec (.xchgRm8R8 (.mem m) r) s = .next t ∧ Ended s t ∧ t.flags = s.flags ∧
      RegByte s t r (value8 s (.mem m)) ∧ StoredByte s t (s.segOf m) (s.ea m).toNat (s.reg8 r) := by
  have hcheck := check_ok_iff_fits (code := 0).2 hw
  have hread : s.begin.readRm8 (.mem m) = .ok (value8 s (.mem m)) :=
    lread8_of_fits (check_ok_iff_fits.1 (check_read_of_write (code' := 0) hcheck))
  obtain ⟨u, hu, hdata, hflags, hregs, hput⟩ := writeRm8_of_writable (s := s.begin) (rm := .mem m) hw (s.reg8 r)
  obtain ⟨hnext, hended⟩ := ended_of_plain (i := .xchgRm8R8 (.mem m) r) hrep ((exec.eq_def ..).trans rfl)
    ((ok_bind hread).trans (ok_bind hu)) (hdata.setReg8 ..)
  obtain ⟨hcell, hrest⟩ := hput
  have hmem : MemSame u (u.setReg8 r (value8 s (.mem m))) := memSame_of_mem (setReg8_mem ..)
  exact ⟨_, hnext, hended, (setReg8_flags ..).trans hflags, regByte_setReg8 hregs .., (hmem _).trans hcell,
    fun p hp => (hmem p).trans (hrest p hp)⟩

theorem xchg_mem16 (s : State) (m : Mem) (r : Reg16) (hrep : NoRep s) (hw : Writable16 s (.mem m)) :
    ∃ t, exec (.xchgRm16R16 (.mem m) r) s = .next t ∧ Ended s t ∧ t.flags = s.flags ∧
      RegWord s t r (value16 s (.mem m)) ∧ StoredWord s t (s.segOf m) (s.ea m).toNat (s.reg16 r) := by
  have hcheck := check_ok_iff_fits (code := 0).2 hw
  have hread : s.begin.readRm16 (.mem m) = .ok (value16 s (.mem m)) :=
    lread16_of_fits (check_ok_iff_fits.1 (check_read_of_write (code' := 0) hcheck))
  obtain ⟨u, hu, hdata, hflags, hregs, hput⟩ := writeRm16_of_writable (s := s.begin) (rm := .mem m) hw (s.reg16 r)
  obtain ⟨hnext, hended⟩ := ended_of_plain (i := .xchgRm16R16 (.mem m) r) hrep ((exec.eq_def ..).trans rfl)
    ((ok_bind hread).trans (ok_bind hu)) (hdata.setReg16 ..)
  obtain ⟨hlow, hhigh, hrest⟩ := hput
  have hmem : MemSame u (u.setReg16 r (value16 s (.mem m))) := memSame_of_mem (setReg16_mem ..)
  exact ⟨_, hnext, hended, (setReg16_flags ..).trans hflags, regWord_setReg16 hregs .., (hmem _).trans hlow,
    (hmem _).trans hhigh, fun p h0 h1 => (hmem p).trans (hrest p h0 h1)⟩

/-- Settles O29: both operands are read before either is written. -/
theorem xchgNop : Obligations.XchgNop :=
  ⟨xchg_reg8, xchg_mem8, fun _ _ _ hrep => swaps_of_plain hrep ((exec.eq_def ..).trans rfl) rfl, xchg_mem16,
    fun _ _ hrep => swaps_of_plain (q := .ax) hrep ((exec.eq_def ..).trans rfl) rfl,
    fun _ hrep => exec_of_plain_begin hrep ((exec.eq_def ..).trans rfl) rfl rfl⟩

/-! PUSH. -/

section
variable {s : State} {v : Word} {e : Exc}

theorem push_of_fits (h : PushFits s) (v : Word) :
    ∃ u, s.push 0 v = .ok u ∧ OnlyData s u ∧ u.flags = s.flags ∧ Pushed s u v :=
  ⟨_, push_ok.2 ⟨check_ok_iff_fits.2 h, rfl⟩, rfl, rfl, rfl, write16_storedWord ..⟩

theorem push_eq_raise : s.push 0 v = raise e ↔ ¬PushFits s ∧ AccessExc s .ss true e := by
  simp only [State.push, bind_eq_raise, check_eq_raise]
  exact or_iff_left fun ⟨_, _, h⟩ => nomatch h

/-- The forms of PUSH differ in the word alone, which is read before SP moves. -/
theorem exec_of_pushesWord {i : Instr} (h : PushesWord s i v) :
    ∃ f, exec i s = plain s f ∧ f s.begin = s.begin.push 0 v := by
  rcases h with ⟨r, rfl, rfl⟩ | ⟨rm, rfl, hread, rfl⟩ | rfl | ⟨b, rfl, rfl⟩ | ⟨rfl, rfl⟩ |
    ⟨rfl, rfl⟩ | ⟨rfl, rfl⟩ | ⟨rfl, rfl⟩ | ⟨rfl, rfl⟩
  case inr.inl => exact ⟨_, (exec.eq_def ..).trans rfl, ok_bind (readRm16_of_readable (s := s.begin) hread)⟩
  all_goals exact ⟨_, (exec.eq_def ..).trans rfl, rfl⟩

end

/-- Settles O30: each form pushes its word, and the check of the push decides. -/
theorem pushForms : Obligations.PushForms := by
  intro s i v hrep hpushes
  obtain ⟨f, hexec, hf⟩ := exec_of_pushesWord hpushes
  refine ⟨fun hfits => ?_, fun hfits e he => ?_⟩
  · obtain ⟨u, hu, hdata, hflags, hpushed⟩ := push_of_fits (s := s.begin) hfits v
    obtain ⟨hnext, hended⟩ := ended_of_plain hrep hexec (hf.trans hu) hdata
    exact ⟨_, hnext, hended, hflags, hpushed⟩
  · exact raises_of_plain hrep hexec (hf.trans (push_eq_raise.2 ⟨hfits, he⟩))

/-! POP. -/

section
variable {s : State} {e : Exc}

/-- `s` with SP moved past the word at the top of the stack. -/
def popped (s : State) : State := { s with regs := { s.regs with sp := s.regs.sp + 2 } }

theorem pop_of_fits (h : PopFits s) : s.pop = .ok (top s, popped s) := pop_ok.2 ⟨lread16_of_fits h, rfl⟩

theorem pop_raises (h : ¬PopFits s) (he : AccessExc s .ss false e) : s.pop = raise e :=
  bind_raise (lread16_eq_raise.2 ⟨h, he⟩)

theorem popped_reg16 {q : Reg16} (h : q ≠ .sp) : (popped s).reg16 q = s.reg16 q :=
  reg16_setReg16_ne s (r := .sp) _ h

/-- A POP into a register: SP is moved before the register, which may be SP, is written. -/
theorem pops_into_reg16 {i : Instr} {f : State → Res State} {r : Reg16} (hrep : NoRep s) (hexec : exec i s = plain s f)
    (hf : f s.begin = .ok ((popped s.begin).setReg16 r (top s))) :
    ∃ t, exec i s = .next t ∧ Ended s t ∧ t.flags = s.flags ∧ MemSame s t ∧ t.reg16 r = top s ∧
      (r ≠ .sp → t.regs.sp = s.regs.sp + 2) ∧ ∀ q, q ≠ r → q ≠ .sp → t.reg16 q = s.reg16 q := by
  have hdata : OnlyData s.begin (popped s.begin) := rfl
  obtain ⟨hnext, hended⟩ := ended_of_plain hrep hexec hf (hdata.setReg16 ..)
  refine ⟨_, hnext, hended, setReg16_flags .., memSame_of_mem (setReg16_mem ..), reg16_setReg16 .., fun hr => ?_,
    fun q hq hsp => ?_⟩
  · exact reg16_setReg16_ne (popped s.begin) (q := .sp) _ (Ne.symm hr)
  · exact (reg16_setReg16_ne _ _ hq).trans (popped_reg16 hsp)

/-- No base register of an address is SP, so the operand is where it was before the POP. -/
theorem popRm16_mem_completes {m : Mem} (hrep : NoRep s) (hpop : PopFits s) (hw : Writable16 s (.mem m)) :
    ∃ t, exec (.popRm16 (.mem m)) s = .next t ∧ Ended s t ∧ t.flags = s.flags ∧
      t.regs = { s.regs with sp := s.regs.sp + 2 } ∧ StoredWord s t (s.segOf m) (s.ea m).toNat (top s) := by
  obtain ⟨u, hu, hdata, hflags, hregs, hput⟩ := writeRm16_of_writable (s := popped s.begin) (rm := .mem m) hw (top s)
  obtain ⟨hnext, hended⟩ := ended_of_plain (i := .popRm16 (.mem m)) hrep ((exec.eq_def ..).trans rfl)
    ((ok_bind (pop_of_fits (s := s.begin) hpop)).trans hu) hdata
  exact ⟨_, hnext, hended, hflags, hregs, hput⟩

theorem popRm16_mem_raises {m : Mem} (hrep : NoRep s) (hpop : PopFits s) (hw : ¬Writable16 s (.mem m))
    (he : AccessExc s (s.segOf m) true e) : Raises (.popRm16 (.mem m)) s e :=
  raises_of_plain hrep ((exec.eq_def ..).trans rfl) ((ok_bind (pop_of_fits (s := s.begin) hpop)).trans
    (lwrite16_eq_raise (s := popped s.begin).2 ⟨hw, he⟩))

/-- What POPF loads, field by field (40_data_transfer.md R183). -/
theorem popf_completes (hrep : NoRep s) (hpop : PopFits s) :
    ∃ t, exec .popf s = .next t ∧ Ended s t ∧ MemSame s t ∧ t.regs = { s.regs with sp := s.regs.sp + 2 } ∧
      t.flags = loadFlags s.msw.pe s.cpl s.flags (top s) := by
  obtain ⟨hnext, hended⟩ := ended_of_plain (i := .popf) (u :=
    { popped s.begin with flags := loadFlags s.msw.pe s.cpl s.flags (top s) }) hrep ((exec.eq_def ..).trans rfl)
    (ok_bind (pop_of_fits (s := s.begin) hpop)) rfl
  exact ⟨_, hnext, hended, memSame_of_mem rfl, rfl, rfl⟩

theorem loadFlags_ifl (pe : Bool) (cpl : Level) (old : Flags) (w : Word) :
    (loadFlags pe cpl old w).ifl = if pe = true ∧ old.iopl < cpl then old.ifl else w.getLsbD 9 := by
  simp [loadFlags, flagsOfWord]

theorem loadFlags_iopl (pe : Bool) (cpl : Level) (old : Flags) (w : Word) :
    (loadFlags pe cpl old w).iopl = if pe = false then 0 else if cpl = 0 then w.extractLsb' 12 2 else old.iopl := by
  cases pe <;> rfl

theorem popSeg_raises (r : SReg) (h : ¬PopFits s) (he : AccessExc s .ss false e) : s.popSeg r = raise e :=
  bind_raise (lread16_eq_raise.2 ⟨h, he⟩)

end

/-- Settles O31: each form pops first, and a memory operand is checked as it is written. -/
theorem popForms : Obligations.PopForms := by
  intro s hrep
  refine ⟨fun hpop => ⟨fun r => ?_, fun r => ?_, fun m hw => popRm16_mem_completes hrep hpop hw,
    fun m e hw he => popRm16_mem_raises hrep hpop hw he, ?_⟩, fun hpop e he => ?_⟩
  · exact pops_into_reg16 hrep ((exec.eq_def ..).trans rfl) (ok_bind (pop_of_fits (s := s.begin) hpop))
  · exact pops_into_reg16 hrep ((exec.eq_def ..).trans rfl) (ok_bind (pop_of_fits (s := s.begin) hpop))
  · obtain ⟨t, hnext, hended, hmem, hregs, hflags⟩ := popf_completes hrep hpop
    refine ⟨t, hnext, hended, hmem, hregs, ?_⟩
    rw [hflags, loadFlags_ifl, loadFlags_iopl]
    exact ⟨rfl, rfl, rfl, rfl, rfl, rfl, rfl, rfl, rfl, rfl, rfl⟩
  · have hraises : s.begin.pop = raise e := pop_raises hpop he
    refine ⟨fun r => ?_, fun rm => ?_, ?_, ?_, ?_, ?_⟩
    iterate 3 exact raises_of_plain hrep ((exec.eq_def ..).trans rfl) (bind_raise hraises)
    iterate 3 exact raises_of_plain hrep ((exec.eq_def ..).trans rfl) (popSeg_raises _ hpop he)

/-! LAHF, SAHF, LEA and XLAT. -/

/-- The low byte of the flags word: the status flags but OF at their bits (10_state.md R25). -/
theorem loByte_flagsWord_bits (f : Flags) :
    (List.range 8).map (loByte (flagsWord f)).getLsbD = [f.cf, true, f.pf, false, f.af, false, f.zf, f.sf] := by
  have hlow : ∀ i < 8, (loByte (flagsWord f)).getLsbD i = (flagsWord f).getLsbD i := fun i hi => by
    simp [loByte, hi]
  calc (List.range 8).map (loByte (flagsWord f)).getLsbD
      = (List.range 8).map (flagsWord f).getLsbD := List.map_congr_left fun i hi => hlow i (List.mem_range.1 hi)
    _ = ((List.range 16).map (flagsWord f).getLsbD).take 8 := by rw [← List.map_take]; rfl
    _ = _ := by rw [flagsWord_bits]; rfl

theorem lahf_completes {s : State} (hrep : NoRep s) :
    ∃ t, exec .lahf s = .next t ∧ Ended s t ∧ t.flags = s.flags ∧ MemSame s t ∧ RegByte s t .ah (t.reg8 .ah) ∧
      (List.range 8).map (t.reg8 .ah).getLsbD =
        [s.flags.cf, true, s.flags.pf, false, s.flags.af, false, s.flags.zf, s.flags.sf] := by
  obtain ⟨t, hnext, hended, ⟨hreg, hmem⟩, hflags, -⟩ :=
    replaces8_of_write (i := .lahf) (rm := .reg .ah) (v := loByte (flagsWord s.flags)) hrep
      ((exec.eq_def ..).trans rfl) rfl trivial
  obtain ⟨hah, -⟩ := id hreg
  refine ⟨t, hnext, hended, hflags, hmem, hah.symm ▸ hreg, ?_⟩
  rw [hah]
  exact loByte_flagsWord_bits s.flags

/-- Settles O32: LAHF, LEA and XLAT write one register, SAHF five flags. -/
theorem flagAndAddressTransfers : Obligations.FlagAndAddressTransfers := by
  intro s hrep
  refine ⟨lahf_completes hrep, ?_, fun r m => ?_, fun hfits => ?_, fun hfits e he => ?_⟩
  · have hbit {i : Nat} (hi : i < 8) : (wordOf (s.reg8 .ah) 0).getLsbD i = (s.reg8 .ah).getLsbD i := by
      rw [getLsbD_wordOf, if_pos hi]
    rw [← hbit (i := 7) (by decide), ← hbit (i := 6) (by decide), ← hbit (i := 4) (by decide),
      ← hbit (i := 2) (by decide), ← hbit (i := 0) (by decide)]
    exact exec_of_plain_begin hrep ((exec.eq_def ..).trans rfl) rfl rfl
  · exact replaces16_of_write hrep ((exec.eq_def ..).trans rfl) rfl trivial
  · exact replaces8_of_write hrep ((exec.eq_def ..).trans rfl) (ok_bind (lread8_of_fits (s := s.begin) hfits)) trivial
  · exact raises_of_plain hrep ((exec.eq_def ..).trans rfl) (bind_raise (lread8_eq_raise (s := s.begin).2 ⟨hfits, he⟩))

/-! IN and OUT. -/

section
variable {s : State} {α : Type}

theorem require_trusted_bind {e : Exc} {f : Unit → Res α} (h : s.msw.pe = false ∨ s.cpl ≤ s.flags.iopl) :
    (require s.trusted e >>= f) = f () := require_bind (trusted_iff.2 h)

theorem require_trusted_raises {e : Exc} {f : Unit → Res α} (hpe : s.msw.pe = true) (hcpl : s.flags.iopl < s.cpl) :
    (require s.trusted e >>= f) = raise e := by
  have huntrusted : s.trusted = false := by simp [State.trusted, hpe, hcpl]
  exact bind_raise (require_eq_raise.2 ⟨huntrusted, rfl⟩)

theorem wrapsPort_iff : s.wrapsPort = true ↔ s.trusted = true ∧ s.regs.dx = 0xFFFF := by
  simp [State.wrapsPort]

end

/-- Settles O33: past the privilege the port is read or written, but for a word at FFFF. -/
theorem inOut : Obligations.InOut := by
  intro s p hrep
  refine ⟨fun htrusted => ?_, fun hpe hcpl => ?_⟩
  · have hport {f : Unit → Res State} : (require s.begin.trusted (.generalProtection 0) >>= f) = f () :=
      require_trusted_bind (s := s.begin) htrusted
    refine ⟨?_, ?_, ?_, ?_, ?_, ?_, fun hdx => ?_, fun hdx => ?_⟩
    · exact replaces8_of_write hrep ((exec.eq_def ..).trans rfl) hport trivial
    · exact replaces16_of_write hrep ((exec.eq_def ..).trans rfl) hport trivial
    · exact replaces8_of_write hrep ((exec.eq_def ..).trans rfl) hport trivial
    · exact exec_of_plain_begin hrep ((exec.eq_def ..).trans rfl) hport rfl
    · exact exec_of_plain_begin hrep ((exec.eq_def ..).trans rfl) hport rfl
    · exact exec_of_plain_begin hrep ((exec.eq_def ..).trans rfl) hport rfl
    · have hwraps : ¬s.wrapsPort = true := fun h => hdx (wrapsPort_iff.1 h).2
      exact ⟨replaces16_of_write hrep (if_neg hwraps) hport trivial, exec_of_plain_begin hrep (if_neg hwraps) hport rfl⟩
    · have hwraps : s.wrapsPort = true := wrapsPort_iff.2 ⟨trusted_iff.2 htrusted, hdx⟩
      exact ⟨if_pos hwraps, if_pos hwraps⟩
  · have hraise {f : Unit → Res State} :
        (require s.begin.trusted (.generalProtection 0) >>= f) = raise (.generalProtection 0) :=
      require_trusted_raises (s := s.begin) hpe hcpl
    have hwraps : ¬s.wrapsPort = true := by
      simp [wrapsPort_iff, State.trusted, hpe, hcpl]
    simp only [List.forall_mem_cons, List.not_mem_nil, IsEmpty.forall_iff, implies_true, and_true]
    and_intros
    iterate 3 exact raises_of_plain hrep ((exec.eq_def ..).trans rfl) hraise
    · exact raises_of_plain hrep (if_neg hwraps) hraise
    iterate 3 exact raises_of_plain hrep ((exec.eq_def ..).trans rfl) hraise
    · exact raises_of_plain hrep (if_neg hwraps) hraise

end Sys2Proof.Proofs

/-! PROOFS. The loads of segment registers (20_memory.md R94 to R97; 40_data_transfer.md R163, R167, R178, R179). -/
namespace Sys2Proof.Proofs
open Sys2Proof Sys2Proof.Machine Sys2Proof.Claims

/-! What a load changes. -/

section
variable {s u : State} {r : SReg} {v : Word}

/-- `u` is `s` with `r` loaded, but for memory, where the Accessed bit may be set. -/
def SegOnly (s u : State) (r : SReg) : Prop := u = { s.setSeg r (u.seg r) with mem := u.mem }

theorem segOnly_setSeg (g : SegReg) : SegOnly s (s.setSeg r g) r := by
  cases r <;> rfl

theorem markAccessed_frame (d : Desc) : s.markAccessed d = { s with mem := (s.markAccessed d).mem } := by
  unfold State.markAccessed
  split <;> rfl

theorem segOnly_markAccessed (d : Desc) (g : SegReg) : SegOnly s ((s.markAccessed d).setSeg r g) r := by
  rw [markAccessed_frame d]
  cases r <;> rfl

/-- A load that completes has loaded its register and nothing else. -/
theorem segOnly_of_loadSeg (h : s.loadSeg r v = .ok u) : SegOnly s u r := by
  unfold State.loadSeg at h
  split at h
  next => cases h
  split at h
  next =>
    split at h
    next hr =>
      obtain ⟨-, d, -, -, -, -, -, rfl⟩ := loadSs_ok.1 h
      exact hr ▸ segOnly_markAccessed ..
    next =>
      rcases loadDataSeg_ok.1 h with ⟨-, rfl⟩ | ⟨-, d, -, -, -, -, -, rfl⟩
      · exact segOnly_setSeg _
      · exact segOnly_markAccessed ..
  next =>
    cases h
    exact segOnly_setSeg _

/-- What MOV, POP, LDS and LES make of a load that left `u`: `regs` in the general registers, and a shadow after SS. -/
def loaded (u : State) (r : SReg) (regs : Gprs) : State :=
  { u with regs := regs, shadow := if r = .ss then .ss else .none }

/-- The trap is not due where the shadow of SS is open (log 25). -/
theorem segLoaded_completed {regs : Gprs} (hu : SegOnly s.begin u r) :
    SegLoaded s (s.completed (loaded u r regs).advance) r (u.seg r) regs := by
  obtain ⟨g, mem, rfl⟩ : ∃ g mem, u = { s.begin.setSeg r g with mem := mem } := ⟨_, _, hu⟩
  cases r <;> simp [SegLoaded, State.completed, State.advance, after, loaded, State.setSeg, State.seg]

theorem loadSegShadow_of_loadSeg (hu : s.begin.loadSeg r v = .ok u) :
    s.begin.loadSegShadow r v = .ok (loaded u r s.regs) := by
  refine (ok_bind hu).trans (congrArg Except.ok ?_)
  obtain ⟨g, mem, rfl⟩ : ∃ g mem, u = { s.begin.setSeg r g with mem := mem } := ⟨_, _, segOnly_of_loadSeg hu⟩
  cases r <;> rfl

theorem movSreg_completes {rm : RM16} (hrep : NoRep s) (hr : r ≠ .cs) (hread : Readable16 s rm)
    (hu : s.begin.loadSeg r (value16 s rm) = .ok u) :
    ∃ t, exec (.movSregRm16 r rm) s = .next t ∧ t.mem = u.mem ∧ SegLoaded s t r (u.seg r) s.regs := by
  have hok : (do
      require (decide (r ≠ SReg.cs)) .invalidOpcode
      let v ← s.begin.readRm16 rm
      s.begin.loadSegShadow r v) = .ok (loaded u r s.regs) :=
    (require_bind (decide_eq_true hr)).trans ((ok_bind (readRm16_of_readable (s := s.begin) hread)).trans
      (loadSegShadow_of_loadSeg hu))
  exact ⟨_, ((exec.eq_def ..).trans rfl).trans (plain_ok hrep hok), rfl, segLoaded_completed (segOnly_of_loadSeg hu)⟩

theorem movSreg_raises {rm : RM16} {e : Exc} (hrep : NoRep s) (hr : r ≠ .cs) (hread : Readable16 s rm)
    (hu : s.begin.loadSeg r (value16 s rm) = raise e) : Raises (.movSregRm16 r rm) s e :=
  raises_of_plain hrep ((exec.eq_def ..).trans rfl) ((require_bind (decide_eq_true hr)).trans
    ((ok_bind (readRm16_of_readable (s := s.begin) hread)).trans (bind_raise hu)))

end

/-! POP into a segment register. -/

/-- The instructions that pop a segment register (40_data_transfer.md R167). -/
def PopsSeg (i : Instr) (r : SReg) : Prop := (i = .popEs ∧ r = .es) ∨ (i = .popSs ∧ r = .ss) ∨ (i = .popDs ∧ r = .ds)

/-- LDS and LES (40_data_transfer.md R178, R179). -/
def LoadsPointer (i : Instr) (q : Reg16) (m : Mem) (r : SReg) : Prop :=
  (i = .lds q m ∧ r = .ds) ∨ (i = .les q m ∧ r = .es)

section
variable {s u : State} {i : Instr} {r : SReg} {e : Exc}

theorem exec_of_popsSeg (h : PopsSeg i r) : exec i s = plain s (State.popSeg · r) := by
  rcases h with ⟨rfl, rfl⟩ | ⟨rfl, rfl⟩ | ⟨rfl, rfl⟩ <;> rfl

theorem popSeg_completes (hrep : NoRep s) (hi : PopsSeg i r) (hpop : PopFits s) (hu : s.begin.loadSeg r (top s) = .ok u) :
    ∃ t, exec i s = .next t ∧ t.mem = u.mem ∧ SegLoaded s t r (u.seg r) { s.regs with sp := s.regs.sp + 2 } := by
  have hread : s.begin.lread16 .ss s.regs.sp = .ok (top s) := lread16_of_fits hpop
  have hok : s.begin.popSeg r = .ok (loaded u r { s.regs with sp := s.regs.sp + 2 }) :=
    (ok_bind hread).trans (ok_bind (loadSegShadow_of_loadSeg hu))
  exact ⟨_, (exec_of_popsSeg hi).trans (plain_ok hrep hok), rfl, segLoaded_completed (segOnly_of_loadSeg hu)⟩

theorem popSeg_load_raises (hrep : NoRep s) (hi : PopsSeg i r) (hpop : PopFits s)
    (hu : s.begin.loadSeg r (top s) = raise e) : Raises i s e := by
  have hread : s.begin.lread16 .ss s.regs.sp = .ok (top s) := lread16_of_fits hpop
  exact raises_of_plain hrep (exec_of_popsSeg hi) ((ok_bind hread).trans (bind_raise (bind_raise hu)))

/-! LDS and LES. -/

variable {q : Reg16} {m : Mem}

/-- The selector is loaded before the register. -/
def loadPointer (q : Reg16) (m : Mem) (r : SReg) (s : State) : Res State := do
  let p ← s.readPointer m
  let t ← s.loadSeg r p.2
  pure (t.setReg16 q p.1)

theorem exec_of_loadsPointer (h : LoadsPointer i q m r) : exec i s = plain s (loadPointer q m r) := by
  rcases h with ⟨rfl, rfl⟩ | ⟨rfl, rfl⟩ <;> rfl

theorem loaded_setReg16 (hr : r ≠ .ss) (hu : SegOnly s.begin u r) (v : Word) :
    u.setReg16 q v = loaded u r (s.setReg16 q v).regs := by
  obtain ⟨g, mem, rfl⟩ : ∃ g mem, u = { s.begin.setSeg r g with mem := mem } := ⟨_, _, hu⟩
  unfold loaded
  rw [if_neg hr]
  cases q <;> cases r <;> rfl

theorem loadPointer_completes (hrep : NoRep s) (hi : LoadsPointer i q m r)
    (hfits : Fits s (s.segOf m) (s.ea m).toNat 4 false)
    (hu : s.begin.loadSeg r (wordAt s (s.segOf m) ((s.ea m).toNat + 2)) = .ok u) :
    ∃ t, exec i s = .next t ∧ t.mem = u.mem ∧
      SegLoaded s t r (u.seg r) (s.setReg16 q (wordAt s (s.segOf m) (s.ea m).toNat)).regs := by
  have hr : r ≠ .ss := by rcases hi with ⟨-, rfl⟩ | ⟨-, rfl⟩ <;> decide
  have hseg := segOnly_of_loadSeg hu
  have hok : loadPointer q m r s.begin =
      .ok (loaded u r (s.setReg16 q (wordAt s (s.segOf m) (s.ea m).toNat)).regs) :=
    (ok_bind (readPointer_of_fits (s := s.begin) hfits)).trans
      ((ok_bind hu).trans (congrArg Except.ok (loaded_setReg16 hr hseg _)))
  exact ⟨_, (exec_of_loadsPointer hi).trans (plain_ok hrep hok), rfl, segLoaded_completed hseg⟩

theorem loadPointer_raises (hrep : NoRep s) (hi : LoadsPointer i q m r)
    (hfits : Fits s (s.segOf m) (s.ea m).toNat 4 false)
    (hu : s.begin.loadSeg r (wordAt s (s.segOf m) ((s.ea m).toNat + 2)) = raise e) : Raises i s e :=
  raises_of_plain hrep (exec_of_loadsPointer hi) ((ok_bind (readPointer_of_fits (s := s.begin) hfits)).trans
    (bind_raise hu))

theorem readPointer_raises (hrep : NoRep s) (hi : LoadsPointer i q m r)
    (hfits : ¬Fits s (s.segOf m) (s.ea m).toNat 4 false) (he : AccessExc s (s.segOf m) false e) : Raises i s e :=
  raises_of_plain hrep (exec_of_loadsPointer hi) (bind_raise (readPointer_eq_raise (s := s.begin).2 ⟨hfits, he⟩))

end

/-- Settles O36: POP and the pointer loads run the load of MOV on the word they have read. -/
theorem popAndPointerLoads : Obligations.PopAndPointerLoads := fun _ hrep _ =>
  ⟨fun hpop _ _ hi => ⟨fun _ hu => popSeg_completes hrep hi hpop hu, fun _ hu => popSeg_load_raises hrep hi hpop hu⟩,
    fun _ _ _ _ hi hfits =>
      ⟨fun _ hu => loadPointer_completes hrep hi hfits hu, fun _ hu => loadPointer_raises hrep hi hfits hu⟩⟩

/-! Real Address Mode (10_state.md R41). -/

section
variable {s : State} {r : SReg}

theorem loadSeg_real (hpe : s.msw.pe = false) (hr : r ≠ .cs) (v : Word) :
    s.begin.loadSeg r v = .ok (s.begin.setSeg r (realLoad v)) := by
  simp [State.loadSeg, hpe, hr]

/-- Sixteen times a word is below 2^24. -/
theorem realSeg_realLoad (v : Word) : RealSeg (realLoad v) v := by
  have hword := v.isLt
  refine ⟨rfl, ?_, rfl, rfl⟩
  simp only [realLoad, realSegment, BitVec.toNat_ofNat]
  omega

theorem fits_real {off n : Nat} (hpe : s.msw.pe = false) : Fits s r off n false ↔ off + n ≤ 0x10000 := by
  simp [Fits, Within, hpe]

/-- A load in Real Address Mode, whatever instruction makes it. -/
theorem real_of_completes {i : Instr} {v : Word} {regs : Gprs} (h : ∃ t, exec i s = .next t ∧
      t.mem = (s.begin.setSeg r (realLoad v)).mem ∧
      SegLoaded s t r ((s.begin.setSeg r (realLoad v)).seg r) regs) :
    ∃ t g, exec i s = .next t ∧ RealSeg g v ∧ SegLoaded s t r g regs ∧ MemSame s t := by
  obtain ⟨t, hnext, hmem, hload⟩ := h
  rw [seg_setSeg] at hload
  exact ⟨t, _, hnext, realSeg_realLoad v, hload, memSame_of_mem (hmem.trans (setSeg_mem ..))⟩

end

/-- Settles O34: no load of Real Address Mode fails, so each instruction completes where its word can be read. -/
theorem segmentLoadsReal : Obligations.SegmentLoadsReal := by
  intro s hrep hpe
  refine ⟨fun r rm hr hread => real_of_completes (movSreg_completes hrep hr hread (loadSeg_real hpe hr _)),
    fun hpop i r hi => ?_, fun q m i r hi => ⟨fun hend => ?_, fun hend e he => ?_⟩, fun rm => ?_⟩
  · have hr : r ≠ .cs := by rcases hi with ⟨-, rfl⟩ | ⟨-, rfl⟩ | ⟨-, rfl⟩ <;> decide
    exact real_of_completes (popSeg_completes hrep hi hpop (loadSeg_real hpe hr _))
  · have hr : r ≠ .cs := by rcases hi with ⟨-, rfl⟩ | ⟨-, rfl⟩ <;> decide
    exact real_of_completes (loadPointer_completes hrep hi ((fits_real hpe).2 hend) (loadSeg_real hpe hr _))
  · exact readPointer_raises hrep hi (fun hfits => absurd ((fits_real hpe).1 hfits) (Nat.not_le.2 hend)) he
  · exact raises_of_plain hrep ((exec.eq_def ..).trans rfl) (bind_raise rfl)

/-! Protected Mode (20_memory.md R94 to R96). -/

section
variable {s : State} {sel : Word} {d : Desc}

/-- The null selectors are 0 to 3 (10_state.md R42). -/
theorem selNull_iff : selNull sel = true ↔ sel.toNat < 4 := by
  have hword := sel.isLt
  simp only [selNull, decide_eq_true_eq, ← BitVec.toNat_inj, BitVec.extractLsb'_toNat, BitVec.ofNat_eq_ofNat,
    BitVec.toNat_ofNat, Nat.shiftRight_eq_div_pow]
  omega

theorem selNull_of_le (h : 4 ≤ sel.toNat) : selNull sel = false := by
  rw [← Bool.not_eq_true, selNull_iff]
  omega

theorem lvlMax_le {a b c : Level} : lvlMax a b ≤ c ↔ a ≤ c ∧ b ≤ c := by
  unfold lvlMax
  split <;> constructor <;> bv_omega

/-- What a load from the descriptor `d` does: it completes as `u`, or raises `bad` where the checks of its kind and privilege
fail, or else `absent` where its segment is not present. -/
structure LoadOutcome (m : Res State) (allowed : Prop) (d : Desc) (u : State) (bad absent : Exc) : Prop where
  completes : allowed → arPresent d.ar = true → m = .ok u
  forbidden : ¬allowed → m = raise bad
  absent : allowed → arPresent d.ar = false → m = raise absent

theorem loadOutcome_of_eq {m : Res State} {allowed : Prop} {b : Bool} {u : State} {bad absent : Exc}
    (hallowed : b = true ↔ allowed)
    (hm : m = (require b bad >>= fun _ => require (arPresent d.ar) absent >>= fun _ => pure u)) :
    LoadOutcome m allowed d u bad absent := by
  subst hm
  refine ⟨fun hb hp => ?_, fun hb => ?_, fun hb hp => ?_⟩
  · exact (require_bind (hallowed.2 hb)).trans (require_bind hp)
  · exact bind_raise (require_eq_raise.2 ⟨Bool.eq_false_iff.2 fun h => hb (hallowed.1 h), rfl⟩)
  · exact (require_bind (hallowed.2 hb)).trans (bind_raise (require_eq_raise.2 ⟨hp, rfl⟩))

/-- LoadDataSeg of a selector that names a descriptor (20_memory.md R95). -/
theorem loadDataSeg_outcome {r : SReg} (hnull : selNull sel = false) (hd : s.fetchDesc sel = some d) :
    LoadOutcome (s.loadDataSeg r sel) (DataLoadable s sel d) d ((s.markAccessed d).setSeg r (d.toSeg sel))
      (.generalProtection (selCode sel)) (.notPresent (selCode sel)) := by
  refine loadOutcome_of_eq (b := arSegment d.ar && (arReadable d.ar &&
    (arConforming d.ar || decide (lvlMax s.cpl (selRpl sel) ≤ arDpl d.ar)))) ?_ ?_
  · simp only [Bool.and_eq_true, Bool.or_eq_true, decide_eq_true_eq, lvlMax_le, DataLoadable]
  · rw [State.loadDataSeg, if_neg (by simp [hnull]), ok_bind (fetchOr_ok.2 hd), checkDataDesc, ← require_require,
      ← require_require]
    simp only [bind_assoc]

/-- LoadSS of a selector that names a descriptor (20_memory.md R96). -/
theorem loadSs_outcome (hnull : selNull sel = false) (hd : s.fetchDesc sel = some d) :
    LoadOutcome (s.loadSs sel) (StackLoadable s sel d) d ((s.markAccessed d).setSeg .ss (d.toSeg sel))
      (.generalProtection (selCode sel)) (.stackFault (selCode sel)) := by
  refine loadOutcome_of_eq (b := decide (selRpl sel = s.cpl) && (arWritable d.ar && decide (arDpl d.ar = s.cpl))) ?_ ?_
  · simp only [Bool.and_eq_true, decide_eq_true_eq, StackLoadable]
  · rw [State.loadSs, require_bind (by simp [hnull]), ok_bind (fetchOr_ok.2 hd), ← require_require, ← require_require]

theorem fetchOr_raises {e : Exc} (hd : s.fetchDesc sel = none) : s.fetchOr sel e = raise e := by
  rw [State.fetchOr, hd]

variable {t : State} {r : SReg} {rm : RM16}

theorem loadSeg_ss (hpe : s.msw.pe = true) : s.begin.loadSeg .ss sel = s.begin.loadSs sel := by
  simp [State.loadSeg, hpe]

theorem loadSeg_data (hpe : s.msw.pe = true) (hcs : r ≠ .cs) (hss : r ≠ .ss) :
    s.begin.loadSeg r sel = s.begin.loadDataSeg r sel := by
  simp [State.loadSeg, hpe, hcs, hss]

/-- A selector outside its table (20_memory.md R95, R96, R102). -/
theorem loadSeg_outside (hpe : s.msw.pe = true) (hcs : r ≠ .cs) (hnull : selNull sel = false)
    (hd : s.begin.fetchDesc sel = none) : s.begin.loadSeg r sel = raise (.generalProtection (selCode sel)) := by
  by_cases hss : r = .ss
  · subst hss
    rw [loadSeg_ss hpe, State.loadSs, require_bind (by simp [hnull])]
    exact bind_raise (fetchOr_raises hd)
  · rw [loadSeg_data hpe hcs hss, State.loadDataSeg, if_neg (by simp [hnull])]
    exact bind_raise (fetchOr_raises hd)

theorem accessedSet_of_mem (hmem : t.mem = (s.markAccessed d).mem) : AccessedSet s t d := by
  have hbyte (p : Nat) := (memSame_of_mem (s := s.markAccessed d) hmem p).trans (markAccessed_physByte s d p)
  exact ⟨(hbyte _).trans (if_pos rfl), fun p hp => (hbyte p).trans (if_neg hp)⟩

/-- MOV with a load of a known outcome. -/
theorem movSreg_outcome {allowed : Prop} {bad absent : Exc} (hrep : NoRep s) (hcs : r ≠ .cs) (hread : Readable16 s rm)
    (h : LoadOutcome (s.begin.loadSeg r (value16 s rm)) allowed d
      ((s.begin.markAccessed d).setSeg r (d.toSeg (value16 s rm))) bad absent) :
    (allowed → arPresent d.ar = true → ∃ t, exec (.movSregRm16 r rm) s = .next t ∧ AccessedSet s t d ∧
      SegLoaded s t r { sel := value16 s rm, base := d.base, limit := d.limit, ar := d.ar, valid := true } s.regs) ∧
    (¬allowed → Raises (.movSregRm16 r rm) s bad) ∧
    (allowed → arPresent d.ar = false → Raises (.movSregRm16 r rm) s absent) := by
  refine ⟨fun ha hp => ?_, fun ha => movSreg_raises hrep hcs hread (h.forbidden ha),
    fun ha hp => movSreg_raises hrep hcs hread (h.absent ha hp)⟩
  obtain ⟨t, hnext, hmem, hload⟩ := movSreg_completes hrep hcs hread (h.completes ha hp)
  rw [seg_setSeg] at hload
  exact ⟨t, hnext, accessedSet_of_mem (s := s.begin) (hmem.trans (setSeg_mem ..)), hload⟩

end

/-- Settles O35: the load is LoadSS for SS and LoadDataSeg else, and each answers by its null test, its table and its checks. -/
theorem segmentLoadsProtected : Obligations.SegmentLoadsProtected := by
  rintro s rm r hrep hpe hread hcs sel rfl
  refine ⟨fun hss hsel => ?_, fun hss hsel => ?_,
    fun hsel => ⟨fun hd => ?_, fun d hd => ⟨fun hss => ?_, fun hss => ?_⟩⟩⟩
  · have hu : s.begin.loadSeg r (value16 s rm) =
        .ok (s.begin.setSeg r { s.seg r with sel := value16 s rm, valid := false }) := by
      rw [loadSeg_data hpe hcs hss]
      exact loadDataSeg_ok.2 (.inl ⟨selNull_iff.2 hsel, rfl⟩)
    obtain ⟨t, hnext, hmem, hload⟩ := movSreg_completes hrep hcs hread hu
    rw [seg_setSeg] at hload
    exact ⟨t, hnext, memSame_of_mem (hmem.trans (setSeg_mem ..)), hload⟩
  · subst hss
    refine movSreg_raises hrep hcs hread ?_
    rw [loadSeg_ss hpe, State.loadSs]
    exact bind_raise (require_eq_raise.2 ⟨by simp [selNull_iff.2 hsel], rfl⟩)
  · exact movSreg_raises hrep hcs hread (loadSeg_outside hpe hcs (selNull_of_le hsel) hd)
  · refine movSreg_outcome hrep hcs hread ?_
    rw [loadSeg_data hpe hcs hss]
    exact loadDataSeg_outcome (selNull_of_le hsel) hd
  · subst hss
    refine movSreg_outcome hrep hcs hread ?_
    rw [loadSeg_ss hpe]
    exact loadSs_outcome (selNull_of_le hsel) hd

end Sys2Proof.Proofs

/-! PROOFS. Operands in memory that may not be read or written (20_memory.md R90 to R93; 40_data_transfer.md R160;
60_exceptions.md R424). -/
namespace Sys2Proof.Proofs
open Sys2Proof Sys2Proof.Machine Sys2Proof.Claims

/-! The two-operand instructions (41_arithmetic.md R200). -/

/-- The result and the flags of an operation. -/
def aluOp {n : Nat} : Alu → State → BitVec n → BitVec n → BitVec n × Flags
  | .add => addOp
  | .or => orOp
  | .adc => adcOp
  | .sbb => sbbOp
  | .and => andOp
  | .sub => subOp
  | .xor => xorOp
  | .cmp => subOp

/-- A byte source is read or is the immediate. -/
def readSrc8 (s : State) : RM8 ⊕ Byte → Res Byte
  | .inl rm => s.readRm8 rm
  | .inr v => .ok v

/-- A word source is read or is the immediate. -/
def readSrc16 (s : State) : RM16 ⊕ Word → Res Word
  | .inl rm => s.readRm16 rm
  | .inr v => .ok v

/-- The meaning of every byte form: the source is read before the destination, which CMP leaves alone. -/
def aluByte (m : Alu) (w : ByteForm) (s : State) : Res State := do
  let b ← readSrc8 s w.src
  if m = .cmp then s.flagsRm8 w.dst fun a => aluOp m s a b else s.updRm8 w.dst fun a => aluOp m s a b

/-- The meaning of every word form. -/
def aluWord (m : Alu) (w : WordForm) (s : State) : Res State := do
  let b ← readSrc16 s w.src
  if m = .cmp then s.flagsRm16 w.dst fun a => aluOp m s a b else s.updRm16 w.dst fun a => aluOp m s a b

theorem exec_byte (m : Alu) (w : ByteForm) (s : State) : exec (m.byte w) s = plain s (aluByte m w) := by
  cases m <;> cases w <;> rfl

theorem exec_word (m : Alu) (w : WordForm) (s : State) : exec (m.word w) s = plain s (aluWord m w) := by
  cases m <;> cases w <;> rfl

section
variable {s : State} {e : Exc}

/-- At most one operand is in memory. -/
theorem readSrc8_of_dst_mem {w : ByteForm} {m : Mem} (h : w.dst = .mem m) (s : State) : ∃ b, readSrc8 s w.src = .ok b := by
  cases w with
  | rmR | accImm | rmImm | rmImmDup => exact ⟨_, rfl⟩
  | rRm => cases h

theorem readSrc16_of_dst_mem {w : WordForm} {m : Mem} (h : w.dst = .mem m) (s : State) :
    ∃ b, readSrc16 s w.src = .ok b := by
  cases w with
  | rmR | accImm | rmImm | rmImmSx => exact ⟨_, rfl⟩
  | rRm => cases h

theorem aluByte_src_raises {m : Alu} {w : ByteForm} {rm : RM8} (hsrc : w.src = .inl rm) (h : ReadExc8 s rm e) :
    aluByte m w s = raise e := by
  unfold aluByte
  rw [hsrc]
  exact bind_raise (readRm8_raises h)

theorem aluWord_src_raises {m : Alu} {w : WordForm} {rm : RM16} (hsrc : w.src = .inl rm) (h : ReadExc16 s rm e) :
    aluWord m w s = raise e := by
  unfold aluWord
  rw [hsrc]
  exact bind_raise (readRm16_raises h)

theorem aluByte_dst_raises {m : Alu} {w : ByteForm} (h : ReadExc8 s w.dst e) : aluByte m w s = raise e := by
  obtain ⟨p, hdst, -⟩ := id h
  obtain ⟨b, hb⟩ := readSrc8_of_dst_mem hdst s
  refine (ok_bind hb).trans ?_
  split
  · exact bind_raise (readRm8_raises h)
  · exact bind_raise (readRm8_raises h)

theorem aluWord_dst_raises {m : Alu} {w : WordForm} (h : ReadExc16 s w.dst e) : aluWord m w s = raise e := by
  obtain ⟨p, hdst, -⟩ := id h
  obtain ⟨b, hb⟩ := readSrc16_of_dst_mem hdst s
  refine (ok_bind hb).trans ?_
  split
  · exact bind_raise (readRm16_raises h)
  · exact bind_raise (readRm16_raises h)

theorem updRm8_write_raises {rm : RM8} (h : WriteExc8 s rm e) (op : Byte → Byte × Flags) :
    s.updRm8 rm op = raise e :=
  (ok_bind (readRm8_of_writeExc h)).trans (bind_raise (writeRm8_raises h _))

theorem updRm16_write_raises {rm : RM16} (h : WriteExc16 s rm e) (op : Word → Word × Flags) :
    s.updRm16 rm op = raise e :=
  (ok_bind (readRm16_of_writeExc h)).trans (bind_raise (writeRm16_raises h _))

theorem aluByte_write_raises {m : Alu} {w : ByteForm} (hm : m ≠ .cmp) (h : WriteExc8 s w.dst e) :
    aluByte m w s = raise e := by
  obtain ⟨p, hdst, -⟩ := id h
  obtain ⟨b, hb⟩ := readSrc8_of_dst_mem hdst s
  exact (ok_bind hb).trans ((if_neg hm).trans (updRm8_write_raises h _))

theorem aluWord_write_raises {m : Alu} {w : WordForm} (hm : m ≠ .cmp) (h : WriteExc16 s w.dst e) :
    aluWord m w s = raise e := by
  obtain ⟨p, hdst, -⟩ := id h
  obtain ⟨b, hb⟩ := readSrc16_of_dst_mem hdst s
  exact (ok_bind hb).trans ((if_neg hm).trans (updRm16_write_raises h _))

end

theorem twoOperandFaults : TwoOperandFaults := by
  refine ⟨fun m w s e hrep => ⟨fun rm hsrc h => ?_, fun h => ?_, fun hm h => ?_⟩,
    fun m w s e hrep => ⟨fun rm hsrc h => ?_, fun h => ?_, fun hm h => ?_⟩⟩
  · exact raises_of_plain hrep (exec_byte ..) (aluByte_src_raises (s := s.begin) hsrc h)
  · exact raises_of_plain hrep (exec_byte ..) (aluByte_dst_raises (s := s.begin) h)
  · exact raises_of_plain hrep (exec_byte ..) (aluByte_write_raises (s := s.begin) hm h)
  · exact raises_of_plain hrep (exec_word ..) (aluWord_src_raises (s := s.begin) hsrc h)
  · exact raises_of_plain hrep (exec_word ..) (aluWord_dst_raises (s := s.begin) h)
  · exact raises_of_plain hrep (exec_word ..) (aluWord_write_raises (s := s.begin) hm h)

/-! The shifts and rotates (42_logic_shift_rotate.md R246). -/

/-- The result and the flags of a shift or rotate. -/
def shiftOp {n : Nat} : Shift → State → BitVec n → Nat → BitVec n × Flags
  | .rol => rolOp
  | .ror => rorOp
  | .rcl => rclOp
  | .rcr => rcrOp
  | .shl => shlOp
  | .shr => shrOp
  | .sar => sarOp

/-- The count before its reduction to five bits. -/
def countByte (s : State) : Count → Byte
  | .imm v => v
  | .one => 1
  | .cl => s.reg8 .cl

theorem exec_shift_byte (op : Shift) (rm : RM8) (k : Count) (s : State) :
    exec (op.byte rm k) s = plain s fun u => u.shiftRm8 rm (countByte u k) (shiftOp op u) := by
  cases op <;> cases k <;> rfl

theorem exec_shift_word (op : Shift) (rm : RM16) (k : Count) (s : State) :
    exec (op.word rm k) s = plain s fun u => u.shiftRm16 rm (countByte u k) (shiftOp op u) := by
  cases op <;> cases k <;> rfl

/-! One operand: an instruction raises by how its meaning begins. -/

section
variable {i : Instr} {s : State} {e : Exc}

section
variable {rm : RM8} {f : State → Byte → Res State} {v : State → Byte → Byte}
  {g : State → Byte → State → Res State}

theorem raises_of_read8 (hrep : NoRep s) (h : ReadExc8 s rm e)
    (hexec : exec i s = plain s fun u => u.readRm8 rm >>= f u) : Raises i s e :=
  raises_of_plain hrep hexec (bind_raise (readRm8_raises (s := s.begin) h))

theorem raises_of_write8 (hrep : NoRep s) (h : WriteExc8 s rm e)
    (hexec : exec i s = plain s fun u => u.readRm8 rm >>= fun a => u.writeRm8 rm (v u a) >>= g u a) : Raises i s e :=
  raises_of_plain hrep hexec ((ok_bind (readRm8_of_writeExc (s := s.begin) h)).trans
    (bind_raise (writeRm8_raises (s := s.begin) h _)))

theorem raises_of_check8 {f : State → Byte → Unit → Res State} (hrep : NoRep s) (h : WriteExc8 s rm e)
    (hexec : exec i s = plain s fun u => u.readRm8 rm >>= fun a => u.checkRm8 rm >>= f u a) : Raises i s e :=
  raises_of_plain hrep hexec ((ok_bind (readRm8_of_writeExc (s := s.begin) h)).trans
    (bind_raise (checkRm8_raises (s := s.begin) h)))

theorem raises_of_store8 {m : Mem} {v : State → Byte} (hrep : NoRep s) (hw : ¬Writable8 s (.mem m))
    (he : AccessExc s (s.segOf m) true e) (hexec : exec i s = plain s fun u => u.writeRm8 (.mem m) (v u)) : Raises i s e :=
  raises_of_plain hrep hexec (lwrite8_eq_raise (s := s.begin).2 ⟨hw, he⟩)

end

section
variable {rm : RM16} {f : State → Word → Res State} {v : State → Word → Word}
  {g : State → Word → State → Res State}

theorem raises_of_read16 (hrep : NoRep s) (h : ReadExc16 s rm e)
    (hexec : exec i s = plain s fun u => u.readRm16 rm >>= f u) : Raises i s e :=
  raises_of_plain hrep hexec (bind_raise (readRm16_raises (s := s.begin) h))

theorem raises_of_read16_transfer (hrep : NoRep s) (h : ReadExc16 s rm e)
    (hexec : exec i s = transfer s fun u => u.readRm16 rm >>= f u) : Raises i s e :=
  raises_of_transfer hrep hexec (bind_raise (readRm16_raises (s := s.begin) h))

theorem raises_of_write16 (hrep : NoRep s) (h : WriteExc16 s rm e)
    (hexec : exec i s = plain s fun u => u.readRm16 rm >>= fun a => u.writeRm16 rm (v u a) >>= g u a) : Raises i s e :=
  raises_of_plain hrep hexec ((ok_bind (readRm16_of_writeExc (s := s.begin) h)).trans
    (bind_raise (writeRm16_raises (s := s.begin) h _)))

theorem raises_of_check16 {f : State → Word → Unit → Res State} (hrep : NoRep s) (h : WriteExc16 s rm e)
    (hexec : exec i s = plain s fun u => u.readRm16 rm >>= fun a => u.checkRm16 rm >>= f u a) : Raises i s e :=
  raises_of_plain hrep hexec ((ok_bind (readRm16_of_writeExc (s := s.begin) h)).trans
    (bind_raise (checkRm16_raises (s := s.begin) h)))

theorem raises_of_store16 {m : Mem} {v : State → Word} (hrep : NoRep s) (hw : ¬Writable16 s (.mem m))
    (he : AccessExc s (s.segOf m) true e) (hexec : exec i s = plain s fun u => u.writeRm16 (.mem m) (v u)) : Raises i s e :=
  raises_of_plain hrep hexec (lwrite16_eq_raise (s := s.begin).2 ⟨hw, he⟩)

/-- A segment register but CS is loaded with a word read first. -/
theorem raises_of_movSreg {r : SReg} (hrep : NoRep s) (h : ReadExc16 s rm e) (hr : r ≠ .cs) :
    Raises (.movSregRm16 r rm) s e :=
  raises_of_plain hrep ((exec.eq_def ..).trans rfl) ((require_bind (decide_eq_true hr)).trans
    (bind_raise (readRm16_raises (s := s.begin) h)))

end

end

/-! The lists of instructions with one operand (40_data_transfer.md R160). -/

/-- INC, DEC, NEG, NOT and XCHG, and the shifts and rotates. -/
theorem forall_mem_byteChangers {P : Instr → Prop} {rm : RM8} {r : Reg8} {v : Byte}
    (hfive : ∀ i ∈ [Instr.incRm8 rm, .decRm8 rm, .negRm8 rm, .notRm8 rm, .xchgRm8R8 rm r], P i)
    (hshift : ∀ op k, P (Shift.byte rm op k)) : ∀ i ∈ byteChangers rm r v, P i := by
  have hlist : byteChangers rm r v = [.incRm8 rm, .decRm8 rm, .negRm8 rm, .notRm8 rm, .xchgRm8R8 rm r] ++
      [.rol, .ror, .rcl, .rcr, .shl, .shr, .sar].flatMap fun op => [.imm v, .one, .cl].map (Shift.byte rm op) := rfl
  rw [hlist]
  refine List.forall_mem_append.2 ⟨hfive, fun i hi => ?_⟩
  obtain ⟨op, -, hi⟩ := List.mem_flatMap.1 hi
  obtain ⟨k, -, rfl⟩ := List.mem_map.1 hi
  exact hshift op k

theorem forall_mem_wordChangers {P : Instr → Prop} {rm : RM16} {r : Reg16} {b : Byte}
    (hfive : ∀ i ∈ [Instr.incRm16 rm, .decRm16 rm, .negRm16 rm, .notRm16 rm, .xchgRm16R16 rm r], P i)
    (hshift : ∀ op k, P (Shift.word rm op k)) : ∀ i ∈ wordChangers rm r b, P i := by
  have hlist : wordChangers rm r b = [.incRm16 rm, .decRm16 rm, .negRm16 rm, .notRm16 rm, .xchgRm16R16 rm r] ++
      [.rol, .ror, .rcl, .rcr, .shl, .shr, .sar].flatMap fun op => [.imm b, .one, .cl].map (Shift.word rm op) := rfl
  rw [hlist]
  refine List.forall_mem_append.2 ⟨hfive, fun i hi => ?_⟩
  obtain ⟨op, -, hi⟩ := List.mem_flatMap.1 hi
  obtain ⟨k, -, rfl⟩ := List.mem_map.1 hi
  exact hshift op k

section
variable {s : State} {e : Exc} (hrep : NoRep s)
include hrep

theorem byteReaders_raise {rm : RM8} (r : Reg8) (v : Byte) (h : ReadExc8 s rm e) :
    ∀ i ∈ byteReaders rm r v, Raises i s e := by
  simp only [byteReaders, List.forall_mem_cons, List.not_mem_nil, IsEmpty.forall_iff, implies_true, and_true]
  and_intros
  all_goals exact raises_of_read8 hrep h ((exec.eq_def ..).trans rfl)

theorem byteChangers_read_raise {rm : RM8} (r : Reg8) (v : Byte) (h : ReadExc8 s rm e) :
    ∀ i ∈ byteChangers rm r v, Raises i s e := by
  refine forall_mem_byteChangers ?_ fun op k => raises_of_read8 hrep h (exec_shift_byte op rm k s)
  simp only [List.forall_mem_cons, List.not_mem_nil, IsEmpty.forall_iff, implies_true, and_true]
  and_intros
  all_goals exact raises_of_read8 hrep h ((exec.eq_def ..).trans rfl)

/-- INC, DEC, NEG, NOT and XCHG write what they have read; the shifts and rotates check the write first. -/
theorem byteChangers_write_raise {rm : RM8} (r : Reg8) (v : Byte) (h : WriteExc8 s rm e) :
    ∀ i ∈ byteChangers rm r v, Raises i s e := by
  refine forall_mem_byteChangers ?_ fun op k => raises_of_check8 hrep h (exec_shift_byte op rm k s)
  simp only [List.forall_mem_cons, List.not_mem_nil, IsEmpty.forall_iff, implies_true, and_true]
  and_intros
  all_goals exact raises_of_write8 hrep h ((exec.eq_def ..).trans rfl)

theorem byteWriters_raise {m : Mem} (r : Reg8) (v : Byte) (hw : ¬Writable8 s (.mem m))
    (he : AccessExc s (s.segOf m) true e) : ∀ i ∈ byteWriters (.mem m) r v, Raises i s e := by
  simp only [byteWriters, List.forall_mem_cons, List.not_mem_nil, IsEmpty.forall_iff, implies_true, and_true]
  exact ⟨raises_of_store8 hrep hw he ((exec.eq_def ..).trans rfl), raises_of_store8 hrep hw he ((exec.eq_def ..).trans rfl)⟩

/-- The loads of segment registers look at the register first, near CALL and JMP set IP. -/
theorem wordReaders_raise {rm : RM16} (r : Reg16) (v : Word) (b : Byte) (h : ReadExc16 s rm e) :
    ∀ i ∈ wordReaders rm r v b, Raises i s e := by
  simp only [wordReaders, List.forall_mem_cons, List.not_mem_nil, IsEmpty.forall_iff, implies_true, and_true]
  and_intros
  iterate 3 exact raises_of_read16 hrep h ((exec.eq_def ..).trans rfl)
  iterate 3 exact raises_of_movSreg hrep h (by decide)
  iterate 7 exact raises_of_read16 hrep h ((exec.eq_def ..).trans rfl)
  iterate 2 exact raises_of_read16_transfer hrep h ((exec.eq_def ..).trans rfl)

theorem wordChangers_read_raise {rm : RM16} (r : Reg16) (b : Byte) (h : ReadExc16 s rm e) :
    ∀ i ∈ wordChangers rm r b, Raises i s e := by
  refine forall_mem_wordChangers ?_ fun op k => raises_of_read16 hrep h (exec_shift_word op rm k s)
  simp only [List.forall_mem_cons, List.not_mem_nil, IsEmpty.forall_iff, implies_true, and_true]
  and_intros
  all_goals exact raises_of_read16 hrep h ((exec.eq_def ..).trans rfl)

theorem wordChangers_write_raise {rm : RM16} (r : Reg16) (b : Byte) (h : WriteExc16 s rm e) :
    ∀ i ∈ wordChangers rm r b, Raises i s e := by
  refine forall_mem_wordChangers ?_ fun op k => raises_of_check16 hrep h (exec_shift_word op rm k s)
  simp only [List.forall_mem_cons, List.not_mem_nil, IsEmpty.forall_iff, implies_true, and_true]
  and_intros
  all_goals exact raises_of_write16 hrep h ((exec.eq_def ..).trans rfl)

theorem wordWriters_raise {m : Mem} (r : Reg16) (sr : SReg) (v : Word) (hw : ¬Writable16 s (.mem m))
    (he : AccessExc s (s.segOf m) true e) : ∀ i ∈ wordWriters (.mem m) r sr v, Raises i s e := by
  simp only [wordWriters, List.forall_mem_cons, List.not_mem_nil, IsEmpty.forall_iff, implies_true, and_true]
  and_intros
  all_goals exact raises_of_store16 hrep hw he ((exec.eq_def ..).trans rfl)

end

theorem oneOperandFaults : OneOperandFaults := by
  refine ⟨fun s rm r v e hrep => ⟨fun h => ?_, byteChangers_write_raise hrep r v, ?_⟩,
    fun s rm r sr v b e hrep => ⟨fun h => ?_, wordChangers_write_raise hrep r b, ?_⟩⟩
  · exact List.forall_mem_append.2 ⟨byteReaders_raise hrep r v h, byteChangers_read_raise hrep r v h⟩
  · rintro m rfl hw he
    exact byteWriters_raise hrep r v hw he
  · exact List.forall_mem_append.2 ⟨wordReaders_raise hrep r v b h, wordChangers_read_raise hrep r b h⟩
  · rintro m rfl hw he
    exact wordWriters_raise hrep r sr v hw he

end Sys2Proof.Proofs

/-! PROOFS. Operands of the Protected Mode instructions, far pointers and string elements that may not be read or written
(43_string.md R271 to R277; 47_protected_mode.md R370 to R397), and the frames of ENTER, PUSHA and POPA (45_procedure.md
R341, R343, R344). -/
namespace Sys2Proof.Proofs
open Sys2Proof Sys2Proof.Machine Sys2Proof.Claims

/-! The Protected Mode instructions, each past its tests of mode and level. -/

section
variable {s : State} {e : Exc} {α : Type} {f : Unit → Res α}

theorem needsProtected_bind (hpe : s.msw.pe = true) : (s.needsProtected >>= f) = f () := require_bind hpe

theorem needsKernel_bind (h : s.msw.pe = false ∨ s.cpl = 0) : (s.needsKernel >>= f) = f () :=
  require_bind (by simpa [State.privileged] using h)

end

theorem systemOperandFaults : SystemOperandFaults := by
  intro s rm r e hrep
  have hread : ReadExc16 s rm e → s.begin.readRm16 rm = raise e := readRm16_raises
  refine ⟨fun hpe => ?_, fun hkernel h => raises_of_plain hrep ((exec.eq_def ..).trans rfl)
    ((needsKernel_bind (s := s.begin) hkernel).trans (bind_raise (hread h)))⟩
  have hprotected {α : Type} {f : Unit → Res α} : (s.begin.needsProtected >>= f) = f () := needsProtected_bind hpe
  refine ⟨fun h => ?_, fun h => ?_, ?_, fun hcpl h => ?_⟩
  · simp only [List.forall_mem_cons, List.not_mem_nil, IsEmpty.forall_iff, implies_true, and_true]
    and_intros
    all_goals exact raises_of_plain hrep ((exec.eq_def ..).trans rfl) (hprotected.trans (bind_raise (hread h)))
  · exact raises_of_plain hrep ((exec.eq_def ..).trans rfl) (hprotected.trans
      ((ok_bind (readRm16_of_writeExc (s := s.begin) h)).trans (bind_raise (checkRm16_raises (s := s.begin) h))))
  · rintro m rfl hw he
    have hwrite (v : Word) : s.begin.writeRm16 (.mem m) v = raise e := lwrite16_eq_raise.2 ⟨hw, he⟩
    simp only [List.forall_mem_cons, List.not_mem_nil, IsEmpty.forall_iff, implies_true, and_true]
    exact ⟨raises_of_plain hrep ((exec.eq_def ..).trans rfl) (hprotected.trans (hwrite _)),
      raises_of_plain hrep ((exec.eq_def ..).trans rfl) (hprotected.trans (hwrite _))⟩
  · have hkernel {α : Type} {f : Unit → Res α} : (s.begin.needsKernel >>= f) = f () := needsKernel_bind (.inr hcpl)
    simp only [List.forall_mem_cons, List.not_mem_nil, IsEmpty.forall_iff, implies_true, and_true]
    and_intros
    all_goals
      exact raises_of_plain hrep ((exec.eq_def ..).trans rfl) (hprotected.trans (hkernel.trans (bind_raise (hread h))))

/-! Far pointers, bounds, and the direct offsets of MOV. -/

theorem pointerAndOffsetFaults : PointerAndOffsetFaults := by
  refine ⟨fun s m r e hrep hfits he => ?_, fun s g off e hrep hg => ?_⟩
  · have hpointer : s.begin.readPointer m = raise e := readPointer_eq_raise.2 ⟨hfits, he⟩
    simp only [List.forall_mem_cons, List.not_mem_nil, IsEmpty.forall_iff, implies_true, and_true]
    and_intros
    iterate 3 exact raises_of_plain hrep ((exec.eq_def ..).trans rfl) (bind_raise hpointer)
    iterate 2 exact raises_of_transfer hrep ((exec.eq_def ..).trans rfl) (bind_raise hpointer)
  · subst hg
    refine ⟨fun he => ⟨fun hfits => ?_, fun hfits => ?_⟩, fun he => ⟨fun hfits => ?_, fun hfits => ?_⟩⟩
    · exact raises_of_plain hrep ((exec.eq_def ..).trans rfl) (bind_raise (lread8_eq_raise (s := s.begin).2 ⟨hfits, he⟩))
    · exact raises_of_plain hrep ((exec.eq_def ..).trans rfl) (bind_raise (lread16_eq_raise (s := s.begin).2 ⟨hfits, he⟩))
    · exact raises_of_plain hrep ((exec.eq_def ..).trans rfl) (lwrite8_eq_raise (s := s.begin).2 ⟨hfits, he⟩)
    · exact raises_of_plain hrep ((exec.eq_def ..).trans rfl) (lwrite16_eq_raise (s := s.begin).2 ⟨hfits, he⟩)

/-! The elements of string instructions. -/

/-- The instruction raises what the check `c` raises. -/
def RaisesAs (i : Instr) (c : State → Res Unit) : Prop :=
  ∀ (s : State) (e : Exc), NoRep s → c s.begin = raise e → Raises i s e

/-- The read of the element at DS:SI, or at the override's segment. -/
def sourceCheck (n : Nat) (s : State) : Res Unit := s.check (s.segOr .ds) s.regs.si.toNat n false 0

/-- The read, or the write, of the element at ES:DI. -/
def targetCheck (n : Nat) (write : Bool) (s : State) : Res Unit := s.check .es s.regs.di.toNat n write 0

/-- The source is checked before the target, and the I/O privilege before either. -/
theorem stringFaults_of_checks {n : Nat} {movs cmps scas lods stos ins outs : Instr}
    (hmovs : RaisesAs movs fun u => sourceCheck n u >>= fun _ => targetCheck n true u)
    (hcmps : RaisesAs cmps fun u => sourceCheck n u >>= fun _ => targetCheck n false u)
    (hscas : RaisesAs scas (targetCheck n false)) (hlods : RaisesAs lods (sourceCheck n))
    (hstos : RaisesAs stos (targetCheck n true)) (hins : RaisesAs ins (State.insCheck · n))
    (houts : RaisesAs outs (State.outsCheck · n)) : StringFaults n movs cmps scas lods stos ins outs := by
  rintro s g io hrep rfl rfl
  refine ⟨fun hfits e he => ?_, fun hfits e he => ?_, fun hfits e he => ?_⟩
  · have hsource : sourceCheck n s.begin = raise e := check_eq_raise.2 ⟨hfits, he⟩
    exact ⟨hmovs s e hrep (bind_raise hsource), hcmps s e hrep (bind_raise hsource), hlods s e hrep hsource,
      fun hio => houts s e hrep ((require_trusted_bind (s := s.begin) hio).trans hsource)⟩
  · have htarget : targetCheck n false s.begin = raise e := check_eq_raise.2 ⟨hfits, he⟩
    exact ⟨fun hsource => hcmps s e hrep ((ok_bind (check_ok_iff_fits.2 hsource)).trans htarget), hscas s e hrep htarget⟩
  · have htarget : targetCheck n true s.begin = raise e := check_eq_raise.2 ⟨hfits, he⟩
    exact ⟨fun hsource => hmovs s e hrep ((ok_bind (check_ok_iff_fits.2 hsource)).trans htarget),
      hstos s e hrep htarget, fun hio => hins s e hrep ((require_trusted_bind (s := s.begin) hio).trans htarget)⟩

/-- A string instruction, not repeated, whose element raises. -/
theorem raisesAs_of_element {i : Instr} {op : StringOp} {f : State → Res State} {c : State → Res Unit}
    (hexec : ∀ s, exec i s = stringInstr s op f) (hc : ∀ u e, c u = raise e → f u = raise e) : RaisesAs i c :=
  fun s _ hrep h => (hexec s).trans (stringInstr_error hrep (hc s.begin _ h))

/-- An element whose checks fail is not refused for port FFFF (log 16). -/
theorem raisesAs_of_ported {i : Instr} {op : StringOp} {f : State → Res State} {c : State → Res Unit}
    (hexec : ∀ s, exec i s = if s.stringWrapsPort (c s) then .refused .portWordWrap else stringInstr s op f)
    (hbegin : ∀ s, c s.begin = c s) (hc : ∀ u e, c u = raise e → f u = raise e) : RaisesAs i c := by
  intro s e hrep h
  have hwraps : ¬s.stringWrapsPort (c s) = true := by
    rw [← hbegin, h]
    simp [State.stringWrapsPort, raise]
  exact (hexec s).trans ((if_neg hwraps).trans (stringInstr_error hrep (hc s.begin _ h)))

/-- The target is looked at once the source has been read. -/
theorem element_raises {α : Type} {c c' : Res Unit} {v : α} {f : α → Res State} {e : Exc}
    (h : (c >>= fun _ => c') = raise e) (hf : c' = raise e → f v = raise e) :
    ((c >>= fun _ => pure v) >>= f) = raise e := by
  rcases bind_eq_raise.1 h with hsource | ⟨_, hsource, htarget⟩
  · exact bind_raise (bind_raise hsource)
  · have hread : (c >>= fun _ => (pure v : Res α)) = .ok v := ok_bind hsource
    exact (ok_bind hread).trans (hf htarget)

theorem stringFaults_bytes : StringFaults 1 .movsb .cmpsb .scasb .lodsb .stosb .insb .outsb := by
  refine stringFaults_of_checks ?_ ?_ ?_ ?_ ?_ ?_ ?_ <;> refine raisesAs_of_element (fun _ => (exec.eq_def ..).trans rfl) ?_
  · exact fun _ _ h => element_raises h fun htarget => bind_raise (bind_raise htarget)
  · exact fun _ _ h => element_raises h fun htarget => bind_raise (bind_raise htarget)
  · exact fun _ _ h => bind_raise (bind_raise h)
  · exact fun _ _ h => bind_raise (bind_raise h)
  · exact fun _ _ h => bind_raise (bind_raise h)
  · exact fun _ _ h => bind_raise h
  · exact fun _ _ h => bind_raise h

/-- Of the word elements INSW and OUTSW look at the port first. -/
theorem stringFaults_words : StringFaults 2 .movsw .cmpsw .scasw .lodsw .stosw .insw .outsw := by
  refine stringFaults_of_checks
    (raisesAs_of_element (fun _ => (exec.eq_def ..).trans rfl) ?_)
    (raisesAs_of_element (fun _ => (exec.eq_def ..).trans rfl) ?_)
    (raisesAs_of_element (fun _ => (exec.eq_def ..).trans rfl) ?_)
    (raisesAs_of_element (fun _ => (exec.eq_def ..).trans rfl) ?_)
    (raisesAs_of_element (fun _ => (exec.eq_def ..).trans rfl) ?_)
    (raisesAs_of_ported (fun _ => (exec.eq_def ..).trans rfl) (fun _ => rfl) ?_)
    (raisesAs_of_ported (fun _ => (exec.eq_def ..).trans rfl) (fun _ => rfl) ?_)
  · exact fun _ _ h => element_raises h fun htarget => bind_raise (bind_raise htarget)
  · exact fun _ _ h => element_raises h fun htarget => bind_raise (bind_raise htarget)
  · exact fun _ _ h => bind_raise (bind_raise h)
  · exact fun _ _ h => bind_raise (bind_raise h)
  · exact fun _ _ h => bind_raise (bind_raise h)
  · exact fun _ _ h => bind_raise h
  · exact fun _ _ h => bind_raise h

/-! The frames of ENTER, PUSHA and POPA: what completes has passed every check, and all that it can raise is one exception. -/

section
variable {s t : State} {e : Exc}

theorem sub_two_sub (x : Word) (n : Nat) : x - 2 - BitVec.ofNat 16 (2 * n) = x - BitVec.ofNat 16 (2 * (n + 1)) := by
  rw [show 2 * (n + 1) = 2 + 2 * n by ring, BitVec.ofNat_add, BitVec.sub_sub]
  rfl

theorem fits_of_push {code v : Word} (h : s.push code v = .ok t) : PushFits s := check_ok_iff_fits.1 (push_ok.1 h).1

theorem push_raisesOnly (v : Word) (he : AccessExc s .ss true e) : RaisesOnly e (s.push 0 v) :=
  (check_raisesOnly he).bind fun _ _ => raisesOnly_ok

theorem stackWord_raisesOnly (k : Nat) (he : AccessExc s .ss false e) : RaisesOnly e (s.stackWord k) :=
  (check_raisesOnly he).bind fun _ _ => raisesOnly_ok

theorem stackFits_of_stackWord {k : Nat} {v : Word} (h : s.stackWord k = .ok v) : StackFits s k :=
  check_ok_iff_fits.1 (lread16_ok.1 h).1

theorem pushAll_cons (code v : Word) (vs : List Word) :
    s.pushAll code (v :: vs) = s.push code v >>= fun u => u.pushAll code vs := by
  rw [State.pushAll]
  cases s.push code v <;> rfl

theorem pushAll_raisesOnly (vs : List Word) (he : AccessExc s .ss true e) : RaisesOnly e (s.pushAll 0 vs) := by
  induction vs generalizing s with
  | nil => exact raisesOnly_ok
  | cons v vs ih =>
    rw [pushAll_cons]
    refine (push_raisesOnly v he).bind fun u hu => ih ?_
    rw [push_frame hu]
    exact he

theorem fits_of_pushAll {code : Word} {vs : List Word} (h : s.pushAll code vs = .ok t) {k : Nat} (hk : k < vs.length) :
    Fits s .ss (s.regs.sp - BitVec.ofNat 16 (2 * (k + 1))).toNat 2 true := by
  induction vs generalizing s k with
  | nil => simp at hk
  | cons v vs ih =>
    rw [pushAll_cons] at h
    obtain ⟨u, hu, h⟩ := bind_ok.1 h
    cases k with
    | zero => exact fits_of_push hu
    | succ k =>
      have hfits := ih h (Nat.lt_of_succ_lt_succ hk)
      rw [push_frame hu, sub_two_sub] at hfits
      exact hfits

theorem copyDisplay_raisesOnly (n : Nat) (hread : AccessExc s .ss false e) (hwrite : AccessExc s .ss true e) :
    RaisesOnly e (s.copyDisplay n) := by
  induction n generalizing s with
  | zero => exact raisesOnly_ok
  | succ n ih =>
    refine RaisesOnly.bind ((check_raisesOnly hread).bind fun _ _ => raisesOnly_ok) fun v _ => ?_
    refine (push_raisesOnly (s := { s with regs := { s.regs with bp := s.regs.bp - 2 } }) v hwrite).bind fun u hu => ?_
    refine ih ?_ ?_ <;> rw [push_frame hu] <;> assumption

/-- A word of the display is read below BP and pushed, both pointers going down. -/
theorem copyDisplay_succ (n : Nat) : s.copyDisplay (n + 1) =
    s.lread16 .ss (s.regs.bp - 2) >>= fun v =>
      State.push { s with regs := { s.regs with bp := s.regs.bp - 2 } } 0 v >>= fun u => u.copyDisplay n := rfl

/-- ENTER has copied `n` words: SP is as many words lower, and each word could be read and pushed. -/
theorem fits_of_copyDisplay {n : Nat} (h : s.copyDisplay n = .ok t) :
    (t.msw = s.msw ∧ t.ss = s.ss ∧ t.regs.sp = s.regs.sp - BitVec.ofNat 16 (2 * n)) ∧ ∀ k < n,
      Fits s .ss (s.regs.bp - BitVec.ofNat 16 (2 * (k + 1))).toNat 2 false ∧
      Fits s .ss (s.regs.sp - BitVec.ofNat 16 (2 * (k + 1))).toNat 2 true := by
  induction n generalizing s with
  | zero =>
    cases h
    exact ⟨⟨rfl, rfl, by simp⟩, fun k hk => absurd hk (Nat.not_lt_zero k)⟩
  | succ n ih =>
    rw [copyDisplay_succ] at h
    obtain ⟨v, hv, h⟩ := bind_ok.1 h
    obtain ⟨u, hu, h⟩ := bind_ok.1 h
    obtain ⟨⟨hmsw, hss, hsp⟩, hfits⟩ := ih h
    have hframe := push_frame hu
    rw [hframe] at hmsw hss hsp hfits
    refine ⟨⟨hmsw, hss, hsp.trans (sub_two_sub ..)⟩, fun k hk => ?_⟩
    cases k with
    | zero => exact ⟨check_ok_iff_fits.1 (lread16_ok.1 hv).1,
      fits_of_push (s := { s with regs := { s.regs with bp := s.regs.bp - 2 } }) hu⟩
    | succ k =>
      obtain ⟨hread, hwrite⟩ := hfits k (Nat.lt_of_succ_lt_succ hk)
      rw [sub_two_sub] at hread hwrite
      exact ⟨hread, hwrite⟩

/-- What ENTER does after its first push, of BP. -/
def enterRest (t : State) (level : Nat) : Res State :=
  if level = 0 then pure t else t.copyDisplay (level - 1) >>= fun v => v.push 0 t.regs.sp

theorem enterFrame_eq (s : State) (size : Word) (level : Nat) : s.enterFrame size level =
    s.push 0 s.regs.bp >>= fun t => enterRest t level >>= fun u =>
      pure { u with regs := { u.regs with bp := t.regs.sp, sp := u.regs.sp - size } } := by
  unfold State.enterFrame enterRest
  refine congrArg _ (funext fun t => ?_)
  split <;> simp only [bind_assoc, pure_bind]

theorem enterRest_raisesOnly (level : Nat) (hread : AccessExc s .ss false e) (hwrite : AccessExc s .ss true e) :
    RaisesOnly e (enterRest s level) := by
  unfold enterRest
  split
  · exact raisesOnly_ok
  · refine (copyDisplay_raisesOnly _ hread hwrite).bind fun v hv => push_raisesOnly _ ?_
    obtain ⟨⟨hmsw, hss, -⟩, -⟩ := fits_of_copyDisplay hv
    exact (accessExc_congr (r := .ss) hmsw hss).2 hwrite

/-- The display words and, past them, the frame pointer. -/
theorem fits_of_enterRest {level : Nat} (h : enterRest s level = .ok t) :
    (∀ j < level, Fits s .ss (s.regs.sp - BitVec.ofNat 16 (2 * (j + 1))).toNat 2 true) ∧
      ∀ k, k + 1 < level → Fits s .ss (s.regs.bp - BitVec.ofNat 16 (2 * (k + 1))).toNat 2 false := by
  cases level with
  | zero => exact ⟨fun j hj => absurd hj (Nat.not_lt_zero j), fun k hk => absurd hk (Nat.not_lt_zero _)⟩
  | succ n =>
    obtain ⟨v, hv, hpush⟩ := bind_ok.1 h
    obtain ⟨⟨hmsw, hss, hsp⟩, hfits⟩ := fits_of_copyDisplay hv
    have hlast := (fits_congr (r := .ss) hmsw hss).1 (fits_of_push hpush)
    rw [hsp] at hlast
    refine ⟨fun j hj => ?_, fun k hk => (hfits k (Nat.lt_of_succ_lt_succ hk)).1⟩
    rcases Nat.lt_succ_iff_lt_or_eq.1 hj with hj | rfl
    · exact (hfits j hj).2
    · have hsub : s.regs.sp - BitVec.ofNat 16 (2 * j) - 2 = s.regs.sp - BitVec.ofNat 16 (2 * (j + 1)) := by
        rw [← sub_two_sub]
        bv_omega
      exact hsub ▸ hlast

/-- Where a first word could be pushed only the limits of the stack are left to check. -/
theorem accessExc_stack_of_pushFits (h : PushFits s) :
    AccessExc s .ss true (.stackFault 0) ∧ AccessExc s .ss false (.stackFault 0) := by
  obtain ⟨htype, -⟩ := h
  refine ⟨.inr ⟨htype, rfl⟩, .inr ⟨fun hpe => ?_, rfl⟩⟩
  obtain ⟨hvalid, -, hwritable⟩ := htype hpe
  exact ⟨hvalid, arReadable_of_arWritable hwritable⟩

theorem enterFrame_limit_raises {size : Word} {level : Nat} (hfirst : PushFits s)
    (h : (∃ j, j ≤ level ∧ ¬Fits s .ss (s.regs.sp - BitVec.ofNat 16 (2 * (j + 1))).toNat 2 true) ∨
      ∃ k, k + 1 < level ∧ ¬Fits s .ss (s.regs.bp - BitVec.ofNat 16 (2 * (k + 1))).toNat 2 false) :
    s.enterFrame size level = raise (.stackFault 0) := by
  obtain ⟨hwrite, hread⟩ := accessExc_stack_of_pushFits hfirst
  obtain ⟨u, hu, -⟩ := push_of_fits hfirst s.regs.bp
  have hframe := push_frame hu
  have honly : RaisesOnly (.stackFault 0) (enterRest u level) := by
    rw [hframe]
    exact enterRest_raisesOnly level hread hwrite
  rw [enterFrame_eq, ok_bind hu]
  refine bind_raise (honly.eq_raise fun v hv => ?_)
  obtain ⟨hpushes, hreads⟩ := fits_of_enterRest hv
  rw [hframe] at hpushes hreads
  rcases h with ⟨j, hj, hbad⟩ | ⟨k, hk, hbad⟩
  · cases j with
    | zero => exact hbad hfirst
    | succ j =>
      have hfits := hpushes j hj
      rw [sub_two_sub] at hfits
      exact hbad hfits
  · exact hbad (hreads k hk)

theorem popAllRegs_raisesOnly (he : AccessExc s .ss false e) : RaisesOnly e s.popAllRegs := by
  unfold State.popAllRegs
  iterate 8 refine (stackWord_raisesOnly _ he).bind fun _ _ => ?_
  exact raisesOnly_ok

theorem stackFits_of_popAllRegs (h : s.popAllRegs = .ok t) {k : Nat} (hk : k < 8) : StackFits s k := by
  simp only [State.popAllRegs, bind_ok] at h
  obtain ⟨_, h0, _, h1, _, h2, _, h3, _, h4, _, h5, _, h6, _, h7, -⟩ := h
  interval_cases k
  exacts [stackFits_of_stackWord h0, stackFits_of_stackWord h1, stackFits_of_stackWord h2, stackFits_of_stackWord h3,
    stackFits_of_stackWord h4, stackFits_of_stackWord h5, stackFits_of_stackWord h6, stackFits_of_stackWord h7]

end

/-- In Protected Mode PUSHA is not refused (log 16). -/
theorem pusha_raises {s : State} {e : Exc} (hrep : NoRep s) (hpe : s.msw.pe = true) (he : AccessExc s .ss true e) {k : Nat}
    (hk : k < 8) (h : ¬Fits s .ss (s.regs.sp - BitVec.ofNat 16 (2 * (k + 1))).toNat 2 true) : Raises .pusha s e := by
  have hstraddles : ¬s.straddles = true := by simp [State.straddles, hpe]
  exact raises_of_plain hrep (if_neg hstraddles) ((pushAll_raisesOnly (s := s.begin) _ he).eq_raise
    fun t ht => h (fits_of_pushAll (s := s.begin) ht hk))

theorem frameFaults : FrameFaults := by
  refine fun s hrep => ⟨fun size level => ⟨fun hfits e he => ?_, fun hfits h => ?_⟩, fun hpe ⟨k, hk, h⟩ e he => ?_,
    fun ⟨k, hk, h⟩ e he => ?_⟩
  · exact raises_of_plain hrep ((exec.eq_def ..).trans rfl) (bind_raise (push_eq_raise (s := s.begin).2 ⟨hfits, he⟩))
  · exact raises_of_plain hrep ((exec.eq_def ..).trans rfl) (enterFrame_limit_raises (s := s.begin) hfits h)
  · exact pusha_raises hrep hpe he hk h
  · exact raises_of_plain hrep ((exec.eq_def ..).trans rfl) ((popAllRegs_raisesOnly (s := s.begin) he).eq_raise
      fun t ht => h (stackFits_of_popAllRegs (s := s.begin) ht hk))

/-- Settles O20: each instruction reads or checks its operand before it changes anything. -/
theorem operandFaults : Obligations.OperandFaults :=
  ⟨twoOperandFaults, oneOperandFaults, systemOperandFaults, pointerAndOffsetFaults, stringFaults_bytes, stringFaults_words,
    frameFaults⟩

end Sys2Proof.Proofs

/-! PROOFS. The results and flags of the arithmetic operations (00_scope.md R16; 41_arithmetic.md R201 to R219). -/
namespace Sys2Proof.Proofs
open Sys2Proof Sys2Proof.Machine Sys2Proof.Claims

/-! SF, ZF and PF. -/

theorem parity8_iff {n : Nat} (r : BitVec n) : parity8 r = true ↔ EvenOnes r := by
  have hbits : ∀ b0 b1 b2 b3 b4 b5 b6 b7 : Bool, (!(b0 ^^ b1 ^^ b2 ^^ b3 ^^ b4 ^^ b5 ^^ b6 ^^ b7)) = true ↔
      [b0, b1, b2, b3, b4, b5, b6, b7].countP (fun b => b) % 2 = 0 := by decide
  have hcount := List.countP_map (p := fun b => b) (f := r.getLsbD) (l := List.range 8)
  rw [EvenOnes, parity8, hbits]
  exact Eq.congr_left (congrArg (· % 2) hcount)

theorem szp_setSzp {n : Nat} (f : Flags) (r : BitVec n) : Szp (setSzp f r) r :=
  ⟨rfl, decide_eq_true_iff, parity8_iff r⟩

/-! OF: the exact result leaves the signed range (00_scope.md R16). -/

section
variable {n : Nat}

theorem msb_iff_toInt_neg (x : BitVec n) : x.msb = true ↔ x.toInt < 0 := by
  rw [BitVec.msb_eq_toInt, decide_eq_true_eq]

theorem two_pow_eq_double (hn : 0 < n) : (2 : Int) ^ n = 2 * 2 ^ (n - 1) := by
  rw [← pow_succ', Nat.sub_add_cancel hn]

theorem signedOut_iff {x : Int} : signedOut n x = true ↔ x < -2 ^ (n - 1) ∨ 2 ^ (n - 1) ≤ x := by
  simp [signedOut]

/-- Out of the signed range means that the word cut from `x` is not `x`. -/
theorem signedOut_iff_toInt_ne (hn : 0 < n) {x : Int} : signedOut n x = true ↔ (BitVec.ofInt n x).toInt ≠ x := by
  rw [signedOut_iff]
  refine ⟨fun hout heq => ?_, fun hne => ?_⟩
  · have hlow := BitVec.le_toInt (BitVec.ofInt n x)
    have hhigh := BitVec.toInt_lt (x := BitVec.ofInt n x)
    omega
  · by_contra hin
    exact hne (BitVec.toInt_ofInt_eq_self hn (by omega) (by omega))

theorem ofInt_add_pow (x : Int) : BitVec.ofInt n (x + 2 ^ n) = BitVec.ofInt n x := by
  refine BitVec.eq_of_toInt_eq ?_
  have hpow : (2 ^ n : Int) = (2 ^ n : Nat) := by norm_cast
  rw [BitVec.toInt_ofInt, BitVec.toInt_ofInt, hpow, Int.add_bmod_right]

/-- Out of the signed range by one carry at most, the word cut from `x` has the other sign. -/
theorem signedOut_iff_sign (hn : 0 < n) {x : Int} (hlow : -2 ^ n ≤ x) (hhigh : x < 2 ^ n) :
    signedOut n x = true ↔ ((BitVec.ofInt n x).msb = true ↔ 0 ≤ x) := by
  have hpow := two_pow_eq_double hn
  have hpos : (0 : Int) < 2 ^ (n - 1) := by positivity
  have hsign : ∀ y : Int, -2 ^ (n - 1) ≤ y → y < 2 ^ (n - 1) → ((BitVec.ofInt n y).msb = true ↔ y < 0) := by
    intro y hy hy'
    rw [msb_iff_toInt_neg, BitVec.toInt_ofInt_eq_self hn hy hy']
  rw [signedOut_iff]
  rcases lt_or_ge x (-2 ^ (n - 1)) with hunder | hlow'
  · rw [← ofInt_add_pow x, hsign _ (by omega) (by omega)]
    omega
  rcases lt_or_ge x (2 ^ (n - 1)) with hhigh' | hover
  · rw [hsign _ hlow' hhigh']
    omega
  · have hback := ofInt_add_pow (n := n) (x - 2 ^ n)
    rw [sub_add_cancel] at hback
    rw [hback, hsign _ (by omega) (by omega)]
    omega

variable (a b : BitVec n) (c : Bool)

theorem ofInt_sum : BitVec.ofInt n (a.toInt + b.toInt + c.toNat) = a + b + BitVec.ofNat n c.toNat := by
  simp [BitVec.ofInt_add]

theorem ofInt_difference : BitVec.ofInt n (a.toInt - b.toInt - c.toNat) = a - b - BitVec.ofNat n c.toNat := by
  simp [Int.sub_eq_add_neg, BitVec.ofInt_add, BitVec.ofInt_neg, BitVec.sub_eq_add_neg]

/-- OF of a sum: the operands have one sign and the result has the other. -/
theorem signedOut_sum (hn : 0 < n) : signedOut n (a.toInt + b.toInt + c.toNat) = true ↔
    a.msb = b.msb ∧ (a + b + BitVec.ofNat n c.toNat).msb ≠ a.msb := by
  have hpow := two_pow_eq_double hn
  have ha := BitVec.le_toInt a
  have ha' := BitVec.toInt_lt (x := a)
  have hb := BitVec.le_toInt b
  have hb' := BitVec.toInt_lt (x := b)
  have hc := Bool.toNat_le c
  have hsign := signedOut_iff_sign hn (x := a.toInt + b.toInt + c.toNat) (by omega) (by omega)
  rw [ofInt_sum, signedOut_iff] at hsign
  rw [signedOut_iff, ne_eq, Bool.eq_iff_iff (b := b.msb), Bool.eq_iff_iff (b := a.msb),
    msb_iff_toInt_neg a, msb_iff_toInt_neg b]
  by_cases hr : (a + b + BitVec.ofNat n c.toNat).msb = true <;>
    simp only [hr, true_iff, Bool.false_eq_true, false_iff] at hsign ⊢ <;> omega

/-- OF of a difference: the operands have different signs and the result has not that of the first. -/
theorem signedOut_difference (hn : 0 < n) : signedOut n (a.toInt - b.toInt - c.toNat) = true ↔
    a.msb ≠ b.msb ∧ (a - b - BitVec.ofNat n c.toNat).msb ≠ a.msb := by
  have hpow := two_pow_eq_double hn
  have ha := BitVec.le_toInt a
  have ha' := BitVec.toInt_lt (x := a)
  have hb := BitVec.le_toInt b
  have hb' := BitVec.toInt_lt (x := b)
  have hc := Bool.toNat_le c
  have hsign := signedOut_iff_sign hn (x := a.toInt - b.toInt - c.toNat) (by omega) (by omega)
  rw [ofInt_difference, signedOut_iff] at hsign
  rw [signedOut_iff, ne_eq, ne_eq, Bool.eq_iff_iff (b := b.msb), Bool.eq_iff_iff (b := a.msb),
    msb_iff_toInt_neg a, msb_iff_toInt_neg b]
  by_cases hr : (a - b - BitVec.ofNat n c.toNat).msb = true <;>
    simp only [hr, true_iff, Bool.false_eq_true, false_iff] at hsign ⊢ <;> omega

variable (f : Flags)

theorem sumFlags_addFlags (hn : 0 < n) : SumFlags (addFlags f a b c) a b (a + b + BitVec.ofNat n c.toNat) c :=
  ⟨szp_setSzp f _, decide_eq_true_iff, signedOut_sum a b c hn⟩

theorem diffFlags_subFlags (hn : 0 < n) : DiffFlags (subFlags f a b c) a b (a - b - BitVec.ofNat n c.toNat) c :=
  ⟨szp_setSzp f _, decide_eq_true_iff, signedOut_difference a b c hn⟩

theorem sumFlags_addFlags_false (hn : 0 < n) : SumFlags (addFlags f a b false) a b (a + b) false := by
  simpa using sumFlags_addFlags a b false f hn

theorem diffFlags_subFlags_false (hn : 0 < n) : DiffFlags (subFlags f a b false) a b (a - b) false := by
  simpa using diffFlags_subFlags a b false f hn

end

/-! The flags of each operation. -/

section
variable {n : Nat} (s : State) (a b : BitVec n)

section
variable (hn : 0 < n)
include hn

theorem addOp_flags : SumFlags (addOp s a b).2 a b (a + b) false ∧ SumCarry (addOp s a b).2 a b false :=
  ⟨sumFlags_addFlags_false a b s.flags hn, decide_eq_true_iff⟩

theorem adcOp_flags : SumFlags (adcOp s a b).2 a b (a + b + BitVec.ofNat n s.flags.cf.toNat) s.flags.cf ∧
    SumCarry (adcOp s a b).2 a b s.flags.cf :=
  ⟨sumFlags_addFlags a b s.flags.cf s.flags hn, decide_eq_true_iff⟩

theorem subOp_flags : DiffFlags (subOp s a b).2 a b (a - b) false ∧ DiffCarry (subOp s a b).2 a b false :=
  ⟨diffFlags_subFlags_false a b s.flags hn, decide_eq_true_iff⟩

theorem sbbOp_flags : DiffFlags (sbbOp s a b).2 a b (a - b - BitVec.ofNat n s.flags.cf.toNat) s.flags.cf ∧
    DiffCarry (sbbOp s a b).2 a b s.flags.cf :=
  ⟨diffFlags_subFlags a b s.flags.cf s.flags hn, decide_eq_true_iff⟩

theorem incOp_flags : SumFlags (incOp s a).2 a 1 (a + 1) false ∧ (incOp s a).2.cf = s.flags.cf :=
  ⟨sumFlags_addFlags_false a 1 s.flags hn, rfl⟩

theorem decOp_flags : DiffFlags (decOp s a).2 a 1 (a - 1) false ∧ (decOp s a).2.cf = s.flags.cf :=
  ⟨diffFlags_subFlags_false a 1 s.flags hn, rfl⟩

/-- `0 - a` overflows for the least value alone. -/
theorem signedOut_neg :
    signedOut n ((0 : BitVec n).toInt - a.toInt - (false.toNat : Int)) = true ↔ a = BitVec.intMin n := by
  have hlow := BitVec.le_toInt a
  have hhigh := BitVec.toInt_lt (x := a)
  have hmin : (BitVec.intMin n).toInt = -2 ^ (n - 1) := BitVec.toInt_intMin_of_pos hn
  rw [signedOut_iff, ← BitVec.toInt_inj, hmin, show (0 : BitVec n).toInt = 0 from BitVec.toInt_zero]
  simp only [Bool.toNat_false]
  omega

theorem negOp_flags : Szp (negOp s a).2 (-a) ∧ ((negOp s a).2.cf = true ↔ a ≠ 0) ∧
    ((negOp s a).2.of = true ↔ a = BitVec.intMin n) ∧ ((negOp s a).2.af = true ↔ a.toNat % 16 ≠ 0) := by
  refine ⟨?_, ?_, signedOut_neg a hn, ?_⟩
  · have hszp := (diffFlags_subFlags_false 0 a s.flags hn).1
    rwa [show 0 - a = -a from BitVec.zero_sub a] at hszp
  · refine decide_eq_true_iff.trans ?_
    rw [ne_eq, ← BitVec.toNat_inj]
    simp [Nat.pos_iff_ne_zero]
  · refine decide_eq_true_iff.trans ?_
    simp [Nat.pos_iff_ne_zero]

end

/-- AND and TEST (42_logic_shift_rotate.md R240, R245). -/
theorem andOp_flags : Szp (andOp s a b).2 (a &&& b) ∧ (andOp s a b).2.cf = false ∧ (andOp s a b).2.of = false :=
  ⟨szp_setSzp s.flags _, rfl, rfl⟩

end

end Sys2Proof.Proofs

/-! PROOFS. Statements of 41_arithmetic.md about ADD, ADC, SUB, SBB, CMP, INC, DEC and NEG (R200 to R210), with TEST and NOT
(42_logic_shift_rotate.md R241, R245). -/
namespace Sys2Proof.Proofs
open Sys2Proof Sys2Proof.Machine Sys2Proof.Claims

/-! Operands replaced by an operation on them. -/

section
variable {i : Instr} {s : State} {f : State → Res State} {flg : Flags → Prop}

/-- A form that may be written may be read. -/
theorem fits_read_of_write {r : SReg} {off n : Nat} (h : Fits s r off n true) : Fits s r off n false :=
  check_ok_iff_fits.1 (check_read_of_write (code' := 0) (check_ok_iff_fits (code := 0).2 h))

theorem readable8_of_writable8 {rm : RM8} (h : Writable8 s rm) : Readable8 s rm := by
  cases rm with
  | reg r => trivial
  | mem m => exact fits_read_of_write h

theorem readable16_of_writable16 {rm : RM16} (h : Writable16 s rm) : Readable16 s rm := by
  cases rm with
  | reg r => trivial
  | mem m => exact fits_read_of_write h

theorem OnlyData.with_flags {u : State} (h : OnlyData s u) (g : Flags) : OnlyData s { u with flags := g } := by
  obtain ⟨regs, flags, mem, rfl⟩ : ∃ regs flags mem, u = { s with regs := regs, flags := flags, mem := mem } :=
    ⟨_, _, _, h⟩
  rfl

/-- An instruction whose meaning is `op` on a byte operand. -/
theorem replaces8_of_upd {rm : RM8} {op : Byte → Byte × Flags} (hrep : NoRep s) (hexec : exec i s = plain s f)
    (hf : f s.begin = s.begin.updRm8 rm op) (h : Writable8 s rm) (hflg : flg (op (value8 s rm)).2)
    (hkept : ControlKept s.flags (op (value8 s rm)).2) : Replaces8 i s rm (op (value8 s rm)).1 flg := by
  obtain ⟨u, hu, hdata, -, hput⟩ := writeRm8_of_writable (s := s.begin) h (op (value8 s rm)).1
  have hread : s.begin.readRm8 rm = .ok (value8 s rm) := readRm8_of_readable (s := s.begin) (readable8_of_writable8 h)
  have hupd : f s.begin = .ok { u with flags := (op (value8 s rm)).2 } := hf.trans (updRm8_ok.2 ⟨_, u, hread, hu, rfl⟩)
  obtain ⟨hnext, hended⟩ := ended_of_plain hrep hexec hupd (hdata.with_flags _)
  exact ⟨_, hnext, hended, by cases rm <;> exact hput, hflg, hkept⟩

theorem replaces16_of_upd {rm : RM16} {op : Word → Word × Flags} (hrep : NoRep s) (hexec : exec i s = plain s f)
    (hf : f s.begin = s.begin.updRm16 rm op) (h : Writable16 s rm) (hflg : flg (op (value16 s rm)).2)
    (hkept : ControlKept s.flags (op (value16 s rm)).2) : Replaces16 i s rm (op (value16 s rm)).1 flg := by
  obtain ⟨u, hu, hdata, -, hput⟩ := writeRm16_of_writable (s := s.begin) h (op (value16 s rm)).1
  have hread : s.begin.readRm16 rm = .ok (value16 s rm) := readRm16_of_readable (s := s.begin) (readable16_of_writable16 h)
  have hupd : f s.begin = .ok { u with flags := (op (value16 s rm)).2 } := hf.trans (updRm16_ok.2 ⟨_, u, hread, hu, rfl⟩)
  obtain ⟨hnext, hended⟩ := ended_of_plain hrep hexec hupd (hdata.with_flags _)
  exact ⟨_, hnext, hended, by cases rm <;> exact hput, hflg, hkept⟩

/-- An instruction that only writes the flags `g`. -/
theorem onlyFlags_of_plain {g : Flags} (hrep : NoRep s) (hexec : exec i s = plain s f)
    (hf : f s.begin = .ok { s.begin with flags := g }) (hflg : flg g) (hkept : ControlKept s.flags g) : OnlyFlags i s flg :=
  ⟨_, exec_of_plain_begin (u := { s with flags := g }) hrep hexec hf rfl, rfl, hflg, hkept⟩

/-- An instruction whose meaning is the flags of `op` on a byte operand. -/
theorem onlyFlags_of_flagsRm8 {rm : RM8} {op : Byte → Byte × Flags} (hrep : NoRep s) (hexec : exec i s = plain s f)
    (hf : f s.begin = s.begin.flagsRm8 rm op) (h : Readable8 s rm) (hflg : flg (op (value8 s rm)).2)
    (hkept : ControlKept s.flags (op (value8 s rm)).2) : OnlyFlags i s flg :=
  onlyFlags_of_plain hrep hexec (hf.trans (flagsRm8_ok.2 ⟨_, readRm8_of_readable (s := s.begin) h, rfl⟩)) hflg hkept

theorem onlyFlags_of_flagsRm16 {rm : RM16} {op : Word → Word × Flags} (hrep : NoRep s) (hexec : exec i s = plain s f)
    (hf : f s.begin = s.begin.flagsRm16 rm op) (h : Readable16 s rm) (hflg : flg (op (value16 s rm)).2)
    (hkept : ControlKept s.flags (op (value16 s rm)).2) : OnlyFlags i s flg :=
  onlyFlags_of_plain hrep hexec (hf.trans (flagsRm16_ok.2 ⟨_, readRm16_of_readable (s := s.begin) h, rfl⟩)) hflg hkept

end

/-! The two-operand instructions (41_arithmetic.md R200). -/

section
variable {m : Alu} {s : State}

theorem aluOp_begin {n : Nat} (m : Alu) (s : State) (a b : BitVec n) : aluOp m s.begin a b = aluOp m s a b := by
  cases m <;> rfl

theorem controlKept_aluOp {n : Nat} (m : Alu) (s : State) (a b : BitVec n) : ControlKept s.flags (aluOp m s a b).2 := by
  cases m <;> exact ⟨rfl, rfl, rfl, rfl, rfl⟩

theorem readSrc8_of_readable {src : RM8 ⊕ Byte} (h : SrcReadable8 s src) : readSrc8 s src = .ok (srcValue8 s src) := by
  cases src with
  | inl rm => exact readRm8_of_readable h
  | inr v => rfl

theorem readSrc16_of_readable {src : RM16 ⊕ Word} (h : SrcReadable16 s src) : readSrc16 s src = .ok (srcValue16 s src) := by
  cases src with
  | inl rm => exact readRm16_of_readable h
  | inr v => rfl

theorem aluByte_upd {w : ByteForm} (hm : m ≠ .cmp) (h : SrcReadable8 s w.src) :
    aluByte m w s.begin = s.begin.updRm8 w.dst fun a => aluOp m s a (srcValue8 s w.src) := by
  refine (ok_bind (readSrc8_of_readable (s := s.begin) h)).trans ((if_neg hm).trans ?_)
  simp only [aluOp_begin]
  rfl

theorem aluWord_upd {w : WordForm} (hm : m ≠ .cmp) (h : SrcReadable16 s w.src) :
    aluWord m w s.begin = s.begin.updRm16 w.dst fun a => aluOp m s a (srcValue16 s w.src) := by
  refine (ok_bind (readSrc16_of_readable (s := s.begin) h)).trans ((if_neg hm).trans ?_)
  simp only [aluOp_begin]
  rfl

/-- All forms of an operation but CMP: what the operation gives is what the instruction leaves. -/
theorem byteResult_of_aluOp {res : State → Byte → Byte → Byte} {flg : State → Byte → Byte → Flags → Prop}
    (hm : m ≠ .cmp) (hres : ∀ s a b, (aluOp m s a b).1 = res s a b) (hflg : ∀ s a b, flg s a b (aluOp m s a b).2) :
    ByteResult m.byte res flg := by
  intro w s hrep hdst hsrc
  rw [← hres]
  exact replaces8_of_upd hrep (exec_byte m w s) (aluByte_upd hm hsrc) hdst (hflg ..) (controlKept_aluOp ..)

theorem wordResult_of_aluOp {res : State → Word → Word → Word} {flg : State → Word → Word → Flags → Prop}
    (hm : m ≠ .cmp) (hres : ∀ s a b, (aluOp m s a b).1 = res s a b) (hflg : ∀ s a b, flg s a b (aluOp m s a b).2) :
    WordResult m.word res flg := by
  intro w s hrep hdst hsrc
  rw [← hres]
  exact replaces16_of_upd hrep (exec_word m w s) (aluWord_upd hm hsrc) hdst (hflg ..) (controlKept_aluOp ..)

end

theorem addAdc : AddAdc :=
  ⟨byteResult_of_aluOp nofun (fun _ _ _ => rfl) fun s a b => addOp_flags s a b (by decide),
    wordResult_of_aluOp nofun (fun _ _ _ => rfl) fun s a b => addOp_flags s a b (by decide),
    byteResult_of_aluOp nofun (fun _ _ _ => rfl) fun s a b => adcOp_flags s a b (by decide),
    wordResult_of_aluOp nofun (fun _ _ _ => rfl) fun s a b => adcOp_flags s a b (by decide)⟩

theorem subSbb : SubSbb :=
  ⟨byteResult_of_aluOp nofun (fun _ _ _ => rfl) fun s a b => subOp_flags s a b (by decide),
    wordResult_of_aluOp nofun (fun _ _ _ => rfl) fun s a b => subOp_flags s a b (by decide),
    byteResult_of_aluOp nofun (fun _ _ _ => rfl) fun s a b => sbbOp_flags s a b (by decide),
    wordResult_of_aluOp nofun (fun _ _ _ => rfl) fun s a b => sbbOp_flags s a b (by decide)⟩

/-- Settles O17: all forms run one meaning, and its flags are those of the exact sum or difference. -/
theorem addSubtract : Obligations.AddSubtract := ⟨addAdc, subSbb⟩

/-! CMP and TEST. -/

section
variable {s : State}

theorem cmpByte_onlyFlags {w : ByteForm} {flg : Flags → Prop} (hrep : NoRep s) (hdst : Readable8 s w.dst)
    (hsrc : SrcReadable8 s w.src) (hflg : flg (subOp s (value8 s w.dst) (srcValue8 s w.src)).2) :
    OnlyFlags (Alu.cmp.byte w) s flg :=
  onlyFlags_of_flagsRm8 (op := (aluOp .cmp s.begin · (srcValue8 s w.src))) hrep (exec_byte ..)
    (ok_bind (readSrc8_of_readable (s := s.begin) hsrc)) hdst hflg (controlKept_aluOp .cmp ..)

theorem cmpWord_onlyFlags {w : WordForm} {flg : Flags → Prop} (hrep : NoRep s) (hdst : Readable16 s w.dst)
    (hsrc : SrcReadable16 s w.src) (hflg : flg (subOp s (value16 s w.dst) (srcValue16 s w.src)).2) :
    OnlyFlags (Alu.cmp.word w) s flg :=
  onlyFlags_of_flagsRm16 (op := (aluOp .cmp s.begin · (srcValue16 s w.src))) hrep (exec_word ..)
    (ok_bind (readSrc16_of_readable (s := s.begin) hsrc)) hdst hflg (controlKept_aluOp .cmp ..)

theorem testByte_onlyFlags {i : Instr} {rm : RM8} {b : State → Byte} (hrep : NoRep s) (h : Readable8 s rm)
    (hexec : exec i s = plain s fun u => u.flagsRm8 rm fun a => andOp u a (b u)) :
    OnlyFlags i s fun f => Szp f (value8 s rm &&& b s.begin) ∧ f.cf = false ∧ f.of = false :=
  onlyFlags_of_flagsRm8 hrep hexec rfl h (andOp_flags s.begin ..) (controlKept_andOp ..)

theorem testWord_onlyFlags {i : Instr} {rm : RM16} {b : State → Word} (hrep : NoRep s) (h : Readable16 s rm)
    (hexec : exec i s = plain s fun u => u.flagsRm16 rm fun a => andOp u a (b u)) :
    OnlyFlags i s fun f => Szp f (value16 s rm &&& b s.begin) ∧ f.cf = false ∧ f.of = false :=
  onlyFlags_of_flagsRm16 hrep hexec rfl h (andOp_flags s.begin ..) (controlKept_andOp ..)

end

/-- Settles O18: the operands are read and only the flags of the operation on them are written. -/
theorem cmpTest : Obligations.CmpTest := by
  refine ⟨fun w s hrep hdst hsrc => ?_, fun w s hrep hdst hsrc => ?_, fun rm r v s hrep h => ⟨?_, ?_, ?_⟩,
    fun rm r v s hrep h => ⟨?_, ?_, ?_⟩⟩
  · exact cmpByte_onlyFlags hrep hdst hsrc (subOp_flags s _ _ (by decide))
  · exact cmpWord_onlyFlags hrep hdst hsrc (subOp_flags s _ _ (by decide))
  · exact testByte_onlyFlags (b := (·.reg8 r)) hrep h ((exec.eq_def ..).trans rfl)
  · exact testByte_onlyFlags (b := fun _ => v) hrep h ((exec.eq_def ..).trans rfl)
  · exact testByte_onlyFlags (rm := .reg .al) (b := fun _ => v) hrep trivial ((exec.eq_def ..).trans rfl)
  · exact testWord_onlyFlags (b := (·.reg16 r)) hrep h ((exec.eq_def ..).trans rfl)
  · exact testWord_onlyFlags (b := fun _ => v) hrep h ((exec.eq_def ..).trans rfl)
  · exact testWord_onlyFlags (rm := .reg .ax) (b := fun _ => v) hrep trivial ((exec.eq_def ..).trans rfl)

/-! INC, DEC, NEG and NOT. -/

theorem negOp_result {n : Nat} (s : State) (a : BitVec n) : (negOp s a).1 = -a := BitVec.zero_sub a

theorem notOp_result {n : Nat} (s : State) (a : BitVec n) : (notOp s a).1 = a ^^^ BitVec.allOnes n := BitVec.xor_allOnes.symm

/-- Settles O21: each replaces its operand by an operation on it, whose flags are those of a sum or difference with 1 or 0. -/
theorem incDecNegNot : Obligations.IncDecNegNot := by
  refine ⟨fun r s hrep => ⟨?_, ?_⟩, fun rm s hrep h => ⟨?_, ?_, ?_, ?_⟩, fun rm s hrep h => ⟨?_, ?_, ?_, ?_⟩⟩
  · exact replaces16_of_upd (op := incOp s) (rm := .reg r) hrep ((exec.eq_def ..).trans rfl) rfl trivial
      (incOp_flags s _ (by decide)) (controlKept_incOp ..)
  · exact replaces16_of_upd (op := decOp s) (rm := .reg r) hrep ((exec.eq_def ..).trans rfl) rfl trivial
      (decOp_flags s _ (by decide)) (controlKept_decOp ..)
  · exact replaces8_of_upd (op := incOp s) hrep ((exec.eq_def ..).trans rfl) rfl h (incOp_flags s _ (by decide))
      (controlKept_incOp ..)
  · exact replaces8_of_upd (op := decOp s) hrep ((exec.eq_def ..).trans rfl) rfl h (decOp_flags s _ (by decide))
      (controlKept_decOp ..)
  · rw [← negOp_result s]
    exact replaces8_of_upd (op := negOp s) hrep ((exec.eq_def ..).trans rfl) rfl h (negOp_flags s _ (by decide))
      (controlKept_negOp ..)
  · rw [show (0xFF : Byte) = BitVec.allOnes 8 from rfl, ← notOp_result s]
    exact replaces8_of_upd (op := notOp s) hrep ((exec.eq_def ..).trans rfl) rfl h rfl (controlKept_notOp ..)
  · exact replaces16_of_upd (op := incOp s) hrep ((exec.eq_def ..).trans rfl) rfl h (incOp_flags s _ (by decide))
      (controlKept_incOp ..)
  · exact replaces16_of_upd (op := decOp s) hrep ((exec.eq_def ..).trans rfl) rfl h (decOp_flags s _ (by decide))
      (controlKept_decOp ..)
  · rw [← negOp_result s]
    exact replaces16_of_upd (op := negOp s) hrep ((exec.eq_def ..).trans rfl) rfl h (negOp_flags s _ (by decide))
      (controlKept_negOp ..)
  · rw [show (0xFFFF : Word) = BitVec.allOnes 16 from rfl, ← notOp_result s]
    exact replaces16_of_upd (op := notOp s) hrep ((exec.eq_def ..).trans rfl) rfl h rfl (controlKept_notOp ..)

end Sys2Proof.Proofs

/-! PROOFS. Statements of 41_arithmetic.md about MUL, IMUL, DIV and IDIV (R213 to R215, R217, R218, R222). -/
namespace Sys2Proof.Proofs
open Sys2Proof Sys2Proof.Machine Sys2Proof.Claims

/-! Instructions that write general registers and flags only. -/

/-- `i` completes with memory and the control flags as they were, in a state with `Q`. -/
def Computes (i : Instr) (s : State) (Q : State → Prop) : Prop :=
  ∃ t, exec i s = .next t ∧ Ended s t ∧ MemSame s t ∧ ControlKept s.flags t.flags ∧ Q t

section
variable {i : Instr} {s : State} {f : State → Res State} {g : Flags}

theorem Computes.imp {Q Q' : State → Prop} (h : Computes i s Q) (hQ : ∀ t, Q t → Q' t) : Computes i s Q' := by
  obtain ⟨t, hnext, hended, hmem, hkept, ht⟩ := h
  exact ⟨t, hnext, hended, hmem, hkept, hQ t ht⟩

theorem computes_reg16 {r : Reg16} {v : Word} (hrep : NoRep s) (hexec : exec i s = plain s f)
    (hf : f s.begin = .ok { s.begin.setReg16 r v with flags := g }) (hkept : ControlKept s.flags g) :
    Computes i s fun t => RegWord s t r v ∧ t.flags = g := by
  obtain ⟨hnext, hended⟩ := ended_of_plain hrep hexec hf (((OnlyData.refl _).setReg16 ..).with_flags _)
  exact ⟨_, hnext, hended, memSame_of_mem (setReg16_mem ..), hkept, regWord_setReg16 (u := s.begin) rfl r v, rfl⟩

theorem computes_reg8 {r : Reg8} {v : Byte} (hrep : NoRep s) (hexec : exec i s = plain s f)
    (hf : f s.begin = .ok { s.begin.setReg8 r v with flags := g }) (hkept : ControlKept s.flags g) :
    Computes i s fun t => RegByte s t r v ∧ t.flags = g := by
  obtain ⟨hnext, hended⟩ := ended_of_plain hrep hexec hf (((OnlyData.refl _).setReg8 ..).with_flags _)
  exact ⟨_, hnext, hended, memSame_of_mem (setReg8_mem ..), hkept, regByte_setReg8 (u := s.begin) rfl r v, rfl⟩

/-- A double word in DX:AX. -/
theorem computes_pair {lo hi : Word} (hrep : NoRep s) (hexec : exec i s = plain s f)
    (hf : f s.begin = .ok { (s.begin.setReg16 .ax lo).setReg16 .dx hi with flags := g }) (hkept : ControlKept s.flags g) :
    Computes i s fun t =>
      (∀ q, q ≠ .ax → q ≠ .dx → t.reg16 q = s.reg16 q) ∧ t.regs.ax = lo ∧ t.regs.dx = hi ∧ t.flags = g := by
  obtain ⟨hnext, hended⟩ :=
    ended_of_plain hrep hexec hf ((((OnlyData.refl _).setReg16 ..).setReg16 ..).with_flags _)
  exact ⟨_, hnext, hended, memSame_of_mem rfl, hkept,
    fun q hax hdx => (reg16_setReg16_ne (s.begin.setReg16 .ax lo) hi hdx).trans (reg16_setReg16_ne s.begin lo hax),
    rfl, rfl, rfl⟩

end

/-! Halves of words and double words. -/

theorem toNat_hiByte (w : Word) : (hiByte w).toNat = w.toNat / 0x100 := by
  have hw := w.isLt
  simp only [hiByte, BitVec.extractLsb'_toNat, Nat.shiftRight_eq_div_pow]
  omega

theorem toNat_append_words (hi lo : Word) : (hi ++ lo).toNat = hi.toNat * 0x10000 + lo.toNat := by
  rw [BitVec.toNat_append, ← Nat.shiftLeft_add_eq_or_of_lt lo.isLt, Nat.shiftLeft_eq]

theorem toNat_double_ofNat {p : Nat} (hp : p < 0x100000000) :
    (BitVec.ofNat 16 (p / 0x10000) ++ BitVec.ofNat 16 p).toNat = p := by
  rw [toNat_append_words, BitVec.toNat_ofNat, BitVec.toNat_ofNat]
  omega

theorem append_halves (w : BitVec 32) : w.extractLsb' 16 16 ++ w.extractLsb' 0 16 = w :=
  (BitVec.extractLsb'_append_extractLsb'_eq_extractLsb' (start₁ := 0) rfl).trans BitVec.extractLsb'_eq_self

/-- The low bits of a number's word are the number's narrower word. -/
theorem extractLsb'_ofInt {m n : Nat} (h : n ≤ m) (x : Int) : (BitVec.ofInt m x).extractLsb' 0 n = BitVec.ofInt n x := by
  have hdvd : ((2 ^ n : Nat) : Int) ∣ (2 ^ m : Nat) := Int.natCast_dvd_natCast.2 (Nat.pow_dvd_pow 2 h)
  have hpos : (0 : Int) < (2 ^ m : Nat) := by positivity
  apply BitVec.eq_of_toNat_eq
  zify
  rw [BitVec.extractLsb'_toNat, Nat.shiftRight_zero, Int.natCast_emod, BitVec.toNat_ofInt, BitVec.toNat_ofInt,
    Int.toNat_of_nonneg (Int.emod_nonneg _ hpos.ne'), Int.toNat_of_nonneg (Int.emod_nonneg _ (by positivity)),
    Int.emod_emod_of_dvd _ hdvd]

/-! MUL and IMUL (41_arithmetic.md R213 to R215). -/

section
variable {n : Nat} (a b : BitVec n)

theorem toNat_mul_lt : a.toNat * b.toNat < 2 ^ n * 2 ^ n := Nat.mul_lt_mul'' a.isLt b.isLt

/-- The exact signed product fits twice the width. -/
theorem toInt_ofInt_product (hn : 0 < n) : (BitVec.ofInt (2 * n) (a.toInt * b.toInt)).toInt = a.toInt * b.toInt := by
  have hlow := BitVec.le_toInt_mul_toInt (x := a) (y := b)
  have hhigh := BitVec.toInt_mul_toInt_le (x := a) (y := b)
  have hpow : (2 : Int) ^ (2 * n - 1) = 2 * 2 ^ (n * 2 - 2) := by
    rw [← pow_succ']
    congr 1
    omega
  have hpos : (0 : Int) < 2 ^ (n * 2 - 2) := by positivity
  exact BitVec.toInt_ofInt_eq_self (by omega) (by omega) (by omega)

end

theorem hiByte_ofNat_ne_zero {p : Nat} (hp : p < 0x10000) : hiByte (BitVec.ofNat 16 p) ≠ 0 ↔ 0x100 ≤ p := by
  rw [ne_eq, ← BitVec.toNat_inj, toNat_hiByte, BitVec.toNat_ofNat, Nat.mod_eq_of_lt hp]
  simp only [BitVec.ofNat_eq_ofNat, BitVec.toNat_ofNat, Nat.zero_mod]
  omega

theorem ofNat_high_ne_zero {p : Nat} (hp : p < 0x100000000) : BitVec.ofNat 16 (p / 0x10000) ≠ 0 ↔ 0x10000 ≤ p := by
  rw [ne_eq, ← BitVec.toNat_inj, BitVec.toNat_ofNat]
  simp only [BitVec.ofNat_eq_ofNat, BitVec.toNat_ofNat, Nat.zero_mod]
  omega

section
variable {s : State} (hrep : NoRep s)
include hrep

theorem mulByte_computes {rm : RM8} (h : Readable8 s rm) : Computes (.mulRm8 rm) s fun t =>
    (∀ q, q ≠ .ax → t.reg16 q = s.reg16 q) ∧ t.regs.ax.toNat = (s.reg8 .al).toNat * (value8 s rm).toNat ∧
      (t.flags.cf = true ↔ t.reg8 .ah ≠ 0) ∧ t.flags.of = t.flags.cf := by
  have hlt := toNat_mul_lt (s.reg8 .al) (value8 s rm)
  refine (computes_reg16 hrep ((exec.eq_def ..).trans rfl) (ok_bind (readRm8_of_readable (s := s.begin) h))
    (controlKept_mulFlags ..)).imp fun t ⟨⟨hax, hrest⟩, hflags⟩ => ⟨hrest, ?_, ?_, hflags ▸ rfl⟩
  · exact (congrArg BitVec.toNat hax).trans (Nat.mod_eq_of_lt hlt)
  · rw [hflags, show t.reg8 .ah = _ from congrArg hiByte hax]
    exact decide_eq_true_iff.trans (hiByte_ofNat_ne_zero hlt).symm

theorem imulByte_computes {rm : RM8} (h : Readable8 s rm) : Computes (.imulRm8 rm) s fun t =>
    (∀ q, q ≠ .ax → t.reg16 q = s.reg16 q) ∧ t.regs.ax.toInt = (s.reg8 .al).toInt * (value8 s rm).toInt ∧
      (t.flags.cf = true ↔ t.regs.ax.toInt ≠ (t.reg8 .al).toInt) ∧ t.flags.of = t.flags.cf := by
  have hexact := toInt_ofInt_product (s.reg8 .al) (value8 s rm) (by decide)
  refine (computes_reg16 hrep ((exec.eq_def ..).trans rfl) (ok_bind (readRm8_of_readable (s := s.begin) h))
    (controlKept_mulFlags ..)).imp fun t ⟨⟨hax, hrest⟩, hflags⟩ => ?_
  have hprod : t.regs.ax.toInt = (s.reg8 .al).toInt * (value8 s rm).toInt := (congrArg BitVec.toInt hax).trans hexact
  have hal : t.reg8 .al = BitVec.ofInt 8 ((s.reg8 .al).toInt * (value8 s rm).toInt) :=
    (congrArg loByte hax).trans (extractLsb'_ofInt (by decide) _)
  refine ⟨hrest, hprod, ?_, hflags ▸ rfl⟩
  rw [hflags, hprod, hal]
  exact (signedOut_iff_toInt_ne (by decide)).trans ne_comm

theorem mulWord_computes {rm : RM16} (h : Readable16 s rm) : Computes (.mulRm16 rm) s fun t =>
    (∀ q, q ≠ .ax → q ≠ .dx → t.reg16 q = s.reg16 q) ∧
      (t.regs.dx ++ t.regs.ax).toNat = s.regs.ax.toNat * (value16 s rm).toNat ∧
      (t.flags.cf = true ↔ t.regs.dx ≠ 0) ∧ t.flags.of = t.flags.cf := by
  have hlt := toNat_mul_lt s.regs.ax (value16 s rm)
  refine (computes_pair hrep ((exec.eq_def ..).trans rfl) (ok_bind (readRm16_of_readable (s := s.begin) h))
    (controlKept_mulFlags ..)).imp fun t ⟨hrest, hax, hdx, hflags⟩ => ⟨hrest, ?_, ?_, hflags ▸ rfl⟩
  · rw [hax, hdx]
    exact toNat_double_ofNat hlt
  · rw [hflags, hdx]
    exact decide_eq_true_iff.trans (ofNat_high_ne_zero hlt).symm

theorem imulWord_computes {rm : RM16} (h : Readable16 s rm) : Computes (.imulRm16 rm) s fun t =>
    (∀ q, q ≠ .ax → q ≠ .dx → t.reg16 q = s.reg16 q) ∧
      (t.regs.dx ++ t.regs.ax).toInt = s.regs.ax.toInt * (value16 s rm).toInt ∧
      (t.flags.cf = true ↔ (t.regs.dx ++ t.regs.ax).toInt ≠ t.regs.ax.toInt) ∧ t.flags.of = t.flags.cf := by
  have hexact := toInt_ofInt_product s.regs.ax (value16 s rm) (by decide)
  refine (computes_pair hrep ((exec.eq_def ..).trans rfl) (ok_bind (readRm16_of_readable (s := s.begin) h))
    (controlKept_mulFlags ..)).imp fun t ⟨hrest, hax, hdx, hflags⟩ => ?_
  have hprod : (t.regs.dx ++ t.regs.ax).toInt = s.regs.ax.toInt * (value16 s rm).toInt := by
    rw [hax, hdx, append_halves]
    exact hexact
  have hlow : t.regs.ax = BitVec.ofInt 16 (s.regs.ax.toInt * (value16 s rm).toInt) :=
    hax.trans (extractLsb'_ofInt (by decide) _)
  refine ⟨hrest, hprod, ?_, hflags ▸ rfl⟩
  rw [hflags, hprod, hlow]
  exact (signedOut_iff_toInt_ne (by decide)).trans ne_comm

/-- Both forms of IMUL with an immediate, which is `b`. -/
theorem imulInto_computes {i : Instr} {rm : RM16} {r : Reg16} {b : Word} (h : Readable16 s rm)
    (hexec : exec i s = plain s fun u => u.readRm16 rm >>= fun a => pure (u.imulInto r a b)) :
    Computes i s fun t => RegWord s t r (BitVec.ofInt 16 ((value16 s rm).toInt * b.toInt)) ∧
      (t.flags.cf = true ↔ (value16 s rm).toInt * b.toInt < -32768 ∨ 32767 < (value16 s rm).toInt * b.toInt) ∧
      t.flags.of = t.flags.cf := by
  refine (computes_reg16 hrep hexec (ok_bind (readRm16_of_readable (s := s.begin) h)) (controlKept_mulFlags ..)).imp
    fun t ⟨hreg, hflags⟩ => ⟨hreg, ?_, hflags ▸ rfl⟩
  rw [hflags]
  exact signedOut_iff

end

/-- Settles O24: the exact product always fits twice the width, and CF and OF compare it with its lower half. -/
theorem mulImul : Obligations.MulImul := by
  refine ⟨fun rm s hrep h => ⟨mulByte_computes hrep h, imulByte_computes hrep h⟩,
    fun rm s hrep h => ⟨mulWord_computes hrep h, imulWord_computes hrep h, fun r v b => ⟨?_, ?_⟩⟩⟩
  · exact imulInto_computes hrep h ((exec.eq_def ..).trans rfl)
  · rw [← BitVec.toInt_signExtend_of_le (show 8 ≤ 16 by decide)]
    exact imulInto_computes hrep h ((exec.eq_def ..).trans rfl)

/-! DIV and IDIV (41_arithmetic.md R217, R218, R222). -/

theorem toNat_ne_zero {n : Nat} {b : BitVec n} (hb : b ≠ 0) : b.toNat ≠ 0 := fun h => hb (BitVec.eq_of_toNat_eq h)

theorem toInt_ne_zero {n : Nat} {b : BitVec n} (hb : b ≠ 0) : b.toInt ≠ 0 :=
  fun h => hb (BitVec.eq_of_toInt_eq (h.trans BitVec.toInt_zero.symm))

/-- A quotient that fits `n` bits, unsigned. -/
theorem unsigned_division {n x : Nat} {b : BitVec n} (hb : b ≠ 0) (hq : x / b.toNat < 2 ^ n) :
    x = (BitVec.ofNat n (x / b.toNat)).toNat * b.toNat + (BitVec.ofNat n (x % b.toNat)).toNat ∧
      BitVec.ofNat n (x % b.toNat) < b := by
  have hpos : 0 < b.toNat := Nat.pos_of_ne_zero (toNat_ne_zero hb)
  have hrem : (BitVec.ofNat n (x % b.toNat)).toNat = x % b.toNat :=
    Nat.mod_eq_of_lt ((Nat.mod_lt x hpos).trans b.isLt)
  have hquot : (BitVec.ofNat n (x / b.toNat)).toNat = x / b.toNat := Nat.mod_eq_of_lt hq
  rw [BitVec.lt_def, hrem, hquot]
  exact ⟨(Nat.div_add_mod' x b.toNat).symm, Nat.mod_lt x hpos⟩

/-- A quotient that fits `n` bits, signed: the remainder is zero or has the sign of the dividend. -/
theorem signed_division {n : Nat} {x : Int} {b : BitVec n} (hb : b ≠ 0) (hq : signedOut n (x.tdiv b.toInt) = false) :
    x = (BitVec.ofInt n (x.tdiv b.toInt)).toInt * b.toInt + (BitVec.ofInt n (x.tmod b.toInt)).toInt ∧
      (BitVec.ofInt n (x.tmod b.toInt)).toInt.natAbs < b.toInt.natAbs ∧
      (BitVec.ofInt n (x.tmod b.toInt) = 0 ∨ ((BitVec.ofInt n (x.tmod b.toInt)).toInt < 0 ↔ x < 0)) := by
  have hn : 0 < n := Nat.pos_of_ne_zero fun h => hb (by subst h; exact Subsingleton.elim ..)
  have hlt : (x.tmod b.toInt).natAbs < b.toInt.natAbs := by
    rw [Int.natAbs_tmod]
    exact Nat.mod_lt _ (Int.natAbs_pos.2 (toInt_ne_zero hb))
  have hlow := BitVec.le_toInt b
  have hhigh := BitVec.toInt_lt (x := b)
  have hrem : (BitVec.ofInt n (x.tmod b.toInt)).toInt = x.tmod b.toInt :=
    BitVec.toInt_ofInt_eq_self hn (by omega) (by omega)
  have hquot : (BitVec.ofInt n (x.tdiv b.toInt)).toInt = x.tdiv b.toInt := by
    by_contra hout
    exact absurd ((signedOut_iff_toInt_ne hn).2 hout) (by simp [hq])
  rw [← BitVec.toInt_inj, hrem, hquot]
  refine ⟨(Int.tdiv_mul_add_tmod x b.toInt).symm, hlt, ?_⟩
  rcases lt_or_ge x 0 with hneg | hnonneg
  · have hle : x.tmod b.toInt ≤ 0 := by
      have hflip := Int.tmod_nonneg b.toInt (show 0 ≤ -x by omega)
      rw [Int.neg_tmod] at hflip
      omega
    have hzero : (0 : BitVec n).toInt = 0 := BitVec.toInt_zero
    omega
  · have hge := Int.tmod_nonneg b.toInt hnonneg
    omega

/-- The two tests of a division raise one exception. -/
theorem requires_raise {α : Type} {p q : Bool} {e : Exc} {f : Unit → Res α} (h : p = false ∨ q = false) :
    (require p e >>= fun _ => require q e >>= f) = raise e :=
  require_require.trans (bind_raise (require_eq_raise.2 ⟨Bool.and_eq_false_iff.2 h, rfl⟩))

theorem requires_bind {α : Type} {p q : Bool} {e : Exc} {f : Unit → Res α} (hp : p = true) (hq : q = true) :
    (require p e >>= fun _ => require q e >>= f) = f () :=
  (require_bind hp).trans (require_bind hq)

section
variable {s : State} (hrep : NoRep s)
include hrep

theorem divByte_computes {rm : RM8} (h : Readable8 s rm) (hb : value8 s rm ≠ 0)
    (hq : s.regs.ax.toNat / (value8 s rm).toNat ≤ 0xFF) : Computes (.divRm8 rm) s fun t =>
      (∀ q, q ≠ .ax → t.reg16 q = s.reg16 q) ∧
        s.regs.ax.toNat = (t.reg8 .al).toNat * (value8 s rm).toNat + (t.reg8 .ah).toNat ∧ t.reg8 .ah < value8 s rm := by
  refine (computes_reg16 hrep ((exec.eq_def ..).trans rfl) ((ok_bind (readRm8_of_readable (s := s.begin) h)).trans
    (requires_bind (decide_eq_true (toNat_ne_zero hb)) (decide_eq_true hq))) (controlKept_divFlags s.begin)).imp
    fun t ⟨⟨hax, hrest⟩, _⟩ => ⟨hrest, ?_⟩
  rw [show t.reg8 .al = _ from (congrArg loByte hax).trans (loByte_wordOf ..),
    show t.reg8 .ah = _ from (congrArg hiByte hax).trans (hiByte_wordOf ..)]
  exact unsigned_division hb (Nat.lt_succ_of_le hq)

theorem idivByte_computes {rm : RM8} (h : Readable8 s rm) (hb : value8 s rm ≠ 0)
    (hq : signedOut 8 (s.regs.ax.toInt.tdiv (value8 s rm).toInt) = false) : Computes (.idivRm8 rm) s fun t =>
      (∀ q, q ≠ .ax → t.reg16 q = s.reg16 q) ∧
        s.regs.ax.toInt = (t.reg8 .al).toInt * (value8 s rm).toInt + (t.reg8 .ah).toInt ∧
        (t.reg8 .ah).toInt.natAbs < (value8 s rm).toInt.natAbs ∧
        (t.reg8 .ah = 0 ∨ ((t.reg8 .ah).toInt < 0 ↔ s.regs.ax.toInt < 0)) := by
  refine (computes_reg16 hrep ((exec.eq_def ..).trans rfl) ((ok_bind (readRm8_of_readable (s := s.begin) h)).trans
    (requires_bind (decide_eq_true (toInt_ne_zero hb)) (congrArg not hq))) (controlKept_divFlags s.begin)).imp
    fun t ⟨⟨hax, hrest⟩, _⟩ => ⟨hrest, ?_⟩
  rw [show t.reg8 .al = _ from (congrArg loByte hax).trans (loByte_wordOf ..),
    show t.reg8 .ah = _ from (congrArg hiByte hax).trans (hiByte_wordOf ..)]
  exact signed_division hb hq

theorem divWord_computes {rm : RM16} (h : Readable16 s rm) (hb : value16 s rm ≠ 0)
    (hq : (s.regs.dx ++ s.regs.ax).toNat / (value16 s rm).toNat ≤ 0xFFFF) : Computes (.divRm16 rm) s fun t =>
      (∀ q, q ≠ .ax → q ≠ .dx → t.reg16 q = s.reg16 q) ∧
        (s.regs.dx ++ s.regs.ax).toNat = t.regs.ax.toNat * (value16 s rm).toNat + t.regs.dx.toNat ∧
        t.regs.dx < value16 s rm := by
  rw [toNat_append_words] at hq ⊢
  refine (computes_pair hrep ((exec.eq_def ..).trans rfl) ((ok_bind (readRm16_of_readable (s := s.begin) h)).trans
    (requires_bind (decide_eq_true (toNat_ne_zero hb)) (decide_eq_true hq))) (controlKept_divFlags s.begin)).imp
    fun t ⟨hrest, hax, hdx, _⟩ => ⟨hrest, ?_⟩
  rw [hax, hdx]
  exact unsigned_division hb (Nat.lt_succ_of_le hq)

theorem idivWord_computes {rm : RM16} (h : Readable16 s rm) (hb : value16 s rm ≠ 0)
    (hq : signedOut 16 ((s.regs.dx ++ s.regs.ax).toInt.tdiv (value16 s rm).toInt) = false) :
    Computes (.idivRm16 rm) s fun t =>
      (∀ q, q ≠ .ax → q ≠ .dx → t.reg16 q = s.reg16 q) ∧
        (s.regs.dx ++ s.regs.ax).toInt = t.regs.ax.toInt * (value16 s rm).toInt + t.regs.dx.toInt ∧
        t.regs.dx.toInt.natAbs < (value16 s rm).toInt.natAbs ∧
        (t.regs.dx = 0 ∨ (t.regs.dx.toInt < 0 ↔ (s.regs.dx ++ s.regs.ax).toInt < 0)) := by
  refine (computes_pair hrep ((exec.eq_def ..).trans rfl) ((ok_bind (readRm16_of_readable (s := s.begin) h)).trans
    (requires_bind (decide_eq_true (toInt_ne_zero hb)) (congrArg not hq))) (controlKept_divFlags s.begin)).imp
    fun t ⟨hrest, hax, hdx, _⟩ => ⟨hrest, ?_⟩
  rw [hax, hdx]
  exact signed_division hb hq

end

theorem signedOut_false {n : Nat} {x : Int} (hlow : -2 ^ (n - 1) ≤ x) (hhigh : x < 2 ^ (n - 1)) : signedOut n x = false :=
  Bool.eq_false_iff.2 fun h => by have hout := signedOut_iff.1 h; omega

theorem divIdiv : DivIdiv :=
  ⟨fun _ _ hrep h => ⟨divByte_computes hrep h,
      fun hb hlow hhigh => idivByte_computes hrep h hb (signedOut_false hlow (Int.lt_add_one_of_le hhigh))⟩,
    fun _ _ hrep h => ⟨divWord_computes hrep h,
      fun hb hlow hhigh => idivWord_computes hrep h hb (signedOut_false hlow (Int.lt_add_one_of_le hhigh))⟩⟩

section
variable {i : Instr} {s : State}

/-- A division whose divisor is read and fails one of the tests. -/
theorem raises_divideError_of_read8 {rm : RM8} {p q : State → Byte → Bool} {f : State → Byte → Unit → Res State}
    (hrep : NoRep s) (h : Readable8 s rm)
    (hexec : exec i s = plain s fun u => u.readRm8 rm >>= fun b =>
      require (p u b) .divideError >>= fun _ => require (q u b) .divideError >>= f u b)
    (hfails : p s.begin (value8 s rm) = false ∨ q s.begin (value8 s rm) = false) : Raises i s .divideError :=
  raises_of_plain hrep hexec ((ok_bind (readRm8_of_readable (s := s.begin) h)).trans (requires_raise hfails))

theorem raises_divideError_of_read16 {rm : RM16} {p q : State → Word → Bool} {f : State → Word → Unit → Res State}
    (hrep : NoRep s) (h : Readable16 s rm)
    (hexec : exec i s = plain s fun u => u.readRm16 rm >>= fun b =>
      require (p u b) .divideError >>= fun _ => require (q u b) .divideError >>= f u b)
    (hfails : p s.begin (value16 s rm) = false ∨ q s.begin (value16 s rm) = false) : Raises i s .divideError :=
  raises_of_plain hrep hexec ((ok_bind (readRm16_of_readable (s := s.begin) h)).trans (requires_raise hfails))

end

theorem divideErrors : DivideErrors := by
  refine ⟨fun rm s hrep h => ⟨fun hbad => ?_, fun hbad => ?_⟩, fun rm s hrep h => ⟨fun hbad => ?_, fun hbad => ?_⟩,
    fun s hrep => ?_⟩
  · exact raises_divideError_of_read8 hrep h ((exec.eq_def ..).trans rfl) (hbad.imp (fun hb => by simp [hb])
      fun hq => decide_eq_false (Nat.not_le.2 hq))
  · exact raises_divideError_of_read8 hrep h ((exec.eq_def ..).trans rfl) (hbad.imp (fun hb => by simp [hb])
      fun hq => congrArg not (signedOut_iff.2 hq))
  · rw [toNat_append_words] at hbad
    exact raises_divideError_of_read16 hrep h ((exec.eq_def ..).trans rfl) (hbad.imp (fun hb => by simp [hb])
      fun hq => decide_eq_false (Nat.not_le.2 hq))
  · exact raises_divideError_of_read16 hrep h ((exec.eq_def ..).trans rfl) (hbad.imp (fun hb => by simp [hb])
      fun hq => congrArg not (signedOut_iff.2 hq))
  · exact raises_of_plain hrep ((exec.eq_def ..).trans rfl) (bind_raise rfl)

/-- Settles O25: past the two tests the quotient and the remainder fit their registers, and either test raises DivideError. -/
theorem division : Obligations.Division := ⟨divIdiv, divideErrors⟩

end Sys2Proof.Proofs

/-! PROOFS. Statements of 41_arithmetic.md about the decimal and ASCII adjustments (R204, R205, R211, R212, R216, R219), CBW and
CWD (R220, R221). -/
namespace Sys2Proof.Proofs
open Sys2Proof Sys2Proof.Machine Sys2Proof.Claims

/-! When a digit of AL is adjusted, and what follows for the result and the flags. -/

section
variable (s : State) (al ah : Byte)

/-- The low digit of AL is above 9 or AF tells of a carry out of it (41_arithmetic.md R204, R205, R211, R212). -/
def adjustsLow : Bool := decide (9 < al.toNat % 16) || s.flags.af

/-- AL is above 99 or CF tells of a carry out of it (41_arithmetic.md R205, R212). -/
def adjustsHigh : Bool := decide (0x99 < al.toNat) || s.flags.cf

/-- The flags after AAA and AAS (41_arithmetic.md R204, R211). -/
def asciiFlags : Flags :=
  { s.flags with
    af := adjustsLow s al, cf := adjustsLow s al, of := s.free 1, sf := s.free 2, zf := s.free 3, pf := s.free 4 }

theorem adjustsLow_iff : adjustsLow s al = true ↔ 9 < al.toNat % 16 ∨ s.flags.af = true := by
  simp [adjustsLow]

theorem adjustsHigh_iff : adjustsHigh s al = true ↔ 0x99 < al.toNat ∨ s.flags.cf = true := by
  simp [adjustsHigh]

theorem aaaOp_eq : aaaOp s al ah =
    if adjustsLow s al then ((al + 6) &&& 0x0F, ah + 1, asciiFlags s al) else (al &&& 0x0F, ah, asciiFlags s al) := rfl

theorem aasOp_eq : aasOp s al ah =
    if adjustsLow s al then ((al - 6) &&& 0x0F, ah - 1, asciiFlags s al) else (al &&& 0x0F, ah, asciiFlags s al) := rfl

theorem daaOp_result : (daaOp s al).1 = al + (if adjustsLow s al then 6 else 0) + (if adjustsHigh s al then 0x60 else 0) := by
  change (if adjustsHigh s al then (if adjustsLow s al then al + 6 else al) + 0x60
    else if adjustsLow s al then al + 6 else al) = _
  split <;> split <;> simp

theorem dasOp_result : (dasOp s al).1 = al - (if adjustsLow s al then 6 else 0) - (if adjustsHigh s al then 0x60 else 0) := by
  change (if adjustsHigh s al then (if adjustsLow s al then al - 6 else al) - 0x60
    else if adjustsLow s al then al - 6 else al) = _
  split <;> split <;> simp

theorem dasOp_cf : (dasOp s al).2.cf = true ↔
    0x99 < al.toNat ∨ s.flags.cf = true ∨ (adjustsLow s al = true ∧ al.toNat < 6) := by
  change (adjustsHigh s al || (adjustsLow s al && (s.flags.cf || decide (al.toNat < 6)))) = true ↔ _
  simp only [Bool.or_eq_true, Bool.and_eq_true, adjustsHigh_iff, decide_eq_true_eq]
  tauto

theorem daaOp_szp : Szp (daaOp s al).2 (daaOp s al).1 := szp_setSzp s.flags (daaOp s al).1

theorem dasOp_szp : Szp (dasOp s al).2 (dasOp s al).1 := szp_setSzp s.flags (dasOp s al).1

theorem adjustFlags_szp : Szp (adjustFlags s al) al := szp_setSzp s.flags al

theorem wordOf_zero : wordOf al 0 = BitVec.ofNat 16 al.toNat := by
  apply BitVec.eq_of_toNat_eq
  have hlt := al.isLt
  rw [wordOf, BitVec.toNat_append, ← Nat.shiftLeft_add_eq_or_of_lt hlt, BitVec.toNat_ofNat]
  simp only [BitVec.ofNat_eq_ofNat, BitVec.toNat_ofNat, Nat.zero_mod, Nat.zero_shiftLeft]
  omega

end

/-! AAA, AAS, DAA and DAS. -/

section
variable {s : State} (hrep : NoRep s)
include hrep

/-- AAA and AAS, where `lo` and `hi` are the adjusted AL and AH. -/
theorem ascii_computes {i : Instr} {lo hi : Byte} {x : Byte × Byte × Flags} {f : State → Res State}
    (hexec : exec i s = plain s f) (hf : f s.begin = .ok { s.begin.setReg16 .ax (wordOf x.1 x.2.1) with flags := x.2.2 })
    (hx : x = if adjustsLow s (s.reg8 .al) then (lo, hi, asciiFlags s (s.reg8 .al))
      else (s.reg8 .al &&& 0x0F, s.reg8 .ah, asciiFlags s (s.reg8 .al))) :
    Computes i s fun t =>
      (t.flags.af = true ↔ 9 < (s.reg8 .al).toNat % 16 ∨ s.flags.af = true) ∧ t.flags.cf = t.flags.af ∧
      RegWord s t .ax (if t.flags.af then hi ++ lo else s.reg8 .ah ++ (s.reg8 .al &&& 0x0F)) := by
  have hflags : x.2.2 = asciiFlags s (s.reg8 .al) := by
    rw [hx]
    split <;> rfl
  have hword : wordOf x.1 x.2.1 = if adjustsLow s (s.reg8 .al) then hi ++ lo else s.reg8 .ah ++ (s.reg8 .al &&& 0x0F) := by
    rw [hx]
    split <;> rfl
  rw [hflags, hword] at hf
  refine (computes_reg16 hrep hexec hf ⟨rfl, rfl, rfl, rfl, rfl⟩).imp fun t ⟨hreg, hflags⟩ => ?_
  rw [hflags]
  exact ⟨adjustsLow_iff .., rfl, hreg⟩

theorem daa_computes : Computes .daa s fun t =>
    (t.flags.af = true ↔ 9 < (s.reg8 .al).toNat % 16 ∨ s.flags.af = true) ∧
      (t.flags.cf = true ↔ 0x99 < (s.reg8 .al).toNat ∨ s.flags.cf = true) ∧
      RegByte s t .al (s.reg8 .al + (if t.flags.af then 6 else 0) + (if t.flags.cf then 0x60 else 0)) ∧
      Szp t.flags (t.reg8 .al) := by
  refine (computes_reg8 hrep ((exec.eq_def ..).trans rfl) rfl (controlKept_daaOp s.begin _)).imp fun t ⟨hreg, hflags⟩ => ?_
  obtain ⟨hal, -⟩ := id hreg
  rw [hal, hflags]
  refine ⟨adjustsLow_iff .., adjustsHigh_iff .., ?_, daaOp_szp ..⟩
  exact daaOp_result s (s.reg8 .al) ▸ hreg

theorem das_computes : Computes .das s fun t =>
    (t.flags.af = true ↔ 9 < (s.reg8 .al).toNat % 16 ∨ s.flags.af = true) ∧
      (t.flags.cf = true ↔ 0x99 < (s.reg8 .al).toNat ∨ s.flags.cf = true ∨ (t.flags.af = true ∧ (s.reg8 .al).toNat < 6)) ∧
      RegByte s t .al (s.reg8 .al - (if t.flags.af then 6 else 0) -
        (if 0x99 < (s.reg8 .al).toNat ∨ s.flags.cf = true then 0x60 else 0)) ∧
      Szp t.flags (t.reg8 .al) := by
  refine (computes_reg8 hrep ((exec.eq_def ..).trans rfl) rfl (controlKept_dasOp s.begin _)).imp fun t ⟨hreg, hflags⟩ => ?_
  obtain ⟨hal, -⟩ := id hreg
  rw [hal, hflags]
  refine ⟨adjustsLow_iff .., dasOp_cf .., ?_, dasOp_szp ..⟩
  simp only [← adjustsHigh_iff]
  exact dasOp_result s (s.reg8 .al) ▸ hreg

/-! AAM and AAD, with any base (log 17). -/

theorem aam_computes {b : Byte} (hb : b ≠ 0) : Computes (.aam b) s fun t =>
    RegWord s t .ax (BitVec.ofNat 8 ((s.reg8 .al).toNat / b.toNat) ++ BitVec.ofNat 8 ((s.reg8 .al).toNat % b.toNat)) ∧
      Szp t.flags (t.reg8 .al) := by
  refine (computes_reg16 hrep ((exec.eq_def ..).trans rfl) (require_bind (decide_eq_true (toNat_ne_zero hb)))
    (controlKept_adjustFlags s.begin _)).imp fun t ⟨⟨hax, hrest⟩, hflags⟩ => ⟨⟨hax, hrest⟩, ?_⟩
  rw [hflags, show t.reg8 .al = _ from (congrArg loByte hax).trans (loByte_wordOf ..)]
  exact adjustFlags_szp ..

theorem aad_computes (b : Byte) : Computes (.aad b) s fun t =>
    RegWord s t .ax (BitVec.ofNat 16 (((s.reg8 .al).toNat + (s.reg8 .ah).toNat * b.toNat) % 256)) ∧
      Szp t.flags (t.reg8 .al) := by
  refine (computes_reg16 hrep ((exec.eq_def ..).trans rfl) rfl (controlKept_adjustFlags s.begin _)).imp
    fun t ⟨⟨hax, hrest⟩, hflags⟩ => ⟨⟨hax.trans ?_, hrest⟩, ?_⟩
  · rw [wordOf_zero, BitVec.toNat_add, BitVec.toNat_mul, Nat.add_mod_mod]
    rfl
  · rw [hflags, show t.reg8 .al = _ from (congrArg loByte hax).trans (loByte_wordOf ..)]
    exact adjustFlags_szp ..

end

/-- Settles O26: each adjustment is a function of AL, AH, AF and CF. -/
theorem decimalAdjust : Obligations.DecimalAdjust :=
  ⟨fun _ hrep => ⟨ascii_computes hrep ((exec.eq_def ..).trans rfl) rfl (aaaOp_eq ..),
      ascii_computes hrep ((exec.eq_def ..).trans rfl) rfl (aasOp_eq ..), daa_computes hrep, das_computes hrep⟩,
    fun _ b hrep => ⟨aam_computes hrep, aad_computes hrep b⟩⟩

/-! CBW and CWD. -/

/-- Settles O27: either writes one register. -/
theorem signExtension : Obligations.SignExtension := by
  refine ⟨rfl, rfl, fun s hrep => ⟨?_, ?_⟩⟩
  · exact exec_of_plain_begin hrep ((exec.eq_def ..).trans rfl) rfl rfl
  · exact exec_of_plain_begin hrep ((exec.eq_def ..).trans rfl) rfl rfl

end Sys2Proof.Proofs

/-! PROOFS. Statements of 42_logic_shift_rotate.md about AND, OR and XOR (R240, R242 to R244), the shifts (R246 to R249) and the
rotates (R250 to R253; 92_eei_decisions.md D28). -/
namespace Sys2Proof.Proofs
open Sys2Proof Sys2Proof.Machine Sys2Proof.Claims

/-! AND, OR and XOR. -/

theorem logicFlags_spec {n : Nat} (s : State) (r : BitVec n) :
    Szp (logicFlags s r) r ∧ (logicFlags s r).cf = false ∧ (logicFlags s r).of = false :=
  ⟨szp_setSzp s.flags r, rfl, rfl⟩

/-- Settles O19: all forms run one meaning, and the three operations share their flags. -/
theorem andOrXor : Obligations.AndOrXor :=
  ⟨byteResult_of_aluOp nofun (fun _ _ _ => rfl) fun s a b => logicFlags_spec s (a &&& b),
    wordResult_of_aluOp nofun (fun _ _ _ => rfl) fun s a b => logicFlags_spec s (a &&& b),
    byteResult_of_aluOp nofun (fun _ _ _ => rfl) fun s a b => logicFlags_spec s (a ||| b),
    wordResult_of_aluOp nofun (fun _ _ _ => rfl) fun s a b => logicFlags_spec s (a ||| b),
    byteResult_of_aluOp nofun (fun _ _ _ => rfl) fun s a b => logicFlags_spec s (a ^^^ b),
    wordResult_of_aluOp nofun (fun _ _ _ => rfl) fun s a b => logicFlags_spec s (a ^^^ b)⟩

/-! A shift or rotate of an operand (42_logic_shift_rotate.md R246). -/

section
variable {s : State}

theorem countByte_toNat (s : State) (k : Count) : (countByte s k).toNat % 32 = Count.value s k := by
  cases k <;> rfl

theorem checkRm8_of_writable {rm : RM8} (h : Writable8 s rm) : s.checkRm8 rm = .ok () := by
  cases rm with
  | reg r => rfl
  | mem m => exact check_ok_iff_fits.2 h

theorem checkRm16_of_writable {rm : RM16} (h : Writable16 s rm) : s.checkRm16 rm = .ok () := by
  cases rm with
  | reg r => rfl
  | mem m => exact check_ok_iff_fits.2 h

theorem shiftRm8_of_writable {rm : RM8} (h : Writable8 s rm) (count : Byte) (op : Byte → Nat → Byte × Flags) :
    s.shiftRm8 rm count op =
      if count.toNat % 32 = 0 then .ok s else s.updRm8 rm fun _ => op (value8 s rm) (count.toNat % 32) :=
  (ok_bind (readRm8_of_readable (readable8_of_writable8 h))).trans (ok_bind (checkRm8_of_writable h))

theorem shiftRm16_of_writable {rm : RM16} (h : Writable16 s rm) (count : Byte) (op : Word → Nat → Word × Flags) :
    s.shiftRm16 rm count op =
      if count.toNat % 32 = 0 then .ok s else s.updRm16 rm fun _ => op (value16 s rm) (count.toNat % 32) :=
  (ok_bind (readRm16_of_readable (readable16_of_writable16 h))).trans (ok_bind (checkRm16_of_writable h))

theorem shiftOp_begin {n : Nat} (op : Shift) (s : State) : (shiftOp op s.begin : BitVec n → _) = shiftOp op s := by
  cases op <;> rfl

theorem controlKept_shiftOp {n : Nat} (op : Shift) (s : State) (a : BitVec n) (c : Nat) :
    ControlKept s.flags (shiftOp op s a c).2 := by
  cases op <;> exact ⟨rfl, rfl, rfl, rfl, rfl⟩

/-- The meaning of every byte form, with its count reduced. -/
theorem shiftRm8_begin {rm : RM8} (h : Writable8 s rm) (op : Shift) (k : Count) :
    s.begin.shiftRm8 rm (countByte s.begin k) (shiftOp op s.begin) =
      if Count.value s k = 0 then .ok s.begin
      else s.begin.updRm8 rm fun _ => shiftOp op s (value8 s rm) (Count.value s k) := by
  rw [shiftRm8_of_writable (s := s.begin) h, countByte_toNat, shiftOp_begin]
  rfl

theorem shiftRm16_begin {rm : RM16} (h : Writable16 s rm) (op : Shift) (k : Count) :
    s.begin.shiftRm16 rm (countByte s.begin k) (shiftOp op s.begin) =
      if Count.value s k = 0 then .ok s.begin
      else s.begin.updRm16 rm fun _ => shiftOp op s (value16 s rm) (Count.value s k) := by
  rw [shiftRm16_of_writable (s := s.begin) h, countByte_toNat, shiftOp_begin]
  rfl

end

/-- What the operation gives for a count that is not 0 is what every form of it leaves; operands have more than one bit. -/
theorem shiftResult_of_shiftOp {op : Shift} {res : ∀ {n : Nat}, State → BitVec n → Nat → BitVec n}
    {flg : ∀ {n : Nat}, State → BitVec n → Nat → Flags → Prop}
    (hop : ∀ {n : Nat} (s : State) (a : BitVec n) (c : Nat), 1 < n → c ≠ 0 →
      (shiftOp op s a c).1 = res s a c ∧ flg s a c (shiftOp op s a c).2) : ShiftResult op res flg := by
  refine ⟨fun rm k s hrep h hk => ?_, fun rm k s hrep h hk => ?_, fun rm k s hrep h hk => ?_, fun rm k s hrep h hk => ?_⟩
  · obtain ⟨hres, hflg⟩ := hop s (value8 s rm) (Count.value s k) (by decide) hk
    beta_reduce
    rw [← hres]
    exact replaces8_of_upd (op := fun _ => shiftOp op s (value8 s rm) (Count.value s k)) hrep (exec_shift_byte op rm k s)
      ((shiftRm8_begin h op k).trans (if_neg hk)) h hflg (controlKept_shiftOp ..)
  · obtain ⟨hres, hflg⟩ := hop s (value16 s rm) (Count.value s k) (by decide) hk
    beta_reduce
    rw [← hres]
    exact replaces16_of_upd (op := fun _ => shiftOp op s (value16 s rm) (Count.value s k)) hrep (exec_shift_word op rm k s)
      ((shiftRm16_begin h op k).trans (if_neg hk)) h hflg (controlKept_shiftOp ..)
  · exact exec_of_plain_begin hrep (exec_shift_byte op rm k s) ((shiftRm8_begin h op k).trans (if_pos hk)) rfl
  · exact exec_of_plain_begin hrep (exec_shift_word op rm k s) ((shiftRm16_begin h op k).trans (if_pos hk)) rfl

/-! Repeated one-place steps. -/

section
variable {n c : Nat} {step : Bool → BitVec n → Bool × BitVec n} (cf : Bool) (a : BitVec n)

/-- `times` takes the extra step first; it may as well be taken last. -/
theorem times_succ (step : Bool → BitVec n → Bool × BitVec n) (c : Nat) :
    times step (c + 1) cf a = step (times step c cf a).1 (times step c cf a).2 := by
  induction c generalizing cf a with
  | zero => rfl
  | succ c ih => exact ih (step cf a).1 (step cf a).2

/-- A step that moves a view of CF and the operand by one place moves it by `c` places when done `c` times. -/
theorem times_view {α : Type} {view : Bool → BitVec n → α} {move : α → Nat → α} (hzero : ∀ x, move x 0 = x)
    (hsucc : ∀ x c, move x (c + 1) = move (move x c) 1)
    (hstep : ∀ cf a, view (step cf a).1 (step cf a).2 = move (view cf a) 1) (c : Nat) :
    view (times step c cf a).1 (times step c cf a).2 = move (view cf a) c := by
  induction c with
  | zero => exact (hzero _).symm
  | succ c ih => rw [times_succ, hstep, ih, ← hsucc]

theorem times_pred (step : Bool → BitVec n → Bool × BitVec n) (hc : c ≠ 0) :
    times step c cf a = step (times step (c - 1) cf a).1 (times step (c - 1) cf a).2 := by
  obtain ⟨d, rfl⟩ := Nat.exists_eq_succ_of_ne_zero hc
  exact times_succ cf a step d

/-- What every step leaves, any number of steps but 0 leaves. -/
theorem times_last {P : Bool → BitVec n → Prop} (hstep : ∀ cf a, P (step cf a).1 (step cf a).2) (hc : c ≠ 0) :
    P (times step c cf a).1 (times step c cf a).2 := by
  rw [times_pred cf a step hc]
  exact hstep _ _

/-! The shifts (R247 to R249): the operand shifted, and CF the last bit shifted out. -/

theorem times_shlStep (c : Nat) : (times shlStep c cf a).2 = a <<< c :=
  times_view cf a (view := fun _ a => a) (move := fun a c => a <<< c) BitVec.shiftLeft_zero
    (fun x c => BitVec.shiftLeft_add x c 1) (fun _ _ => rfl) c

theorem times_shrStep (c : Nat) : (times shrStep c cf a).2 = a >>> c :=
  times_view cf a (view := fun _ a => a) (move := fun a c => a >>> c) BitVec.ushiftRight_zero
    (fun x c => BitVec.shiftRight_add x c 1) (fun _ _ => rfl) c

theorem times_sarStep (c : Nat) : (times sarStep c cf a).2 = a.sshiftRight c :=
  times_view cf a (view := fun _ a => a) (move := BitVec.sshiftRight) (fun _ => BitVec.sshiftRight_zero)
    (fun _ _ => BitVec.sshiftRight_add) (fun _ _ => rfl) c

theorem shiftLeft_eq_ofNat (c : Nat) : a <<< c = BitVec.ofNat n (a.toNat * 2 ^ c) := by
  rw [← Nat.shiftLeft_eq]
  exact BitVec.eq_of_toNat_eq (BitVec.toNat_shiftLeft ..)

theorem ushiftRight_eq_ofNat (c : Nat) : a >>> c = BitVec.ofNat n (a.toNat / 2 ^ c) := by
  rw [← Nat.shiftRight_eq_div_pow, ← BitVec.toNat_ushiftRight, BitVec.ofNat_toNat, BitVec.setWidth_eq]

theorem sshiftRight_eq_ofInt (c : Nat) : a.sshiftRight c = BitVec.ofInt n (a.toInt / 2 ^ c) := by
  rw [BitVec.sshiftRight, Int.shiftRight_eq_div_pow]
  norm_cast

theorem times_shlStep_carry (hc : c ≠ 0) :
    (times shlStep c cf a).1 = true ↔ c ≤ n ∧ a.getLsbD (n - c) = true := by
  have hlast : (times shlStep c cf a).1 = (a <<< (c - 1)).msb := by
    rw [times_pred cf a shlStep hc, shlStep, times_shlStep]
  have hbit : n - 1 - (c - 1) = n - c := by omega
  rw [hlast, BitVec.msb_eq_getLsbD_last, BitVec.getLsbD_shiftLeft, hbit]
  simp only [Bool.and_eq_true, Bool.not_eq_true', decide_eq_true_eq, decide_eq_false_iff_not]
  refine and_congr_left fun hset => ?_
  have hlt := BitVec.lt_of_getLsbD hset
  omega

theorem times_shrStep_carry (hc : c ≠ 0) :
    (times shrStep c cf a).1 = true ↔ c ≤ n ∧ a.getLsbD (c - 1) = true := by
  rw [times_pred cf a shrStep hc, shrStep, times_shrStep, BitVec.getLsbD_ushiftRight, Nat.add_zero]
  refine (and_iff_right_of_imp fun hbit => ?_).symm
  have hlt := BitVec.lt_of_getLsbD hbit
  omega

theorem times_sarStep_carry (hn : 0 < n) (hc : c ≠ 0) :
    (times sarStep c cf a).1 = if c ≤ n then a.getLsbD (c - 1) else a.msb := by
  have hle : c - 1 < n ↔ c ≤ n := by omega
  rw [times_pred cf a sarStep hc, sarStep, times_sarStep, BitVec.getLsbD_sshiftRight]
  simp [hle, Nat.not_le.2 hn]

/-! Rotations add up. -/

theorem rotateLeft_zero {m : Nat} (w : BitVec m) : w.rotateLeft 0 = w := by
  ext i hi
  simp

theorem rotateLeft_add {m : Nat} (w : BitVec m) (c d : Nat) : w.rotateLeft (c + d) = (w.rotateLeft c).rotateLeft d :=
  BitVec.eq_of_getMsbD_eq fun i hi => by
    simp [BitVec.getMsbD_rotateLeft, hi, Nat.mod_lt _ (Nat.zero_lt_of_lt hi), Nat.add_assoc]

theorem getLsbD_rotateRight_mod {m i : Nat} (w : BitVec m) (c : Nat) (hi : i < m) :
    (w.rotateRight c).getLsbD i = w.getLsbD ((c + i) % m) := by
  have hmod : c % m < m := Nat.mod_lt _ (Nat.zero_lt_of_lt hi)
  rw [BitVec.getLsbD_rotateRight, ← Nat.mod_add_mod]
  by_cases hlow : i < m - c % m
  · simp [hlow, Nat.mod_eq_of_lt (show c % m + i < m by omega)]
  · have hwrap : (c % m + i) % m = i - (m - c % m) := by
      rw [Nat.mod_eq_sub_mod (by omega), Nat.mod_eq_of_lt (by omega)]
      omega
    simp [hlow, hi, hwrap]

theorem rotateRight_zero {m : Nat} (w : BitVec m) : w.rotateRight 0 = w := by
  ext i hi
  simp [hi]

theorem rotateRight_add {m : Nat} (w : BitVec m) (c d : Nat) : w.rotateRight (c + d) = (w.rotateRight c).rotateRight d :=
  BitVec.eq_of_getLsbD_eq fun i hi => by
    rw [getLsbD_rotateRight_mod _ _ hi, getLsbD_rotateRight_mod _ _ hi,
      getLsbD_rotateRight_mod _ _ (Nat.mod_lt _ (Nat.zero_lt_of_lt hi)), Nat.add_mod_mod, Nat.add_assoc]

/-! The rotates (R250 to R253): one step is a rotation by one place. -/

/-- A word with one bit at most. -/
theorem getLsbD_ofNat_bool (b : Bool) (k i : Nat) :
    (BitVec.ofNat n (b.toNat * 2 ^ k)).getLsbD i = (decide (i < n) && (decide (k = i) && b)) := by
  rw [BitVec.getLsbD_ofNat]
  cases b with
  | false => simp
  | true => simp [Nat.testBit_two_pow]

theorem getLsbD_ofNat_toNat (b : Bool) (i : Nat) :
    (BitVec.ofNat n b.toNat).getLsbD i = (decide (i < n) && (decide (0 = i) && b)) := by
  simpa using getLsbD_ofNat_bool (n := n) b 0 i

theorem ofNat_msb : BitVec.ofNat n a.msb.toNat = a >>> (n - 1) := by
  refine BitVec.eq_of_getLsbD_eq fun i hi => ?_
  rw [getLsbD_ofNat_toNat, BitVec.getLsbD_ushiftRight]
  cases i with
  | zero => simp [hi, BitVec.msb_eq_getLsbD_last]
  | succ i => simp [BitVec.getLsbD_of_ge a _ (show n ≤ n - 1 + (i + 1) by omega)]

theorem ofNat_lsb : BitVec.ofNat n ((a.getLsbD 0).toNat * 2 ^ (n - 1)) = a <<< (n - 1) := by
  refine BitVec.eq_of_getLsbD_eq fun i hi => ?_
  rw [getLsbD_ofNat_bool, BitVec.getLsbD_shiftLeft]
  by_cases h : n - 1 = i
  · simp [h, hi]
  · simp [h, hi, show i < n - 1 by omega]

theorem rolStep_eq (hn : 1 < n) : (rolStep cf a).2 = a.rotateLeft 1 := by
  rw [rolStep, ofNat_msb, BitVec.rotateLeft_def, Nat.mod_eq_of_lt hn]

theorem rorStep_eq (hn : 1 < n) : (rorStep cf a).2 = a.rotateRight 1 := by
  rw [rorStep, ofNat_lsb, BitVec.rotateRight_def, Nat.mod_eq_of_lt hn]

/-- The operand with CF as its high-order bit. -/
def withCarry (cf : Bool) (a : BitVec n) : BitVec (1 + n) := BitVec.ofBool cf ++ a

theorem withCarry_msb : (withCarry cf a).msb = cf := by
  simp [withCarry, BitVec.msb_append]

theorem getLsbD_withCarry (i : Nat) :
    (withCarry cf a).getLsbD i = if i < n then a.getLsbD i else decide (i = n) && cf := by
  rw [withCarry, BitVec.getLsbD_append, BitVec.getLsbD_ofBool]
  refine if_ctx_congr Iff.rfl (fun _ => rfl) fun hge => ?_
  simp only [show i - n = 0 ↔ i = n by omega]

theorem withCarry_setWidth : (withCarry cf a).setWidth n = a := by
  refine BitVec.eq_of_getLsbD_eq fun i hi => ?_
  rw [BitVec.getLsbD_setWidth, getLsbD_withCarry]
  simp [hi]

/-- Bit 0 gets CF, which is the high-order bit, and every other bit the one below it. -/
theorem withCarry_rclStep (hn : 0 < n) :
    withCarry (rclStep cf a).1 (rclStep cf a).2 = (withCarry cf a).rotateLeft 1 := by
  refine BitVec.eq_of_getLsbD_eq fun i hi => ?_
  rw [BitVec.getLsbD_rotateLeft, Nat.mod_eq_of_lt (show 1 < 1 + n by omega)]
  simp only [getLsbD_withCarry, rclStep, BitVec.getLsbD_or, getLsbD_ofNat_toNat, BitVec.getLsbD_shiftLeft,
    BitVec.msb_eq_getLsbD_last]
  rcases Nat.eq_zero_or_pos i with rfl | hpos
  · simp [hn]
  rcases Nat.lt_or_ge i n with hlt | hge
  · simp [hlt, hi, hpos.ne, hpos.ne', show i - 1 < n by omega]
  · obtain rfl : i = n := by omega
    simp [hpos.ne', show i - 1 < i by omega]

/-- The high-order bit gets CF, CF bit 0, and every other bit the one above it. -/
theorem withCarry_rcrStep (hn : 0 < n) :
    withCarry (rcrStep cf a).1 (rcrStep cf a).2 = (withCarry cf a).rotateRight 1 := by
  refine BitVec.eq_of_getLsbD_eq fun i hi => ?_
  rw [getLsbD_rotateRight_mod _ _ hi]
  simp only [getLsbD_withCarry, rcrStep, BitVec.getLsbD_or, getLsbD_ofNat_bool, BitVec.getLsbD_ushiftRight]
  rcases Nat.lt_or_ge i n with hlt | hge
  · rw [Nat.mod_eq_of_lt (by omega)]
    rcases Nat.lt_or_ge (1 + i) n with hinner | hhigh
    · simp [hlt, hinner, show n - 1 ≠ i by omega]
    · simp [hlt, show 1 + i = n by omega, show n - 1 = i by omega]
  · obtain rfl : i = n := by omega
    simp [hn]

theorem times_rolStep (hn : 1 < n) (c : Nat) : (times rolStep c cf a).2 = a.rotateLeft c :=
  times_view cf a (view := fun _ a => a) (move := BitVec.rotateLeft) rotateLeft_zero (fun x c => rotateLeft_add x c 1)
    (fun cf a => rolStep_eq cf a hn) c

theorem times_rorStep (hn : 1 < n) (c : Nat) : (times rorStep c cf a).2 = a.rotateRight c :=
  times_view cf a (view := fun _ a => a) (move := BitVec.rotateRight) rotateRight_zero
    (fun x c => rotateRight_add x c 1) (fun cf a => rorStep_eq cf a hn) c

theorem withCarry_times_rclStep (hn : 0 < n) (c : Nat) :
    withCarry (times rclStep c cf a).1 (times rclStep c cf a).2 = (withCarry cf a).rotateLeft c :=
  times_view cf a (move := BitVec.rotateLeft) rotateLeft_zero (fun x c => rotateLeft_add x c 1)
    (fun cf a => withCarry_rclStep cf a hn) c

theorem withCarry_times_rcrStep (hn : 0 < n) (c : Nat) :
    withCarry (times rcrStep c cf a).1 (times rcrStep c cf a).2 = (withCarry cf a).rotateRight c :=
  times_view cf a (move := BitVec.rotateRight) rotateRight_zero (fun x c => rotateRight_add x c 1)
    (fun cf a => withCarry_rcrStep cf a hn) c

/-- ROL leaves in CF the bit that has come round to bit 0. -/
theorem times_rolStep_carry (hn : 0 < n) (hc : c ≠ 0) :
    (times rolStep c cf a).1 = (times rolStep c cf a).2.getLsbD 0 := by
  refine times_last (P := fun cf a => cf = a.getLsbD 0) cf a (fun cf a => ?_) hc
  rw [rolStep, BitVec.getLsbD_or, getLsbD_ofNat_toNat]
  simp [hn]

/-- ROR leaves in CF the bit that has come round to the high-order bit. -/
theorem times_rorStep_carry (hn : 0 < n) (hc : c ≠ 0) :
    (times rorStep c cf a).1 = (times rorStep c cf a).2.msb := by
  refine times_last (P := fun cf a => cf = a.msb) cf a (fun cf a => ?_) hc
  have hout : a.getLsbD (1 + (n - 1)) = false := BitVec.getLsbD_of_ge a _ (by omega)
  rw [rorStep, BitVec.msb_eq_getLsbD_last, BitVec.getLsbD_or, getLsbD_ofNat_bool, BitVec.getLsbD_ushiftRight, hout]
  simp [hn]

end

/-! The flags of the operations. -/

section
variable {n : Nat} (s : State)

theorem shiftFlags_spec (c : Nat) (cf ofOne : Bool) (r : BitVec n) :
    Szp (shiftFlags s c cf ofOne r) r ∧ (c = 1 → (shiftFlags s c cf ofOne r).of = ofOne) :=
  ⟨szp_setSzp s.flags r, fun hone => if_pos hone⟩

theorem rotateFlags_spec (c : Nat) (cf ofOne : Bool) (r : BitVec n) :
    rotateFlags s c cf ofOne r = { s.flags with cf := cf, of := (rotateFlags s c cf ofOne r).of } ∧
      (rotateFlags s c cf ofOne r).cf = cf ∧ (c = 1 → (rotateFlags s c cf ofOne r).of = ofOne) :=
  ⟨rfl, rfl, fun hone => if_pos hone⟩

end

/-- Settles O22: `c` one-place steps shift by `c` places, and the last of them leaves CF. -/
theorem shiftsClosedForm : Obligations.ShiftsClosedForm := by
  refine ⟨shiftResult_of_shiftOp fun {n} s a c hn hc => ?_, shiftResult_of_shiftOp fun {n} s a c hn hc => ?_,
    shiftResult_of_shiftOp fun {n} s a c hn hc => ?_⟩
  · simp only [← shiftLeft_eq_ofNat, ← times_shlStep s.flags.cf a]
    obtain ⟨hszp, hof⟩ := shiftFlags_spec s c _ _ _
    exact ⟨rfl, hszp, times_shlStep_carry s.flags.cf a hc, hof⟩
  · simp only [← ushiftRight_eq_ofNat, ← times_shrStep s.flags.cf a]
    obtain ⟨hszp, hof⟩ := shiftFlags_spec s c _ _ _
    exact ⟨rfl, hszp, times_shrStep_carry s.flags.cf a hc, hof⟩
  · simp only [← sshiftRight_eq_ofInt, ← times_sarStep s.flags.cf a]
    obtain ⟨hszp, hof⟩ := shiftFlags_spec s c _ _ _
    exact ⟨rfl, hszp, times_sarStep_carry s.flags.cf a (Nat.zero_lt_of_lt hn) hc, hof⟩

/-- Settles O23: `c` one-place steps rotate by `c` places, those through CF the operand with CF above it. -/
theorem rotatesClosedForm : Obligations.RotatesClosedForm := by
  refine ⟨shiftResult_of_shiftOp fun {n} s a c hn hc => ?_, shiftResult_of_shiftOp fun {n} s a c hn hc => ?_,
    shiftResult_of_shiftOp fun {n} s a c hn hc => ?_, shiftResult_of_shiftOp fun {n} s a c hn hc => ?_⟩
  · simp only [← times_rolStep s.flags.cf a hn]
    obtain ⟨hframe, -, hof⟩ := rotateFlags_spec s c _ _ _
    exact ⟨rfl, hframe, times_rolStep_carry s.flags.cf a (Nat.zero_lt_of_lt hn) hc, hof⟩
  · simp only [← times_rorStep s.flags.cf a hn]
    obtain ⟨hframe, -, hof⟩ := rotateFlags_spec s c _ _ _
    exact ⟨rfl, hframe, times_rorStep_carry s.flags.cf a (Nat.zero_lt_of_lt hn) hc, hof⟩
  · have hword := withCarry_times_rclStep s.flags.cf a (Nat.zero_lt_of_lt hn) c
    rw [withCarry.eq_def s.flags.cf] at hword
    simp only [← hword, withCarry_msb, withCarry_setWidth]
    exact ⟨rfl, rotateFlags_spec s c ..⟩
  · have hword := withCarry_times_rcrStep s.flags.cf a (Nat.zero_lt_of_lt hn) c
    rw [withCarry.eq_def s.flags.cf] at hword
    simp only [← hword, withCarry_msb, withCarry_setWidth]
    exact ⟨rfl, rotateFlags_spec s c ..⟩

end Sys2Proof.Proofs

/-! PROOFS. Statements of 43_string.md: one element of a string instruction (R270 to R277), and its repetition (R278, R279). -/
namespace Sys2Proof.Proofs
open Sys2Proof Sys2Proof.Machine Sys2Proof.Claims

/-! Running an element. -/

/-- A word at port FFFF is refused before the element is run (log 16). -/
def refusesPort (s : State) : StringOp → Bool
  | .insw => s.stringWrapsPort (s.insCheck 2)
  | .outsw => s.stringWrapsPort (s.outsCheck 2)
  | _ => false

/-- All string instructions run alike but for that refusal. -/
theorem exec_stringOp (op : StringOp) (s : State) :
    exec op.instr s = if refusesPort s op then .refused .portWordWrap else stringInstr s op (element op) := by
  cases op <;> exact (exec.eq_def ..).trans rfl

section
variable {s u : State} {op : StringOp} {n : Nat}

/-- The write of INS makes no check that was not made before the port was read (43_string.md R276). -/
theorem insWord_answers_iff : (∃ u, s.insWord = .ok u) ↔ s.insCheck 2 = .ok () := by
  simp only [State.insWord, bind_ok, pure_ok, exists_unit]
  refine ⟨fun ⟨_, hcheck, _⟩ => hcheck, fun hcheck => ?_⟩
  obtain ⟨-, -, hwrite⟩ := bind_ok.1 hcheck
  exact ⟨_, hcheck, _, lwrite16_ok.2 ⟨hwrite, rfl⟩, rfl⟩

/-- The read of OUTS makes no check that was not made before (43_string.md R277). -/
theorem outsWord_answers_iff : (∃ u, s.outsWord = .ok u) ↔ s.outsCheck 2 = .ok () := by
  simp only [State.outsWord, bind_ok, pure_ok, exists_unit]
  refine ⟨fun ⟨_, hcheck, _⟩ => hcheck, fun hcheck => ?_⟩
  obtain ⟨-, -, hread⟩ := bind_ok.1 hcheck
  exact ⟨_, hcheck, _, lread16_ok.2 ⟨hread, rfl⟩, rfl⟩

theorem stringWrapsPort_iff {c : Res Unit} :
    s.stringWrapsPort c = true ↔
      s.regs.dx = 0xFFFF ∧ (s.pfx.rep = none ∨ s.pfx.rep = some .rep ∧ s.regs.cx ≠ 0) ∧ c = .ok () := by
  cases c <;> simp [State.stringWrapsPort]

/-- What is refused for its port is an element that would have been done (log 16). -/
theorem refusesPort_iff :
    refusesPort s op = true ↔
      WrapsPort s op ∧ (s.pfx.rep = none ∨ s.pfx.rep = some .rep ∧ s.regs.cx ≠ 0) ∧ ∃ u, element op s.begin = .ok u := by
  cases op
  case insw =>
    have hanswers : (∃ u, element .insw s.begin = .ok u) ↔ s.insCheck 2 = .ok () := insWord_answers_iff (s := s.begin)
    simp [refusesPort, stringWrapsPort_iff, hanswers, WrapsPort]
  case outsw =>
    have hanswers : (∃ u, element .outsw s.begin = .ok u) ↔ s.outsCheck 2 = .ok () := outsWord_answers_iff (s := s.begin)
    simp [refusesPort, stringWrapsPort_iff, hanswers, WrapsPort]
  all_goals simp [refusesPort, WrapsPort]

theorem exec_of_refusesPort (h : refusesPort s op = true) : exec op.instr s = .refused .portWordWrap :=
  (exec_stringOp op s).trans (if_pos h)

theorem exec_of_not_refusesPort (h : ¬refusesPort s op = true) : exec op.instr s = stringInstr s op (element op) :=
  (exec_stringOp op s).trans (if_neg h)

theorem not_refusesPort_of_not_wrapsPort (h : ¬WrapsPort s op) : ¬refusesPort s op = true :=
  fun hrefused => h (refusesPort_iff.1 hrefused).1

theorem not_refusesPort_of_error {r : Raise} (h : element op s.begin = .error r) : ¬refusesPort s op = true := by
  simp [refusesPort_iff, h]

theorem not_wrapsPort (hi : op ≠ .insw) (ho : op ≠ .outsw) : ¬WrapsPort s op := fun ⟨_, h⟩ => h.elim hi ho

/-! One element, not repeated. -/

theorem exec_single (hrep : NoRep s) (hport : ¬WrapsPort s op) : exec op.instr s = plain s (element op) := by
  rw [exec_of_not_refusesPort (not_refusesPort_of_not_wrapsPort hport)]
  simp only [stringInstr, hrep]

/-- An element that changes data only ends in its own state. -/
theorem ended_of_element (hrep : NoRep s) (hport : ¬WrapsPort s op) (hu : element op s.begin = .ok u)
    (hdata : OnlyData s.begin u) : exec op.instr s = .next (after s u s.ipNext) ∧ Ended s (after s u s.ipNext) :=
  ended_of_plain hrep (exec_single hrep hport) hu hdata

theorem raises_of_element {e : Exc} (hrep : NoRep s) (h : element op s.begin = raise e) : Raises op.instr s e :=
  (exec_of_not_refusesPort (not_refusesPort_of_error h)).trans (stringInstr_error hrep h)

/-! The parts of an element. -/

theorem moved_eq_add_delta (p : Word) : moved s p n = p + s.delta n := by
  unfold moved State.delta
  split
  · exact BitVec.sub_eq_add_neg ..
  · rfl

theorem lwrite8_target (h : Fits s .es s.regs.di.toNat 1 true) (v : Byte) :
    s.lwrite8 .es s.regs.di v = .ok (s.write8 (s.linear .es s.regs.di.toNat) v) :=
  lwrite8_ok.2 ⟨check_ok_iff_fits.2 h, rfl⟩

theorem lwrite16_target (h : Fits s .es s.regs.di.toNat 2 true) (v : Word) :
    s.lwrite16 .es s.regs.di v = .ok (s.write16 (s.linear .es s.regs.di.toNat) v) :=
  lwrite16_ok.2 ⟨check_ok_iff_fits.2 h, rfl⟩

theorem insCheck_of_fits (hio : s.msw.pe = false ∨ s.cpl ≤ s.flags.iopl) (h : Fits s .es s.regs.di.toNat n true) :
    s.insCheck n = .ok () := (require_trusted_bind hio).trans (check_ok_iff_fits.2 h)

theorem outsCheck_of_fits (hio : s.msw.pe = false ∨ s.cpl ≤ s.flags.iopl)
    (h : Fits s (s.segOr .ds) s.regs.si.toNat n false) : s.outsCheck n = .ok () :=
  (require_trusted_bind hio).trans (check_ok_iff_fits.2 h)

end

/-- Settles O37: where its accesses fit, an element makes them in turn and then moves its pointers. -/
theorem stringElement : Obligations.StringElement := by
  rintro s g hrep rfl
  simp only [moved_eq_add_delta]
  refine ⟨fun hsrc hdst => ?_, fun hsrc hdst => ?_, fun hsrc hdst => ?_, fun hsrc hdst => ?_, fun hdst => ?_,
    fun hdst => ?_, fun hsrc => ?_, fun hsrc => ?_, fun hdst => ?_, fun hdst => ?_⟩
  · obtain ⟨hnext, hended⟩ := ended_of_element (op := .movsb) hrep (not_wrapsPort nofun nofun)
      ((ok_bind (lread8_of_fits (s := s.begin) hsrc)).trans (ok_bind (lwrite8_target (s := s.begin) hdst _))) rfl
    exact ⟨_, hnext, hended, rfl, rfl, write8_storedByte ..⟩
  · obtain ⟨hnext, hended⟩ := ended_of_element (op := .movsw) hrep (not_wrapsPort nofun nofun)
      ((ok_bind (lread16_of_fits (s := s.begin) hsrc)).trans (ok_bind (lwrite16_target (s := s.begin) hdst _))) rfl
    exact ⟨_, hnext, hended, rfl, rfl, write16_storedWord ..⟩
  · obtain ⟨hnext, hended⟩ := ended_of_element (op := .cmpsb) hrep (not_wrapsPort nofun nofun)
      ((ok_bind (lread8_of_fits (s := s.begin) hsrc)).trans (ok_bind (lread8_of_fits (s := s.begin) hdst))) rfl
    refine ⟨_, hnext, hended, memSame_of_mem rfl, controlKept_subOp .., rfl, ?_⟩
    rintro _ _ rfl rfl
    exact subOp_flags s.begin _ _ (by decide)
  · obtain ⟨hnext, hended⟩ := ended_of_element (op := .cmpsw) hrep (not_wrapsPort nofun nofun)
      ((ok_bind (lread16_of_fits (s := s.begin) hsrc)).trans (ok_bind (lread16_of_fits (s := s.begin) hdst))) rfl
    refine ⟨_, hnext, hended, memSame_of_mem rfl, controlKept_subOp .., rfl, ?_⟩
    rintro _ _ rfl rfl
    exact subOp_flags s.begin _ _ (by decide)
  · obtain ⟨hnext, hended⟩ := ended_of_element (op := .scasb) hrep (not_wrapsPort nofun nofun)
      (ok_bind (lread8_of_fits (s := s.begin) hdst)) rfl
    refine ⟨_, hnext, hended, memSame_of_mem rfl, controlKept_subOp .., rfl, ?_⟩
    rintro _ rfl
    exact subOp_flags s.begin _ _ (by decide)
  · obtain ⟨hnext, hended⟩ := ended_of_element (op := .scasw) hrep (not_wrapsPort nofun nofun)
      (ok_bind (lread16_of_fits (s := s.begin) hdst)) rfl
    refine ⟨_, hnext, hended, memSame_of_mem rfl, controlKept_subOp .., rfl, ?_⟩
    rintro _ rfl
    exact subOp_flags s.begin _ _ (by decide)
  · obtain ⟨hnext, hended⟩ := ended_of_element (op := .lodsb) hrep (not_wrapsPort nofun nofun)
      (ok_bind (lread8_of_fits (s := s.begin) hsrc)) rfl
    exact ⟨_, hnext, hended, memSame_of_mem rfl, rfl, rfl⟩
  · obtain ⟨hnext, hended⟩ := ended_of_element (op := .lodsw) hrep (not_wrapsPort nofun nofun)
      (ok_bind (lread16_of_fits (s := s.begin) hsrc)) rfl
    exact ⟨_, hnext, hended, memSame_of_mem rfl, rfl, rfl⟩
  · obtain ⟨hnext, hended⟩ := ended_of_element (op := .stosb) hrep (not_wrapsPort nofun nofun)
      (ok_bind (lwrite8_target (s := s.begin) hdst _)) rfl
    exact ⟨_, hnext, hended, rfl, rfl, write8_storedByte ..⟩
  · obtain ⟨hnext, hended⟩ := ended_of_element (op := .stosw) hrep (not_wrapsPort nofun nofun)
      (ok_bind (lwrite16_target (s := s.begin) hdst _)) rfl
    exact ⟨_, hnext, hended, rfl, rfl, write16_storedWord ..⟩

/-- Settles O38: past the privilege the port is read or written, but for a word at FFFF. -/
theorem blockIo : Obligations.BlockIo := by
  rintro s g hrep rfl
  simp only [moved_eq_add_delta]
  refine ⟨fun hio => ⟨fun hdst => ?_, fun hdst hdx => ?_, fun hsrc => ?_, fun hsrc hdx => ?_,
    fun hdx => ⟨fun hdst => ?_, fun hsrc => ?_⟩⟩, fun hpe hcpl => ?_⟩
  · obtain ⟨hnext, hended⟩ := ended_of_element (op := .insb) hrep (not_wrapsPort nofun nofun)
      ((ok_bind (insCheck_of_fits (s := s.begin) hio hdst)).trans (ok_bind (lwrite8_target (s := s.begin) hdst _))) rfl
    exact ⟨_, hnext, hended, rfl, rfl, write8_storedByte ..⟩
  · obtain ⟨hnext, hended⟩ := ended_of_element (op := .insw) hrep (fun h => hdx h.1)
      ((ok_bind (insCheck_of_fits (s := s.begin) hio hdst)).trans (ok_bind (lwrite16_target (s := s.begin) hdst _))) rfl
    exact ⟨_, hnext, hended, rfl, rfl, write16_storedWord ..⟩
  · exact exec_of_plain_begin hrep (exec_single (op := .outsb) hrep (not_wrapsPort nofun nofun))
      ((ok_bind (outsCheck_of_fits (s := s.begin) hio hsrc)).trans (ok_bind (lread8_of_fits (s := s.begin) hsrc))) rfl
  · exact exec_of_plain_begin hrep (exec_single (op := .outsw) hrep (fun h => hdx h.1))
      ((ok_bind (outsCheck_of_fits (s := s.begin) hio hsrc)).trans (ok_bind (lread16_of_fits (s := s.begin) hsrc))) rfl
  · exact exec_of_refusesPort (op := .insw) (refusesPort_iff.2 ⟨⟨hdx, .inl rfl⟩, .inl hrep,
      insWord_answers_iff.2 (insCheck_of_fits (s := s.begin) hio hdst)⟩)
  · exact exec_of_refusesPort (op := .outsw) (refusesPort_iff.2 ⟨⟨hdx, .inr rfl⟩, .inl hrep,
      outsWord_answers_iff.2 (outsCheck_of_fits (s := s.begin) hio hsrc)⟩)
  · have hraise {f : Unit → Res Unit} :
        (require s.begin.trusted (.generalProtection 0) >>= f) = raise (.generalProtection 0) :=
      require_trusted_raises (s := s.begin) hpe hcpl
    simp only [List.forall_mem_cons, List.not_mem_nil, IsEmpty.forall_iff, implies_true, and_true]
    exact ⟨raises_of_element (op := .insb) hrep (bind_raise hraise), raises_of_element (op := .insw) hrep (bind_raise hraise),
      raises_of_element (op := .outsb) hrep (bind_raise hraise), raises_of_element (op := .outsw) hrep (bind_raise hraise)⟩

/-! Repetition. -/

/-- The list of the string instructions says of each operation what the model says. -/
theorem elements_eq_map : elements =
    [.movsb, .movsw, .cmpsb, .cmpsw, .scasb, .scasw, .lodsb, .lodsw, .stosb, .stosw, .insb, .insw, .outsb, .outsw].map
      fun op => (op, op.instr, op.compares, element op) := rfl

/-- An element changes registers, flags, memory and the record of port writes at most. -/
def ElementFrame (s t : State) : Prop :=
  t = { s with regs := t.regs, flags := t.flags, mem := t.mem, portTrace := t.portTrace }

theorem meets_elementFrame (s : State) (op : StringOp) : Meets (fun _ => True) (ElementFrame s) (element op s) := by
  cases op with
  | movsb | stosb | insb =>
    simp only [element, State.movsByte, State.stosByte, State.insByte, State.insCheck, State.lwrite8, meets_bind,
      meets_lread8, meets_require, meets_check, meets_pure]
    intros
    rfl
  | movsw | stosw | insw =>
    simp only [element, State.movsWord, State.stosWord, State.insWord, State.insCheck, State.lwrite16, meets_bind,
      meets_lread16, meets_require, meets_check, meets_pure]
    intros
    rfl
  | cmpsb | cmpsw | scasb | scasw | lodsb | lodsw =>
    simp only [element, State.cmpsByte, State.cmpsWord, State.scasByte, State.scasWord, State.lodsByte, State.lodsWord,
      meets_bind, meets_lread8, meets_lread16, meets_pure]
    intros
    rfl
  | outsb | outsw =>
    simp only [element, State.outsByte, State.outsWord, State.outsCheck, meets_bind, meets_lread8, meets_lread16,
      meets_require, meets_check, meets_pure]
    intros
    rfl

section
variable {s t u : State} {op : StringOp} {p : Rep}

theorem element_frame (h : element op s = .ok u) :
    ∃ regs flags mem trace, u = { s with regs := regs, flags := flags, mem := mem, portTrace := trace } :=
  ⟨_, _, _, _, (meets_elementFrame s op).answered h⟩

theorem repeatDone_iff_over {compares : Bool} :
    repeatDone p compares { u with regs := { u.regs with cx := u.regs.cx - 1 } } = true ↔ Over u p compares := by
  have hcx : u.regs.cx - 1 = 0 ↔ u.regs.cx = 1 := sub_eq_zero
  have hzf : (u.flags.zf != decide (p = .rep)) = true ↔ (u.flags.zf = true ↔ p = .repne) := by
    cases p <;> cases u.flags.zf <;> decide
  simp only [repeatDone, Over, Bool.or_eq_true, Bool.and_eq_true, decide_eq_true_eq, hcx, hzf]

/-- Under a REP or REPNE that it takes, an instruction that is not refused makes one turn of the loop. -/
theorem exec_of_repeatTurn (hrep : s.pfx.rep = some p) (htakes : op.compares = true ∨ p = .rep)
    (hport : ¬refusesPort s op = true) (h : repeatTurn s op p (element op) = .ok t) : exec op.instr s = .next t :=
  (exec_of_not_refusesPort hport).trans ((stringInstr_repeated hrep htakes.symm).2 (.inl h))

/-- With CX = 0 nothing is done (43_string.md R278). -/
theorem exec_of_cx_zero (hrep : s.pfx.rep = some p) (htakes : op.compares = true ∨ p = .rep) (hcx : s.regs.cx = 0) :
    exec op.instr s = .next (after s s s.ipNext) := by
  have hport : ¬refusesPort s op = true := by simp [refusesPort_iff, hrep, hcx]
  exact exec_of_repeatTurn hrep htakes hport (repeatTurn_ok.2 (.inl ⟨hcx, completed_advance rfl rfl⟩))

/-- Only INSW and OUTSW use a word port, and they do not compare: it is F3 that repeats them. -/
theorem exec_repeated_wrapsPort (hrep : s.pfx.rep = some p) (htakes : op.compares = true ∨ p = .rep)
    (hcx : s.regs.cx ≠ 0) (hu : element op s.begin = .ok u) (hport : WrapsPort s op) :
    exec op.instr s = .refused .portWordWrap := by
  have hp : p = .rep := by
    obtain ⟨-, rfl | rfl⟩ := hport <;> exact htakes.resolve_left nofun
  exact exec_of_refusesPort (refusesPort_iff.2 ⟨hport, .inr ⟨hp ▸ hrep, hcx⟩, u, hu⟩)

/-- One element is done, and CX or the comparison decides whether the repetition is over (43_string.md R278, R279). -/
theorem exec_repeated_element (hrep : s.pfx.rep = some p) (htakes : op.compares = true ∨ p = .rep)
    (hcx : s.regs.cx ≠ 0) (hu : element op s.begin = .ok u) (hport : ¬WrapsPort s op) :
    (Over u p op.compares →
      exec op.instr s = .next (after s { u with regs := { u.regs with cx := u.regs.cx - 1 } } s.ipNext)) ∧
    (¬Over u p op.compares →
      exec op.instr s = .next { u with
        regs := { u.regs with cx := u.regs.cx - 1 }
        ip := s.ip, pfx := s.pfx, again := some op, shadow := s.shadow
        trapPending := s.flags.tf && decide (s.shadow = .none) }) := by
  have hturn {t : State} (ht : ∀ v, v = { u with regs := { u.regs with cx := u.regs.cx - 1 } } →
      (if repeatDone p op.compares v then s.completed v.advance else s.between v op) = t) : exec op.instr s = .next t :=
    exec_of_repeatTurn hrep htakes (not_refusesPort_of_not_wrapsPort hport) (repeatTurn_ok.2 (.inr ⟨hcx, u, hu, ht⟩))
  obtain ⟨regs, flags, mem, trace, rfl⟩ := element_frame hu
  refine ⟨fun hover => hturn ?_, fun hover => hturn ?_⟩
  · rintro _ rfl
    rw [if_pos (repeatDone_iff_over.2 hover)]
    exact completed_advance rfl rfl
  · rintro _ rfl
    rw [if_neg (mt repeatDone_iff_over.1 hover)]
    rfl

/-- An element that faults leaves CX as it was (43_string.md R270, R278). -/
theorem raises_of_repeated_element {e : Exc} (hrep : s.pfx.rep = some p) (htakes : op.compares = true ∨ p = .rep)
    (hcx : s.regs.cx ≠ 0) (h : element op s.begin = raise e) : Raises op.instr s e := by
  have hturn : repeatTurn s op p (element op) = raise e := (if_neg hcx).trans (bind_raise h)
  exact (exec_of_not_refusesPort (not_refusesPort_of_error h)).trans
    ((stringInstr_repeated hrep htakes.symm).2 (.inr ⟨_, hturn, rfl⟩))

/-- F2 before an instruction that does not compare is refused, whatever its port (log 13). -/
theorem exec_repne_of_not_compares (hrep : s.pfx.rep = some .repne) (hcompares : op.compares = false) :
    exec op.instr s = .refused .repneOfNonCompare := by
  have hport : ¬refusesPort s op = true := by simp [refusesPort_iff, hrep]
  rw [exec_of_not_refusesPort hport]
  simp [stringInstr, hrep, hcompares]

end

/-- Settles O39: one turn of the loop, by whether CX is 0, what its element answers and whether the repetition is over. -/
theorem repeatedString : Obligations.RepeatedString := by
  intro op i compares f hmem
  rw [elements_eq_map] at hmem
  obtain ⟨_, -, ⟨⟩⟩ := List.mem_map.1 hmem
  refine ⟨rfl, fun s p hrep => ⟨fun htakes => ⟨exec_of_cx_zero hrep htakes, fun hcx => ⟨fun u hu => ?_, fun u hu => ?_,
    fun x => ?_⟩⟩, ?_⟩⟩
  · exact exec_repeated_wrapsPort hrep htakes hcx hu
  · exact exec_repeated_element hrep htakes hcx hu
  · exact raises_of_repeated_element hrep htakes hcx
  · rintro hcompares rfl
    exact exec_repne_of_not_compares hrep hcompares

end Sys2Proof.Proofs

/-! PROOFS. Statements of 44_control_transfer.md about the conditional jumps (R290, R291), the loops (R302 to R305) and the near
transfers (R292, R293, R296, R298, R299). -/
namespace Sys2Proof.Proofs
open Sys2Proof Sys2Proof.Machine Sys2Proof.Claims

/-! Instructions that set IP. -/

section
variable {i : Instr} {s u : State} {f : State → Res State} {rel : Byte} {target : Word}

/-- `u` as an instruction leaves it that completed without a shadow and set IP itself. -/
theorem completed_of_no_shadow (h : u.shadow = .none) : s.completed u = after s u u.ip := by
  simp [State.completed, after, h]

theorem exec_of_transfer (hrep : NoRep s) (hexec : exec i s = transfer s f) (hf : f s.begin = .ok u)
    (h : u.shadow = .none) : exec i s = .next (after s u u.ip) := by
  rw [hexec, transfer_ok hrep hf, completed_of_no_shadow h]

/-- The meaning of a near transfer to `target` whose other changes are those of `u`. -/
def nearTo (s u : State) (target : Word) : Res State := do
  require (decide (target.toNat ≤ s.codeLimit)) (.generalProtection 0)
  pure { u with ip := target, queueEmpty := true }

theorem jumpNear_eq_nearTo (s : State) (target : Word) : s.jumpNear target = nearTo s s target := rfl

theorem jumpsTo_of_transfer (hrep : NoRep s) (hexec : exec i s = transfer s f)
    (hf : f s.begin = nearTo s u.begin target) : JumpsTo i s u target := by
  refine ⟨fun h => ?_, fun h => ?_⟩
  · exact exec_of_transfer hrep hexec (hf.trans (require_bind (decide_eq_true h))) rfl
  · exact raises_of_transfer hrep hexec
      (hf.trans (bind_raise (require_eq_raise.2 ⟨decide_eq_false (Nat.not_le.2 h), rfl⟩)))

/-- A conditional jump, after the changes of `u`, goes on at `ip_next` or to its target (44_control_transfer.md R291). -/
theorem branches_of_transfer {b : Bool} (hrep : NoRep s) (hexec : exec i s = transfer s f)
    (hf : f s.begin = u.begin.branch b rel) (hcs : u.codeLimit = s.codeLimit) (hip : u.ipNext = s.ipNext) :
    (b = true → JumpsTo i s u (s.ipNext + rel.signExtend 16)) ∧
    (b = false → exec i s = .next (after s u s.ipNext)) := by
  refine ⟨?_, ?_⟩
  · rintro rfl
    refine jumpsTo_of_transfer hrep hexec (hf.trans ?_)
    rw [← hip, nearTo, ← hcs]
    rfl
  · rintro rfl
    rw [← hip]
    exact exec_of_transfer hrep hexec hf rfl

end

/-! The conditional jumps (44_control_transfer.md R291). -/

theorem encode_jcc : ∀ e ∈ jccs, ∀ rel, encode (e.1 rel) = [e.2.1, rel] := by
  simp only [jccs, List.forall_mem_cons, List.not_mem_nil, IsEmpty.forall_iff, implies_true, and_true]
  and_intros <;> exact fun _ => rfl

theorem exec_jcc : ∀ e ∈ jccs, ∀ rel s, exec (e.1 rel) s = transfer s fun t => t.branch (e.2.2 t.flags) rel := by
  simp only [jccs, List.forall_mem_cons, List.not_mem_nil, IsEmpty.forall_iff, implies_true, and_true]
  and_intros <;> exact fun _ _ => (exec.eq_def ..).trans rfl

/-- Settles O40: each jump is one branch on its condition. -/
theorem conditionalJumps : Obligations.ConditionalJumps := by
  intro e he s rel
  refine ⟨encode_jcc e he rel, fun hrep => ?_⟩
  obtain ⟨htaken, hnot⟩ := branches_of_transfer (u := s) hrep (exec_jcc e he rel s) rfl rfl rfl
  exact ⟨hnot, htaken⟩

/-! LOOP, LOOPZ, LOOPNZ and JCXZ (44_control_transfer.md R302 to R305). -/

/-- The loops count CX down and jump on it and on `z`. -/
theorem exec_loops {s : State} {rel : Byte} {i : Instr} {z : Bool}
    (h : (i = Instr.loop rel ∧ z = true) ∨ (i = .loopz rel ∧ z = s.flags.zf) ∨
      (i = .loopnz rel ∧ z = !s.flags.zf)) :
    ∃ f, exec i s = transfer s f ∧ f s.begin = s.begin.countCx.branch (decide (s.regs.cx - 1 ≠ 0) && z) rel := by
  rcases h with ⟨rfl, rfl⟩ | ⟨rfl, rfl⟩ | ⟨rfl, rfl⟩
  · refine ⟨_, (exec.eq_def ..).trans rfl, ?_⟩
    rw [Bool.and_true]
    rfl
  · exact ⟨_, (exec.eq_def ..).trans rfl, rfl⟩
  · exact ⟨_, (exec.eq_def ..).trans rfl, rfl⟩

/-- Settles O41: each loop is one branch after the count, and JCXZ one on CX as it is. -/
theorem loops : Obligations.Loops := by
  intro s rel
  refine ⟨rfl, rfl, rfl, rfl, ?_⟩
  rintro hrep _ rfl
  refine ⟨fun i z hi => ?_, ?_⟩
  · obtain ⟨f, hexec, hf⟩ := exec_loops hi
    obtain ⟨htaken, hnot⟩ := branches_of_transfer (u := s.countCx) hrep hexec hf rfl rfl
    refine ⟨fun ⟨hcx, hz⟩ => htaken (Bool.and_eq_true_iff.2 ⟨decide_eq_true (sub_ne_zero.2 hcx), hz⟩),
      fun hdone => hnot ?_⟩
    · rcases hdone with hcx | hz
      · simp [hcx]
      · simp [hz]
  · obtain ⟨htaken, hnot⟩ := branches_of_transfer (i := .jcxz rel) (u := s) hrep ((exec.eq_def ..).trans rfl) rfl rfl rfl
    exact ⟨fun hcx => htaken (decide_eq_true hcx), fun hcx => hnot (decide_eq_false hcx)⟩

/-! Near JMP, CALL and RET (44_control_transfer.md R292, R293, R296, R298, R299). -/

section
variable {s : State} {k : Nat} {e : Exc} {i : Instr} {n target : Word}

theorem stackWord_of_fits (h : StackFits s k) : s.stackWord k = .ok (stackAt s k) := lread16_of_fits h

theorem stackWord_eq_raise : s.stackWord k = raise e ↔ ¬StackFits s k ∧ AccessExc s .ss false e := lread16_eq_raise

theorem stackFits_zero : StackFits s 0 ↔ PopFits s := by simp [StackFits, PopFits]

theorem stackAt_zero (s : State) : stackAt s 0 = top s := by simp [stackAt, top]

theorem exec_nearCall (h : (∃ rel, i = Instr.callRel16 rel ∧ target = s.ipNext + rel) ∨
      ∃ rm, i = Instr.callRm16 rm ∧ Readable16 s rm ∧ target = value16 s rm) :
    ∃ f, exec i s = transfer s f ∧ f s.begin = s.begin.callNear target := by
  rcases h with ⟨rel, rfl, rfl⟩ | ⟨rm, rfl, hread, rfl⟩
  · exact ⟨_, (exec.eq_def ..).trans rfl, rfl⟩
  · exact ⟨_, (exec.eq_def ..).trans rfl, ok_bind (readRm16_of_readable (s := s.begin) hread)⟩

theorem exec_nearRet (h : (i = Instr.ret ∧ n = 0) ∨ i = .retImm16 n) :
    ∃ f, exec i s = transfer s f ∧ f s.begin = s.begin.retNear n := by
  rcases h with ⟨rfl, rfl⟩ | rfl <;> exact ⟨_, (exec.eq_def ..).trans rfl, rfl⟩

theorem retNear_of_fits (h : PopFits s) :
    s.retNear n = nearTo s { s with regs := { s.regs with sp := s.regs.sp + 2 + n } } (top s) := by
  rw [← stackAt_zero]
  refine (ok_bind (stackWord_of_fits (stackFits_zero.2 h))).trans ?_
  rw [jumpNear_eq_nearTo, nearTo, nearTo]
  simp only [bind_assoc, pure_bind]

theorem nearCall_completes (hrep : NoRep s) {f : State → Res State} (hexec : exec i s = transfer s f)
    (hf : f s.begin = s.begin.callNear target) (htarget : target.toNat ≤ s.codeLimit) (hfits : PushFits s) :
    ∃ t, exec i s = .next t ∧ Pushed s t s.ipNext ∧
      t = after s { s with regs := t.regs, mem := t.mem, queueEmpty := true } target := by
  obtain ⟨u, hu, -, -, hpushed⟩ := push_of_fits (s := s.begin) hfits s.ipNext
  have hframe := push_frame hu
  have hlimit : u.codeLimit = s.codeLimit := by
    rw [hframe]
    rfl
  have hjump : u.jumpNear target = .ok { u with ip := target, queueEmpty := true } :=
    jumpNear_ok.2 ⟨hlimit ▸ htarget, rfl⟩
  have hok : s.begin.callNear target = .ok { u with ip := target, queueEmpty := true } :=
    (require_bind (decide_eq_true htarget)).trans ((ok_bind hu).trans hjump)
  refine ⟨_, exec_of_transfer hrep hexec (hf.trans hok) ?_, hpushed, ?_⟩
  · rw [hframe]
    rfl
  · rw [hframe]
    rfl

/-- Settles O42: every near transfer checks its target, CALL before its push and RET after its read. -/
theorem nearTransfers : Obligations.NearTransfers := by
  intro s hrep
  refine ⟨fun rel => ?_, fun rel => ?_, fun rm hread => ?_, fun i target hi => ?_, fun i n hi => ?_⟩
  · exact jumpsTo_of_transfer hrep ((exec.eq_def ..).trans rfl) rfl
  · exact jumpsTo_of_transfer hrep ((exec.eq_def ..).trans rfl) rfl
  · exact jumpsTo_of_transfer hrep ((exec.eq_def ..).trans rfl) (ok_bind (readRm16_of_readable (s := s.begin) hread))
  · obtain ⟨f, hexec, hf⟩ := exec_nearCall hi
    refine ⟨nearCall_completes hrep hexec hf, fun htarget hfits e he => ?_, fun htarget => ?_⟩
    · exact raises_of_transfer hrep hexec (hf.trans ((require_bind (decide_eq_true htarget)).trans
        (bind_raise (push_eq_raise (s := s.begin).2 ⟨hfits, he⟩))))
    · exact raises_of_transfer hrep hexec
        (hf.trans (bind_raise (require_eq_raise.2 ⟨decide_eq_false (Nat.not_le.2 htarget), rfl⟩)))
  · obtain ⟨f, hexec, hf⟩ := exec_nearRet hi
    refine ⟨fun hfits => jumpsTo_of_transfer hrep hexec (hf.trans (retNear_of_fits (s := s.begin) hfits)),
      fun hfits e he => raises_of_transfer hrep hexec (hf.trans (bind_raise ?_))⟩
    exact stackWord_eq_raise.2 ⟨fun h => hfits (stackFits_zero.1 h), he⟩

end

end Sys2Proof.Proofs

/-! PROOFS. The parts that far transfers, returns and entries share (44_control_transfer.md R297, R318 to R320; 60_exceptions.md
R443 to R445): the checks of a selector, CS and SS loaded, and frames pushed and read. -/
namespace Sys2Proof.Proofs
open Sys2Proof Sys2Proof.Machine Sys2Proof.Claims

/-! What an instruction that sets IP runs. -/

section
variable {i : Instr} {s u : State} {m : Res State} {e : Exc}

/-- `i`, with no repeat prefix before it, has the meaning `m` in `s`. -/
def Runs (i : Instr) (s : State) (m : Res State) : Prop :=
  NoRep s ∧ ∃ f, exec i s = transfer s f ∧ f s.begin = m

theorem Runs.raises (h : Runs i s m) (hm : m = raise e) : Raises i s e := by
  obtain ⟨hrep, f, hexec, hf⟩ := h
  exact raises_of_transfer hrep hexec (hf.trans hm)

theorem Runs.completes (h : Runs i s m) (hm : m = .ok u) (hshadow : u.shadow = .none) :
    exec i s = .next (after s u u.ip) := by
  obtain ⟨hrep, f, hexec, hf⟩ := h
  exact exec_of_transfer hrep hexec (hf.trans hm) hshadow

end

/-! The checks of a selector. -/

section
variable {sel : Word} {e : Exc} {α : Type} {f : Unit → Res α}

theorem require_null (h : sel.toNat < 4) : (require (!selNull sel) e >>= f) = raise e :=
  bind_raise (require_eq_raise.2 ⟨by simp [selNull_iff.2 h], rfl⟩)

theorem require_not_null (h : 4 ≤ sel.toNat) : (require (!selNull sel) e >>= f) = f () :=
  require_bind (by simp [selNull_of_le h])

end

/-- The descriptor that `sel` names, past the checks that far returns, gates and inner stacks make of a selector. -/
def selectorCheck (s : State) (sel : Word) (null bad absent : Exc) (ok : Desc → Bool) : Res Desc := do
  require (!selNull sel) null
  let d ← s.fetchOr sel bad
  require (ok d) bad
  require (arPresent d.ar) absent
  pure d

section
variable {s : State} {sel : Word} {null bad absent e : Exc} {ok : Desc → Bool} {d : Desc}

theorem selectorCheck_null (h : sel.toNat < 4) : selectorCheck s sel null bad absent ok = raise null := require_null h

theorem selectorCheck_bind_of_le (h : 4 ≤ sel.toNat) : selectorCheck s sel null bad absent ok =
    s.fetchOr sel bad >>= fun d => require (ok d) bad >>= fun _ => require (arPresent d.ar) absent >>= fun _ => pure d :=
  require_not_null h

theorem selectorCheck_outside (h : 4 ≤ sel.toNat) (hd : s.fetchDesc sel = none) :
    selectorCheck s sel null bad absent ok = raise bad :=
  (selectorCheck_bind_of_le h).trans (bind_raise (fetchOr_raises hd))

theorem selectorCheck_forbidden (h : 4 ≤ sel.toNat) (hd : s.fetchDesc sel = some d) (hok : ok d = false) :
    selectorCheck s sel null bad absent ok = raise bad :=
  (selectorCheck_bind_of_le h).trans ((ok_bind (fetchOr_ok.2 hd)).trans (bind_raise (require_eq_raise.2 ⟨hok, rfl⟩)))

theorem selectorCheck_absent (h : 4 ≤ sel.toNat) (hd : s.fetchDesc sel = some d) (hok : ok d = true)
    (hp : arPresent d.ar = false) : selectorCheck s sel null bad absent ok = raise absent :=
  (selectorCheck_bind_of_le h).trans ((ok_bind (fetchOr_ok.2 hd)).trans
    ((require_bind hok).trans (bind_raise (require_eq_raise.2 ⟨hp, rfl⟩))))

theorem selectorCheck_ok (h : 4 ≤ sel.toNat) (hd : s.fetchDesc sel = some d) (hok : ok d = true)
    (hp : arPresent d.ar = true) : selectorCheck s sel null bad absent ok = .ok d :=
  (selectorCheck_bind_of_le h).trans ((ok_bind (fetchOr_ok.2 hd)).trans ((require_bind hok).trans (require_bind hp)))

end

/-- The checks of a code selector; `ext` is the EXT bit of the error codes (44_control_transfer.md R297, R319). -/
def codeCheck (s : State) (sel ext : Word) (ok : Desc → Bool) : Res Desc :=
  selectorCheck s sel (.generalProtection ext) (.generalProtection (selCode sel ||| ext))
    (.notPresent (selCode sel ||| ext)) ok

/-- Whether a stack segment is of the level (44_control_transfer.md R319, R320). -/
def ofLevel (lvl : Level) (nss : Word) (d : Desc) : Bool :=
  decide (selRpl nss = lvl) && decide (arDpl d.ar = lvl) && arWritable d.ar

/-- The checks of the stack selector of a new level (44_control_transfer.md R319, R320). -/
def stackCheck (s : State) (lvl : Level) (nss ext : Word) (bad : Word → Exc) : Res Desc :=
  selectorCheck s nss (bad ext) (bad (selCode nss ||| ext)) (.stackFault (selCode nss ||| ext)) (ofLevel lvl nss)

section
variable {s : State} {sel nss ext : Word} {allowed : Desc → Prop} {ok : Desc → Bool} {raises : Exc → Prop} {d : Desc}
  {lvl : Level} {bad : Word → Exc}

/-- The error code of a selector without the EXT bit. -/
theorem selCode_or_zero (sel : Word) : selCode sel ||| 0 = selCode sel := BitVec.or_zero

theorem ofLevel_iff : ofLevel lvl nss d = true ↔ StackAllowed lvl nss d := by
  simp only [ofLevel, Bool.and_eq_true, decide_eq_true_eq, StackAllowed, and_assoc]

theorem codeChecked_of_codeCheck (hok : ∀ d, ok d = true ↔ allowed d)
    (h : ∀ e, codeCheck s sel ext ok = raise e → raises e) : CodeChecked s sel ext allowed raises := by
  refine ⟨fun hnull => h _ (selectorCheck_null hnull), fun hle hd => h _ (selectorCheck_outside hle hd),
    fun d hle hd => ⟨fun hbad => h _ (selectorCheck_forbidden hle hd ?_),
      fun ha hp => h _ (selectorCheck_absent hle hd ((hok d).2 ha) hp)⟩⟩
  exact Bool.eq_false_iff.2 fun htrue => hbad ((hok d).1 htrue)

theorem codeCheck_of_codeFound (hok : ∀ d, ok d = true ↔ allowed d) (h : CodeFound s sel allowed d) :
    codeCheck s sel ext ok = .ok d := by
  obtain ⟨hle, hd, ha, hp⟩ := h
  exact selectorCheck_ok hle hd ((hok d).2 ha) hp

theorem stackChecked_of_stackCheck (h : ∀ e, stackCheck s lvl nss ext bad = raise e → raises e) :
    StackChecked s lvl nss ext bad raises := by
  refine ⟨fun hnull => h _ (selectorCheck_null hnull), fun hle hd => h _ (selectorCheck_outside hle hd),
    fun d hle hd => ⟨fun hbad => h _ (selectorCheck_forbidden hle hd ?_),
      fun ha hp => h _ (selectorCheck_absent hle hd (ofLevel_iff.2 ha) hp)⟩⟩
  exact Bool.eq_false_iff.2 fun htrue => hbad (ofLevel_iff.1 htrue)

theorem stackCheck_of_stackFound (h : StackFound s lvl nss d) : stackCheck s lvl nss ext bad = .ok d := by
  obtain ⟨hle, hd, ha, hp⟩ := h
  exact selectorCheck_ok hle hd (ofLevel_iff.2 ha) hp

end

/-! CS and SS loaded. -/

section
variable {s : State} {sel off nsp nss : Word} {d : Desc} {lvl : Level}

theorem withRpl_eq (sel : Word) (lvl : Level) : withRpl sel lvl = (sel &&& 0xFFFC) ||| lvl.setWidth 16 := by
  refine BitVec.eq_of_getLsbD_eq fun i hi => ?_
  simp only [withRpl, BitVec.getLsbD_append, BitVec.getLsbD_extractLsb', BitVec.getLsbD_or, BitVec.getLsbD_and,
    BitVec.getLsbD_setWidth]
  interval_cases i <;> simp

theorem toSeg_withRpl (d : Desc) (sel : Word) (lvl : Level) : d.toSeg (withRpl sel lvl) = codeSeg sel lvl d := by
  rw [withRpl_eq]
  rfl

theorem enterCode_frame (s : State) (sel : Word) (d : Desc) (off : Word) : s.enterCode sel d off =
    { s with mem := (s.markAccessed d).mem, cs := d.toSeg sel, ip := off, queueEmpty := true } := by
  rw [State.enterCode, markAccessed_frame d]
  rfl

theorem enterCode_accessedSet : AccessedSet s (s.enterCode sel d off) d :=
  accessedSet_of_mem (setSeg_mem ..)

theorem switchStack_frame (s : State) (lvl : Level) (nsp nss : Word) (d : Desc) : s.switchStack lvl nsp nss d =
    { s with mem := (s.markAccessed d).mem, ss := d.toSeg nss, cpl := lvl, regs := { s.regs with sp := nsp } } := by
  rw [State.switchStack, markAccessed_frame d]
  rfl

theorem switchStack_ss : (s.switchStack lvl nsp nss d).ss = d.toSeg nss := by rw [switchStack_frame]

theorem switchStack_sp : (s.switchStack lvl nsp nss d).regs.sp = nsp := by rw [switchStack_frame]

theorem switchStack_accessedSet : AccessedSet s (s.switchStack lvl nsp nss d) d :=
  accessedSet_of_mem (setSeg_mem ..)

end

/-! Frames pushed. -/

section
variable {s t v : State} {e : Exc} {code a b c : Word} {vs : List Word}

/-- `n` words can be pushed. -/
def PushesFit (s : State) (n : Nat) : Prop :=
  ∀ k, k < n → Fits s .ss (s.regs.sp - BitVec.ofNat 16 (2 * (k + 1))).toNat 2 true

theorem pushesFit_two : PushesFit s 2 ↔ PushFits s ∧ Fits s .ss (s.regs.sp - 4).toNat 2 true := by
  refine ⟨fun h => ⟨h 0 Nat.zero_lt_two, h 1 Nat.one_lt_two⟩, fun ⟨hfirst, hsecond⟩ k hk => ?_⟩
  interval_cases k
  exacts [hfirst, hsecond]

/-- In a stack segment that may be written the limit alone decides. -/
theorem pushesFit_iff_stackRoom {n : Nat} (hpe : s.msw.pe = true) (htype : TypeOk s .ss true) :
    PushesFit s n ↔ StackRoom s.ss s.regs.sp n :=
  forall₂_congr fun _ _ => (and_iff_right fun _ => htype).trans (insideLimit_iff_within hpe).symm

theorem pushAll_of_fits (h : PushesFit s vs.length) : ∃ t, s.pushAll code vs = .ok t := by
  induction vs generalizing s with
  | nil => exact ⟨s, rfl⟩
  | cons v vs ih =>
    obtain ⟨u, hu⟩ : ∃ u, s.push code v = .ok u :=
      ⟨_, push_ok.2 ⟨check_ok_iff_fits.2 (h 0 (Nat.succ_pos _)), rfl⟩⟩
    rw [pushAll_cons, ok_bind hu]
    refine ih fun k hk => ?_
    have hfits := h (k + 1) (Nat.succ_lt_succ hk)
    rw [push_frame hu, sub_two_sub]
    exact hfits

theorem pushAll_eq_raise (h : ¬PushesFit s vs.length) (he : AccessExc s .ss true e) : s.pushAll 0 vs = raise e :=
  (pushAll_raisesOnly vs he).eq_raise fun _ ht => h fun _ hk => fits_of_pushAll ht hk

theorem push_storedWord (h : s.push code a = .ok t) : StoredWord s t .ss (s.regs.sp - 2).toNat a := by
  obtain ⟨-, rfl⟩ := push_ok.1 h
  exact write16_storedWord ..

/-- A word pushed after others is stored below them. -/
theorem pushAll_last (h : s.pushAll code (vs ++ [a]) = .ok t) :
    ∃ u, s.pushAll code vs = .ok u ∧ u.push code a = .ok t := by
  induction vs generalizing s with
  | nil =>
    rw [List.nil_append, pushAll_cons] at h
    obtain ⟨u, hu, h⟩ := bind_ok.1 h
    exact ⟨s, rfl, hu.trans h⟩
  | cons v vs ih =>
    rw [List.cons_append, pushAll_cons] at h
    obtain ⟨u, hu, h⟩ := bind_ok.1 h
    obtain ⟨w, hw, hlast⟩ := ih h
    exact ⟨w, by rw [pushAll_cons, ok_bind hu, hw], hlast⟩

theorem pushedTwo_of_pushAll (h : s.pushAll code [a, b] = .ok t) : PushedTwo s t a b := by
  obtain ⟨u, hu, hb⟩ := pushAll_last (vs := [a]) h
  obtain ⟨_, hnil, ha⟩ := pushAll_last (vs := []) hu
  cases hnil
  have hframe := push_frame ha
  have hword := push_storedWord hb
  have hsp : u.regs.sp - 2 = s.regs.sp - 4 := by
    rw [hframe]
    exact sub_two_sub s.regs.sp 1
  exact ⟨u, push_storedWord ha, by rw [hframe], by rw [hframe], hsp ▸ hword⟩

end

/-! Frames read. -/

section
variable {s : State} {e : Exc} {n : Nat}

theorem stackWords_succ (s : State) (n : Nat) :
    s.stackWords (n + 1) = s.stackWords n >>= fun ws => s.stackWord n >>= fun w => pure (ws ++ [w]) := by
  rw [State.stackWords]
  cases s.stackWords n <;> cases s.stackWord n <;> rfl

theorem stackWords_of_fits (h : ∀ k, k < n → StackFits s k) :
    s.stackWords n = .ok ((List.range n).map (stackAt s)) := by
  induction n with
  | zero => rfl
  | succ n ih =>
    rw [stackWords_succ, ok_bind (ih fun k hk => h k (Nat.lt_succ_of_lt hk)),
      ok_bind (stackWord_of_fits (h n n.lt_succ_self)),
      List.range_succ, List.map_append]
    rfl

theorem stackWords_eq_raise (h : ∃ k, k < n ∧ ¬StackFits s k) (he : AccessExc s .ss false e) :
    s.stackWords n = raise e := by
  induction n with
  | zero => exact absurd h fun ⟨k, hk, _⟩ => absurd hk k.not_lt_zero
  | succ n ih =>
    rw [stackWords_succ]
    by_cases hbelow : ∃ k, k < n ∧ ¬StackFits s k
    · exact bind_raise (ih hbelow)
    · have hall : ∀ k, k < n → StackFits s k := fun k hk => not_not.1 fun hbad => hbelow ⟨k, hk, hbad⟩
      obtain ⟨k, hk, hbad⟩ := h
      obtain rfl : k = n := (Nat.lt_succ_iff_lt_or_eq.1 hk).resolve_left fun hlt => hbad (hall k hlt)
      rw [ok_bind (stackWords_of_fits hall)]
      exact bind_raise (stackWord_eq_raise.2 ⟨hbad, he⟩)

end

/-! Words and the stack in Real Address Mode. -/

section
variable {s : State} {off : Word} {write : Bool} {k n : Nat}

/-- Only a word at the last offset passes the end of a segment (20_memory.md R93). -/
theorem fits_real_word (hpe : s.msw.pe = false) {r : SReg} : Fits s r off.toNat 2 write ↔ off ≠ 0xFFFF := by
  have hword := off.isLt
  simp only [Fits, Within, hpe, Bool.false_eq_true, false_and, if_false, false_implies, true_and, ne_eq,
    ← BitVec.toNat_inj, BitVec.ofNat_eq_ofNat, BitVec.toNat_ofNat]
  omega

theorem accessExc_real (hpe : s.msw.pe = false) : AccessExc s .ss write (.stackFault 0) :=
  .inr ⟨fun h => absurd (hpe.symm.trans h) Bool.false_ne_true, rfl⟩

theorem pushesFit_real (hpe : s.msw.pe = false) :
    PushesFit s n ↔ ∀ k, k < n → s.regs.sp ≠ BitVec.ofNat 16 (2 * k + 1) := by
  refine forall₂_congr fun k _ => ?_
  rw [fits_real_word hpe, Ne, sub_eq_iff_eq_add, show 2 * (k + 1) = 2 * k + 1 + 1 by ring, BitVec.ofNat_add (2 * k + 1)]
  rw [show (65535 : Word) + (BitVec.ofNat 16 (2 * k + 1) + BitVec.ofNat 16 1) = BitVec.ofNat 16 (2 * k + 1) by
    rw [add_comm, add_assoc]
    exact add_zero _]

theorem stackFits_real (hpe : s.msw.pe = false) :
    StackFits s k ↔ s.regs.sp ≠ 0xFFFF - BitVec.ofNat 16 (2 * k) := by
  rw [StackFits, fits_real_word hpe, Ne, ← eq_sub_iff_add_eq]

/-- The first words of a frame, by SP. -/
theorem stackFits_real_zero (hpe : s.msw.pe = false) : StackFits s 0 ↔ s.regs.sp ≠ 0xFFFF := by
  simp [stackFits_real hpe]

theorem stackFits_real_one (hpe : s.msw.pe = false) : StackFits s 1 ↔ s.regs.sp ≠ 0xFFFD := by
  simp [stackFits_real hpe]

theorem stackFits_real_two (hpe : s.msw.pe = false) : StackFits s 2 ↔ s.regs.sp ≠ 0xFFFB := by
  simp [stackFits_real hpe]

end

end Sys2Proof.Proofs

/-! PROOFS. Statements of 44_control_transfer.md about direct far JMP and CALL in both modes and RET in Real Address Mode (R294,
R295, R297, R300, R301, R318). -/
namespace Sys2Proof.Proofs
open Sys2Proof Sys2Proof.Machine Sys2Proof.Claims

/-! The far pointer of an instruction (44_control_transfer.md R294, R295, R300, R301). -/

section
variable {s : State} {call : Bool} {i : Instr} {sel off : Word} {m : Mem} {n : Word} {e : Exc}

/-- What JMP and CALL do with their far pointer. -/
def farMove (s : State) (call : Bool) (sel off : Word) : Res State :=
  if call then s.farCall sel off else s.farJump sel off

theorem runs_farMove (hrep : NoRep s) (h : FarPointer s call i sel off) : Runs i s (farMove s.begin call sel off) := by
  rcases h with rfl | ⟨m, rfl, hfits, rfl, rfl⟩
  · cases call <;> exact ⟨hrep, _, (exec.eq_def ..).trans rfl, rfl⟩
  · have hread := readPointer_of_fits (s := s.begin) hfits
    cases call <;> exact ⟨hrep, _, (exec.eq_def ..).trans rfl, ok_bind hread⟩

theorem farPointer_unreadable (hrep : NoRep s) (hfits : ¬Fits s (s.segOf m) (s.ea m).toNat 4 false)
    (he : AccessExc s (s.segOf m) false e) : Raises (if call then .callM16_16 m else .jmpM16_16 m) s e := by
  have hread : s.begin.readPointer m = raise e := readPointer_eq_raise.2 ⟨hfits, he⟩
  cases call <;> exact raises_of_transfer hrep ((exec.eq_def ..).trans rfl) (bind_raise hread)

theorem farMove_real (hpe : s.msw.pe = false) :
    farMove s call sel off =
      if call then s.pushAll 0 [s.cs.sel, s.ipNext] >>= fun t => pure (t.realFar sel off) else .ok (s.realFar sel off) := by
  simp [farMove, State.farCall, State.farJump, hpe]

theorem farMove_protected (hpe : s.msw.pe = true) : farMove s call sel off = s.farTransfer sel off call := by
  cases call <;> simp [farMove, State.farCall, State.farJump, hpe]

theorem runs_farReturn (hrep : NoRep s) (h : (i = Instr.retf ∧ n = 0) ∨ i = .retfImm16 n) :
    Runs i s (s.begin.farReturn n) := by
  rcases h with ⟨rfl, rfl⟩ | rfl <;> exact ⟨hrep, _, (exec.eq_def ..).trans rfl, rfl⟩

end

/-! Real Address Mode (44_control_transfer.md R294, R295, R297, R300, R301). -/

section
variable {s : State} {i : Instr} {sel off n : Word}

theorem pushesFit_two_real (hpe : s.msw.pe = false) : PushesFit s 2 ↔ s.regs.sp ≠ 1 ∧ s.regs.sp ≠ 3 := by
  rw [pushesFit_real hpe]
  refine ⟨fun h => ⟨h 0 Nat.zero_lt_two, h 1 Nat.one_lt_two⟩, fun ⟨hone, hthree⟩ k hk => ?_⟩
  interval_cases k
  exacts [hone, hthree]

theorem farReturn_real (hpe : s.msw.pe = false) (h0 : StackFits s 0) (h1 : StackFits s 1) : s.farReturn n =
    .ok { s.realFar (stackAt s 1) (top s) with regs := { s.regs with sp := s.regs.sp + 4 + n } } := by
  rw [State.farReturn, ok_bind (stackWord_of_fits h0), ok_bind (stackWord_of_fits h1), if_neg (by simp [hpe]), stackAt_zero]
  rfl

theorem farReturn_raises {e : Exc} (h : ¬(StackFits s 0 ∧ StackFits s 1)) (he : AccessExc s .ss false e) :
    s.farReturn n = raise e := by
  by_cases h0 : StackFits s 0
  · exact (ok_bind (stackWord_of_fits h0)).trans (bind_raise (stackWord_eq_raise.2 ⟨fun h1 => h ⟨h0, h1⟩, he⟩))
  · exact bind_raise (stackWord_eq_raise.2 ⟨h0, he⟩)

end

/-- Settles O43: no check but the words on the stack stands before CS is loaded. -/
theorem farTransfersReal : Obligations.FarTransfersReal := by
  intro s hrep hpe
  refine ⟨fun i sel off hi => ?_, fun i sel off hi => ?_, fun i n hi => ?_⟩
  · exact ⟨_, (runs_farMove hrep hi).completes (farMove_real (s := s.begin) hpe) rfl, realSeg_realLoad sel, rfl⟩
  · have hmove := farMove_real (s := s.begin) (call := true) (sel := sel) (off := off) hpe
    refine ⟨fun hsp => ?_, fun hsp => (runs_farMove hrep hi).raises (hmove.trans (bind_raise ?_))⟩
    · obtain ⟨t, ht⟩ := pushAll_of_fits (s := s.begin) (code := 0) (vs := [s.cs.sel, s.ipNext])
        ((pushesFit_two_real hpe).2 hsp)
      have hframe := pushAll_ok ht
      have htwo : PushedTwo s.begin t s.cs.sel s.ipNext := pushedTwo_of_pushAll ht
      refine ⟨_, (runs_farMove hrep hi).completes (hmove.trans (ok_bind ht)) ?_, realSeg_realLoad sel, htwo, ?_⟩ <;>
        rw [hframe] <;> rfl
    · refine pushAll_eq_raise (s := s.begin) (fun h => ?_) (accessExc_real hpe)
      obtain ⟨hone, hthree⟩ := (pushesFit_two_real hpe).1 h
      exact hsp.elim hone hthree
  · refine ⟨fun ⟨h0, h1⟩ => ?_, fun hsp => (runs_farReturn hrep hi).raises (farReturn_raises (fun ⟨h0, h1⟩ => ?_)
      (accessExc_real hpe))⟩
    · have hret := farReturn_real (s := s.begin) (n := n) hpe ((stackFits_real_zero hpe).2 h0)
        ((stackFits_real_one hpe).2 h1)
      exact ⟨_, (runs_farReturn hrep hi).completes hret rfl, realSeg_realLoad _, memSame_of_mem rfl, rfl⟩
    · exact hsp.elim ((stackFits_real_zero hpe).1 h0) ((stackFits_real_one hpe).1 h1)

/-! Protected Mode, to a code segment without a gate (44_control_transfer.md R318). -/

section
variable {s u : State} {i : Instr} {sel off : Word} {call : Bool} {d : Desc} {e : Exc}

theorem runs_farTransfer (hrep : NoRep s) (hpe : s.msw.pe = true) (h : FarPointer s call i sel off) :
    Runs i s (s.begin.farTransfer sel off call) :=
  farMove_protected (s := s.begin) hpe ▸ runs_farMove hrep h

theorem farTransfer_null (h : sel.toNat < 4) : s.farTransfer sel off call = raise (.generalProtection 0) :=
  require_null h

theorem farTransfer_outside (h : 4 ≤ sel.toNat) (hd : s.fetchDesc sel = none) :
    s.farTransfer sel off call = raise (.generalProtection (selCode sel)) :=
  (require_not_null h).trans (bind_raise (fetchOr_raises hd))

/-- Past the table the descriptor's type decides. -/
theorem farTransfer_of_fetchDesc (h : 4 ≤ sel.toNat) (hd : s.fetchDesc sel = some d) : s.farTransfer sel off call =
    if arCode d.ar then s.codeTransfer sel off d call
    else if arControl d.ar 4 then s.gateTransfer sel d call
    else if arControl d.ar 5 || arControl d.ar 1 then s.taskTransfer sel d call
    else raise (.generalProtection (selCode sel)) :=
  (require_not_null h).trans (ok_bind (fetchOr_ok.2 hd))

theorem arControl_of_segment {ar : Byte} {type : BitVec 4} (h : arSegment ar = true) : arControl ar type = false := by
  have hbit : ar.getLsbD 4 = true := h
  simp [arControl, hbit]

theorem arCode_of_control {ar : Byte} {type : BitVec 4} (h : arControl ar type = true) : arCode ar = false := by
  simp only [arControl, Bool.and_eq_true, Bool.not_eq_true'] at h
  simp only [arCode, h, Bool.false_and]

theorem arControl_of_type_ne {ar : Byte} {type : BitVec 4} (h : ar.extractLsb' 0 4 ≠ type) :
    arControl ar type = false := by
  rw [arControl, decide_eq_false h, Bool.and_false]

/-- A descriptor that no far transfer can go through (44_control_transfer.md R318). -/
theorem farTransfer_other (h : 4 ≤ sel.toNat) (hd : s.fetchDesc sel = some d) (hcode : arCode d.ar = false)
    (htype : ∀ type ∈ [(4 : BitVec 4), 5, 1], arControl d.ar type = false) :
    s.farTransfer sel off call = raise (.generalProtection (selCode sel)) := by
  simp only [List.forall_mem_cons, List.not_mem_nil, IsEmpty.forall_iff, implies_true, and_true] at htype
  obtain ⟨hgate, htask, htss⟩ := htype
  rw [farTransfer_of_fetchDesc h hd, hcode, hgate, htask, htss]
  rfl

/-- Whether a direct transfer may enter the code segment. -/
def entersDirectly (s : State) (sel : Word) (d : Desc) : Bool :=
  if arConforming d.ar then decide (arDpl d.ar ≤ s.cpl) else decide (selRpl sel ≤ s.cpl) && decide (arDpl d.ar = s.cpl)

theorem entersDirectly_iff : entersDirectly s sel d = true ↔ CodeAllowed s sel d := by
  unfold entersDirectly CodeAllowed
  split <;> simp

/-- The words of a CALL at the same level, CS and the return address. -/
def pushReturn (s : State) (call : Bool) : Res State := if call then s.pushAll 0 [s.cs.sel, s.ipNext] else pure s

theorem pushReturn_raises (h : ¬(PushFits s ∧ Fits s .ss (s.regs.sp - 4).toNat 2 true)) (he : AccessExc s .ss true e) :
    pushReturn s true = raise e :=
  pushAll_eq_raise (vs := [s.cs.sel, s.ipNext]) (fun hfits => h (pushesFit_two.1 hfits)) he

theorem codeTransfer_eq : s.codeTransfer sel off d call =
    require (entersDirectly s sel d) (.generalProtection (selCode sel)) >>= fun _ =>
    require (arPresent d.ar) (.notPresent (selCode sel)) >>= fun _ =>
    require (decide (off.toNat ≤ d.limit.toNat)) (.generalProtection 0) >>= fun _ =>
    pushReturn s call >>= fun t => pure (t.enterCode (withRpl sel s.cpl) d off) := by
  cases call <;> rfl

end

section
variable {s : State} {i : Instr} {sel off : Word} {d : Desc} {m : Res State}

/-- A JMP that enters code at the same level, directly or through a gate. -/
theorem jump_sameLevel (hruns : Runs i s m) (hm : m = .ok (s.begin.enterCode (withRpl sel s.cpl) d off)) :
    ∃ t, exec i s = .next t ∧ AccessedSet s t d ∧
      t = after s { s with mem := t.mem, cs := codeSeg sel s.cpl d, queueEmpty := true } off := by
  rw [← toSeg_withRpl]
  rw [enterCode_frame] at hm
  exact ⟨_, hruns.completes hm rfl, accessedSet_of_mem (s := s.begin) rfl, rfl⟩

/-- A CALL that enters code at the same level: its two words are pushed before the Accessed bit is set. -/
theorem call_sameLevel (hruns : Runs i s m) (hfits : PushesFit s 2)
    (hm : m = s.begin.pushAll 0 [s.cs.sel, s.ipNext] >>= fun t => pure (t.enterCode (withRpl sel s.cpl) d off)) :
    ∃ t u, exec i s = .next t ∧ PushedTwo s u s.cs.sel s.ipNext ∧ u.msw = s.msw ∧ AccessedSet u t d ∧
      t = after s { s with
        mem := t.mem, regs := { s.regs with sp := s.regs.sp - 4 }, cs := codeSeg sel s.cpl d, queueEmpty := true } off := by
  obtain ⟨u, hu⟩ := pushAll_of_fits (s := s.begin) (code := 0) (vs := [s.cs.sel, s.ipNext]) hfits
  have hframe := pushAll_ok hu
  have htwo : PushedTwo s.begin u s.cs.sel s.ipNext := pushedTwo_of_pushAll hu
  rw [ok_bind hu, enterCode_frame] at hm
  rw [← toSeg_withRpl]
  refine ⟨_, u, hruns.completes hm ?_, htwo, ?_, accessedSet_of_mem rfl, ?_⟩ <;> rw [hframe] <;> rfl

end

/-- Settles O44: the checks of R318 in their order, and past them the entry at the same level. -/
theorem farTransfersProtected : Obligations.FarTransfersProtected := by
  refine ⟨fun s call m e hrep _ hfits he => farPointer_unreadable hrep hfits he, fun s call i sel off hrep hpe hi => ?_⟩
  have hruns := runs_farTransfer hrep hpe hi
  refine ⟨fun hnull => hruns.raises (farTransfer_null hnull), fun hle hd => hruns.raises (farTransfer_outside hle hd),
    fun d hle hd => ?_⟩
  refine ⟨fun hseg hcode => hruns.raises (farTransfer_other hle hd hcode fun _ _ => arControl_of_segment hseg),
    fun hsys htype => hruns.raises (farTransfer_other hle hd ?_ fun type hmem => ?_), fun hcode => ?_⟩
  · simp only [arCode, hsys, Bool.false_and]
  · exact arControl_of_type_ne fun h => htype (h ▸ hmem)
  · have hfar := ((farTransfer_of_fetchDesc (s := s.begin) (off := off) (call := call) hle hd).trans
      (if_pos hcode)).trans codeTransfer_eq
    have hok (ha : CodeAllowed s sel d) : entersDirectly s.begin sel d = true := entersDirectly_iff.2 ha
    refine ⟨fun ha => hruns.raises (hfar.trans (bind_raise (require_eq_raise.2 ⟨?_, rfl⟩))),
      fun ha hp => hruns.raises (hfar.trans ((require_bind (hok ha)).trans (bind_raise (require_eq_raise.2 ⟨hp, rfl⟩)))),
      fun ha hp hlimit => hruns.raises (hfar.trans ((require_bind (hok ha)).trans ((require_bind hp).trans
        (bind_raise (require_eq_raise.2 ⟨decide_eq_false (Nat.not_le.2 hlimit), rfl⟩))))),
      fun ha hp hlimit => ?_⟩
    · exact Bool.eq_false_iff.2 fun h => ha (entersDirectly_iff.1 h)
    · replace hfar := hfar.trans ((require_bind (hok ha)).trans ((require_bind hp).trans
        (require_bind (decide_eq_true hlimit))))
      refine ⟨?_, ?_, ?_⟩
      · rintro rfl
        exact jump_sameLevel hruns hfar
      · rintro rfl hfirst hsecond
        exact call_sameLevel hruns (pushesFit_two.2 ⟨hfirst, hsecond⟩) hfar
      · rintro rfl hroom e he
        exact hruns.raises (hfar.trans (bind_raise (pushReturn_raises (s := s.begin) hroom he)))

end Sys2Proof.Proofs

/-! PROOFS. Statements of 44_control_transfer.md about RET far and IRET in Protected Mode (R297, R309, R320; 60_exceptions.md R447,
R453). -/
namespace Sys2Proof.Proofs
open Sys2Proof Sys2Proof.Machine Sys2Proof.Claims

/-! The return by the level of its selector. -/

/-- Whether a return to the level may enter the code segment (44_control_transfer.md R297, R320). -/
def returnAllows (lvl : Level) (d : Desc) : Bool :=
  arCode d.ar && if arConforming d.ar then decide (arDpl d.ar ≤ lvl) else decide (arDpl d.ar = lvl)

/-- A return to `sel:off`: `size` bytes leave the stack at the same level, `n` stand above CS on the way outward, and `release` are
released there (44_control_transfer.md R297, R320; 60_exceptions.md R447). -/
def returnTo (s : State) (sel off size n release : Word) : Res State :=
  if selRpl sel < s.cpl then raise (.generalProtection (selCode sel))
  else if selRpl sel = s.cpl then s.returnSame sel off size
  else s.returnOuter sel off n release

/-- The checks of the return selector and its offset, and then `k`. -/
def returnChecks (s : State) (sel off : Word) (k : Desc → Res State) : Res State := do
  let d ← codeCheck s sel 0 (returnAllows (selRpl sel))
  require (decide (off.toNat ≤ d.limit.toNat)) (.generalProtection 0)
  k d

section
variable {s : State} {sel off size n release : Word} {lvl : Level} {d d2 : Desc} {e : Exc} {k : Desc → Res State}

theorem returnAllows_iff : returnAllows lvl d = true ↔ ReturnAllows lvl d := by
  unfold returnAllows ReturnAllows
  rw [Bool.and_eq_true]
  split <;> simp

theorem dropInner_eq_outward (lvl : Level) (g : SegReg) : dropInner lvl g = outward lvl g := by
  simp only [dropInner, outward, Bool.and_eq_true, Bool.not_eq_true', decide_eq_true_eq, and_assoc]

theorem returnSame_eq (hsame : selRpl sel = s.cpl) : s.returnSame sel off size =
    returnChecks s sel off fun d =>
      pure { s with
        mem := (s.markAccessed d).mem, regs := { s.regs with sp := s.regs.sp + size }
        cs := d.toSeg sel, ip := off, queueEmpty := true } := by
  simp only [State.returnSame, returnChecks, codeCheck, selectorCheck, selCode_or_zero, bind_assoc, pure_bind, hsame,
    returnAllows, ← require_require, enterCode_frame]

/-- The outer stack, read past the checks of the code. -/
theorem returnOuter_eq : s.returnOuter sel off n release =
    s.check .ss s.regs.sp.toNat (8 + n.toNat) false 0 >>= fun _ =>
    returnChecks s sel off fun d =>
      stackCheck s (selRpl sel) (wordAt s .ss (s.regs.sp.toNat + 6 + n.toNat)) 0 .generalProtection >>= fun d2 =>
      pure { s with
        mem := ((s.enterCode sel d off).markAccessed d2).mem
        regs := { s.regs with sp := wordAt s .ss (s.regs.sp.toNat + 4 + n.toNat) + release }
        cs := d.toSeg sel, ss := d2.toSeg (wordAt s .ss (s.regs.sp.toNat + 6 + n.toNat))
        ds := outward (selRpl sel) s.ds, es := outward (selRpl sel) s.es
        cpl := selRpl sel, ip := off, queueEmpty := true } := by
  simp only [State.returnOuter, returnChecks, codeCheck, stackCheck, selectorCheck, selCode_or_zero, bind_assoc, pure_bind,
    returnAllows, ofLevel, ← require_require, ← dropInner_eq_outward, enterCode_frame, switchStack_frame]
  rfl

theorem returnTo_inward (h : selRpl sel < s.cpl) :
    returnTo s sel off size n release = raise (.generalProtection (selCode sel)) := if_pos h

theorem returnTo_same (h : selRpl sel = s.cpl) : returnTo s sel off size n release = s.returnSame sel off size :=
  (if_neg (by bv_omega)).trans (if_pos h)

theorem returnTo_outer (h : s.cpl < selRpl sel) : returnTo s sel off size n release = s.returnOuter sel off n release :=
  (if_neg (by bv_omega)).trans (if_neg (by bv_omega))

theorem returnChecks_of_found (h : CodeFound s sel (ReturnAllows (selRpl sel)) d) (hlimit : off.toNat ≤ d.limit.toNat) :
    returnChecks s sel off k = k d :=
  (ok_bind (codeCheck_of_codeFound (fun _ => returnAllows_iff) h)).trans (require_bind (decide_eq_true hlimit))

theorem returnChecks_null (h : sel.toNat < 4) : returnChecks s sel off k = raise (.generalProtection 0) :=
  bind_raise (selectorCheck_null h)

theorem returnChecked_of_returnChecks {raises : Exc → Prop} (h : ∀ e, returnChecks s sel off k = raise e → raises e) :
    ReturnChecked s sel off raises := by
  refine ⟨codeChecked_of_codeCheck (fun _ => returnAllows_iff) fun e he => h e (bind_raise he), fun d hd hlimit => h _ ?_⟩
  exact (ok_bind (codeCheck_of_codeFound (fun _ => returnAllows_iff) hd)).trans
    (bind_raise (require_eq_raise.2 ⟨decide_eq_false (Nat.not_le.2 hlimit), rfl⟩))

theorem selCode_of_null (h : sel.toNat < 4) : selCode sel = 0 := by
  have hcases : sel = 0 ∨ sel = 1 ∨ sel = 2 ∨ sel = 3 := by bv_omega
  rcases hcases with rfl | rfl | rfl | rfl <;> rfl

theorem raise_injective {α : Type} {e e' : Exc} (h : (raise e : Res α) = raise e') : e = e' := by
  cases h
  rfl

end

/-! What a return raises (44_control_transfer.md R297, R320; 60_exceptions.md R447). -/

section
variable {s : State} {i : Instr} {words : Nat} {n size release : Word}

/-- What `i` raises where it makes the return of its first two words past a frame of `words` words. IRET alone finds a null selector
before the return does, with the same exception. -/
theorem returnFaults_of_returnTo
    (hwords : (∃ k, k < words ∧ ¬StackFits s k) → ∀ e, AccessExc s .ss false e → Raises i s e)
    (hnull : (∀ k, k < words → StackFits s k) → i = .iret → (stackAt s 1).toNat < 4 → Raises i s (.generalProtection 0))
    (hto : (∀ k, k < words → StackFits s k) → ∀ e,
      (i = .iret → (stackAt s 1).toNat < 4 → e = .generalProtection 0) →
      returnTo s.begin (stackAt s 1) (stackAt s 0) size n release = raise e → Raises i s e) :
    ReturnFaults s i words n := by
  refine ⟨hwords, ?_⟩
  rintro hfits _ _ rfl rfl
  replace hto := hto hfits
  have hchecks {k : Desc → Res State} {e : Exc} (he : returnChecks s.begin (stackAt s 1) (stackAt s 0) k = raise e) :
      i = .iret → (stackAt s 1).toNat < 4 → e = .generalProtection 0 := fun _ hnull =>
    raise_injective (he.symm.trans (returnChecks_null hnull))
  refine ⟨hnull hfits, fun hin => hto _ (fun _ hnull => ?_) (returnTo_inward hin), fun hsame => ?_,
    fun hout => ⟨fun hframe hle e he => hto e (fun hi hnull => absurd (hle hi) (Nat.not_le.2 hnull)) ?_, fun hframe => ?_⟩⟩
  · rw [← selCode_of_null hnull]
    rfl
  · have hto_same := (returnTo_same (s := s.begin) (off := stackAt s 0) (size := size) (n := n) (release := release)
      hsame).trans (returnSame_eq hsame)
    exact returnChecked_of_returnChecks (s := s.begin) fun e he => hto e (hchecks he) (hto_same.trans he)
  · exact (returnTo_outer (s := s.begin) hout).trans (bind_raise (check_eq_raise.2 ⟨hframe, he⟩))
  · have hto_outer := (returnTo_outer (s := s.begin) (off := stackAt s 0) (size := size) (n := n) (release := release)
      hout).trans (returnOuter_eq.trans (ok_bind (check_ok_iff_fits.2 hframe)))
    refine ⟨returnChecked_of_returnChecks (s := s.begin) fun e he => hto e (hchecks he) (hto_outer.trans he), ?_⟩
    rintro d _ hd hlimit rfl
    refine stackChecked_of_stackCheck (s := s.begin) fun e he =>
      hto e (fun _ hnull => absurd hd.1 (Nat.not_le.2 hnull)) ?_
    exact hto_outer.trans ((returnChecks_of_found (s := s.begin) hd hlimit).trans (bind_raise he))

/-- The return to the same level (44_control_transfer.md R297). -/
theorem returnTo_same_completes {sel off : Word} {d : Desc} (hsame : selRpl sel = s.cpl)
    (hd : CodeFound s sel (ReturnAllows (selRpl sel)) d) (hlimit : off.toNat ≤ d.limit.toNat) :
    returnTo s sel off size n release = .ok { s with
      mem := (s.markAccessed d).mem, regs := { s.regs with sp := s.regs.sp + size }
      cs := d.toSeg sel, ip := off, queueEmpty := true } := by
  rw [returnTo_same hsame, returnSame_eq hsame, returnChecks_of_found hd hlimit]
  rfl

/-- The return to an outer level (44_control_transfer.md R320). -/
theorem returnTo_outer_completes {sel off nss : Word} {d d2 : Desc} (hout : s.cpl < selRpl sel)
    (hframe : Fits s .ss s.regs.sp.toNat (8 + n.toNat) false) (hd : CodeFound s sel (ReturnAllows (selRpl sel)) d)
    (hlimit : off.toNat ≤ d.limit.toNat) (hnss : nss = wordAt s .ss (s.regs.sp.toNat + 6 + n.toNat))
    (hd2 : StackFound s (selRpl sel) nss d2) :
    returnTo s sel off size n release = .ok { s with
      mem := ((s.enterCode sel d off).markAccessed d2).mem
      regs := { s.regs with sp := wordAt s .ss (s.regs.sp.toNat + 4 + n.toNat) + release }
      cs := d.toSeg sel, ss := d2.toSeg nss, ds := outward (selRpl sel) s.ds, es := outward (selRpl sel) s.es
      cpl := selRpl sel, ip := off, queueEmpty := true } := by
  subst hnss
  rw [returnTo_outer hout, returnOuter_eq, ok_bind (check_ok_iff_fits.2 hframe), returnChecks_of_found hd hlimit,
    ok_bind (stackCheck_of_stackFound hd2)]
  rfl

end

/-! RET far (44_control_transfer.md R297, R320). -/

section
variable {s : State} {n : Word}

theorem farReturn_protected (hpe : s.msw.pe = true) (h0 : StackFits s 0) (h1 : StackFits s 1) :
    s.farReturn n = returnTo s (stackAt s 1) (stackAt s 0) (4 + n) n n := by
  rw [State.farReturn, ok_bind (stackWord_of_fits h0), ok_bind (stackWord_of_fits h1), if_pos hpe]
  rfl

end

/-- Settles O45: past the two words of the frame the return is that of its selector's level. -/
theorem farReturnsProtected : Obligations.FarReturnsProtected := by
  intro s i n hrep hpe hi
  have hruns := runs_farReturn hrep hi
  have hret (h0 : StackFits s 0) (h1 : StackFits s 1) := farReturn_protected (s := s.begin) (n := n) hpe h0 h1
  refine ⟨returnFaults_of_returnTo (size := 4 + n) (release := n) ?_ ?_ ?_, ?_⟩
  · rintro ⟨k, hk, hbad⟩ e he
    refine hruns.raises (farReturn_raises (s := s.begin) (fun ⟨h0, h1⟩ => hbad ?_) he)
    interval_cases k
    exacts [h0, h1]
  · rintro - rfl
    rcases hi with ⟨h, -⟩ | h <;> cases h
  · exact fun hfits e _ he => hruns.raises ((hret (hfits 0 Nat.zero_lt_two) (hfits 1 Nat.one_lt_two)).trans he)
  · rintro _ _ d h0 h1 rfl rfl hd hlimit
    refine ⟨fun hsame => ?_, fun hout hframe nss d2 hnss hd2 => ?_⟩
    · exact ⟨_, hruns.completes ((hret h0 h1).trans (returnTo_same_completes (s := s.begin) hsame hd hlimit)) rfl,
        accessedSet_of_mem (s := s.begin) rfl, rfl⟩
    · exact ⟨_, _, hruns.completes
          ((hret h0 h1).trans (returnTo_outer_completes (s := s.begin) hout hframe hd hlimit hnss hd2)) rfl,
        enterCode_accessedSet (s := s.begin), enterCode_msw .., accessedSet_of_mem rfl, rfl⟩

/-! IRET with NT = 0 (44_control_transfer.md R309; 60_exceptions.md R447, R453). -/

section
variable {s : State}

theorem runs_iret (hrep : NoRep s) : Runs .iret s s.begin.interruptReturn := ⟨hrep, _, (exec.eq_def ..).trans rfl, rfl⟩

theorem loadFlags_protected (cpl : Level) (old : Flags) (w : Word) : loadFlags true cpl old w =
    { flagsOfWord w with
      ifl := if old.iopl < cpl then old.ifl else w.getLsbD 9
      iopl := if cpl = 0 then w.extractLsb' 12 2 else old.iopl } := by
  simp [loadFlags, flagsOfWord]

theorem interruptReturn_same_task (hpe : s.msw.pe = true) (hnt : s.flags.nt = false) :
    s.interruptReturn = s.returnTask >>= fun t => pure { t with nmiInService := false } := by
  simp [State.interruptReturn, hpe, hnt]

theorem returnTask_of_fits (h : ∀ k, k < 3 → StackFits s k) : s.returnTask =
    require (!selNull (stackAt s 1)) (.generalProtection 0) >>= fun _ =>
    returnTo s (stackAt s 1) (stackAt s 0) 6 2 0 >>= fun t =>
    pure { t with flags := loadFlags true s.cpl s.flags (stackAt s 2) } := by
  rw [State.returnTask, ok_bind (stackWord_of_fits (h 0 (by decide))), ok_bind (stackWord_of_fits (h 1 (by decide))),
    ok_bind (stackWord_of_fits (h 2 (by decide)))]
  refine congrArg _ (funext fun _ => ?_)
  unfold returnTo
  split_ifs <;> rfl

theorem interruptReturn_completes {t : State} (hpe : s.msw.pe = true) (hnt : s.flags.nt = false)
    (hfits : ∀ k, k < 3 → StackFits s k) (hle : 4 ≤ (stackAt s 1).toNat)
    (ht : returnTo s (stackAt s 1) (stackAt s 0) 6 2 0 = .ok t) : s.interruptReturn =
      .ok { t with flags := loadFlags true s.cpl s.flags (stackAt s 2), nmiInService := false } := by
  rw [interruptReturn_same_task hpe hnt, returnTask_of_fits hfits, require_not_null hle, ht]
  rfl

/-- The three words of an IRET are read before anything else is looked at, in either mode. -/
theorem frame_raises {e : Exc} {k : Word → Word → Word → Res State} (h : ∃ j, j < 3 ∧ ¬StackFits s j)
    (he : AccessExc s .ss false e) :
    (s.stackWord 0 >>= fun off => s.stackWord 1 >>= fun sel => s.stackWord 2 >>= fun f => k off sel f) = raise e := by
  by_cases h0 : StackFits s 0
  · rw [ok_bind (stackWord_of_fits h0)]
    by_cases h1 : StackFits s 1
    · rw [ok_bind (stackWord_of_fits h1)]
      refine bind_raise (stackWord_eq_raise.2 ⟨fun h2 => ?_, he⟩)
      obtain ⟨j, hj, hbad⟩ := h
      interval_cases j
      exacts [hbad h0, hbad h1, hbad h2]
    · exact bind_raise (stackWord_eq_raise.2 ⟨h1, he⟩)
  · exact bind_raise (stackWord_eq_raise.2 ⟨h0, he⟩)

end

/-- Settles O50: past the three words of the frame and a null selector the return is that of RET far, with FLAGS loaded after it. -/
theorem interruptReturnProtected : Obligations.InterruptReturnProtected := by
  intro s hrep hpe hnt
  have hruns := runs_iret hrep
  have hret := interruptReturn_same_task (s := s.begin) hpe hnt
  have htask (h : ∀ k, k < 3 → StackFits s k) := returnTask_of_fits (s := s.begin) h
  refine ⟨returnFaults_of_returnTo (size := 6) (release := 0) ?_ ?_ ?_, ?_⟩
  · exact fun h e he => hruns.raises (hret.trans (bind_raise (frame_raises (s := s.begin) h he)))
  · exact fun hfits _ hnull => hruns.raises (hret.trans (bind_raise ((htask hfits).trans (require_null hnull))))
  · refine fun hfits e hnull he => hruns.raises (hret.trans (bind_raise ((htask hfits).trans ?_)))
    by_cases hle : 4 ≤ (stackAt s 1).toNat
    · exact (require_not_null hle).trans (bind_raise he)
    · rw [hnull rfl (Nat.not_le.1 hle)]
      exact require_null (Nat.not_le.1 hle)
  · rintro _ _ d _ h0 h1 h2 rfl rfl rfl hd hlimit
    have hfits : ∀ k, k < 3 → StackFits s k := by
      intro k hk
      interval_cases k
      exacts [h0, h1, h2]
    rw [← loadFlags_protected]
    have hle : 4 ≤ (stackAt s 1).toNat := hd.1
    have hdone {t : State} (ht : returnTo s.begin (stackAt s 1) (stackAt s 0) 6 2 0 = .ok t) :=
      hruns.completes (interruptReturn_completes (s := s.begin) hpe hnt hfits hle ht)
    refine ⟨fun hsame => ?_, fun hout hframe nss d2 hnss hd2 => ?_⟩
    · exact ⟨_, hdone (returnTo_same_completes (s := s.begin) hsame hd hlimit) rfl, accessedSet_of_mem (s := s.begin) rfl,
        rfl⟩
    · have hto := returnTo_outer_completes (s := s.begin) (size := 6) (n := 2) (release := 0) hout hframe hd hlimit hnss hd2
      rw [add_zero] at hto
      exact ⟨_, _, hdone hto rfl, enterCode_accessedSet (s := s.begin), enterCode_msw .., accessedSet_of_mem rfl, rfl⟩

end Sys2Proof.Proofs

/-! PROOFS. Statements of 44_control_transfer.md about call gates (R319; 60_exceptions.md R461), with the stack of an inner level and
what stands on a stack after a frame is pushed. -/
namespace Sys2Proof.Proofs
open Sys2Proof Sys2Proof.Machine Sys2Proof.Claims

/-! The words of a frame after it is pushed. -/

section
variable {s t v : State} {code w : Word} {ws : List Word}

/-- A push keeps every word of the stack segment that it does not overlap. -/
theorem push_read16_disjoint {off : Nat} (h : s.push code w = .ok t) (hoff : off + 2 ≤ 0x10000)
    (hdisj : t.regs.sp.toNat + 2 ≤ off ∨ off + 2 ≤ t.regs.sp.toNat) :
    t.read16 (s.ss.base.toNat + off) = s.read16 (s.ss.base.toNat + off) := by
  obtain ⟨hcheck, rfl⟩ := push_ok.1 h
  exact read16_write16_disjoint s w (check_noWrap hcheck) hoff hdisj

theorem pushAll_read16_disjoint {off : Nat} (h : s.pushAll code ws = .ok t) (hoff : off + 2 ≤ 0x10000)
    (hdisj : ∀ k, k < ws.length → (s.regs.sp - BitVec.ofNat 16 (2 * (k + 1))).toNat + 2 ≤ off ∨
      off + 2 ≤ (s.regs.sp - BitVec.ofNat 16 (2 * (k + 1))).toNat) :
    t.read16 (s.ss.base.toNat + off) = s.read16 (s.ss.base.toNat + off) := by
  induction ws generalizing s with
  | nil =>
    cases h
    rfl
  | cons w ws ih =>
    rw [pushAll_cons] at h
    obtain ⟨u, hu, h⟩ := bind_ok.1 h
    have hsp : u.regs.sp = s.regs.sp - 2 := by rw [push_frame hu]
    have hss : u.ss = s.ss := by rw [push_frame hu]
    have hfirst := push_read16_disjoint hu hoff (hsp ▸ hdisj 0 (Nat.succ_pos _))
    have hrest := ih h fun k hk => by
      rw [hsp, sub_two_sub]
      exact hdisj (k + 1) (Nat.succ_lt_succ hk)
    rw [hss] at hrest
    exact hrest.trans hfirst

/-- Fewer than 2^15 words pushed do not come round to the word at SP. -/
theorem pushAll_read16_sp (h : s.pushAll code ws = .ok t) (hlen : ws.length < 0x8000) (hsp : s.regs.sp.toNat + 2 ≤ 0x10000) :
    t.read16 (s.ss.base.toNat + s.regs.sp.toNat) = s.read16 (s.ss.base.toNat + s.regs.sp.toNat) := by
  refine pushAll_read16_disjoint h hsp fun k hk => ?_
  rw [BitVec.toNat_sub, BitVec.toNat_ofNat]
  omega

theorem stackHolds_of_pushAll (h : s.pushAll code ws = .ok t) (hlen : ws.length ≤ 0x8000) :
    StackHolds t s.ss s.regs.sp ws := by
  induction ws generalizing s with
  | nil => trivial
  | cons w ws ih =>
    rw [pushAll_cons] at h
    obtain ⟨u, hu, h⟩ := bind_ok.1 h
    have hsp : u.regs.sp = s.regs.sp - 2 := by rw [push_frame hu]
    have hss : u.ss = s.ss := by rw [push_frame hu]
    obtain ⟨hcheck, hword⟩ := lread16_ok.1 (push_lread16_sp hu)
    have hkept := pushAll_read16_sp h hlen (check_noWrap hcheck)
    have hrest := ih h (Nat.le_of_succ_le hlen)
    rw [hss, hsp] at hkept hrest
    refine ⟨hkept.trans ?_, hrest⟩
    rw [← hsp, ← hss]
    exact hword

/-- A frame changes the bytes of its words alone. -/
theorem pushAll_physByte {p : Nat} (h : s.pushAll code ws = .ok t)
    (hp : ∀ k, k < ws.length →
      p ≠ physAddr s.msw.pe (s.ss.base.toNat + (s.regs.sp - BitVec.ofNat 16 (2 * (k + 1))).toNat) ∧
      p ≠ physAddr s.msw.pe (s.ss.base.toNat + (s.regs.sp - BitVec.ofNat 16 (2 * (k + 1))).toNat + 1)) :
    t.physByte p = s.physByte p := by
  induction ws generalizing s with
  | nil =>
    cases h
    rfl
  | cons w ws ih =>
    rw [pushAll_cons] at h
    obtain ⟨u, hu, h⟩ := bind_ok.1 h
    obtain ⟨-, -, hfirst⟩ := push_storedWord hu
    obtain ⟨hlow, hhigh⟩ := hp 0 (Nat.succ_pos _)
    have hrest := ih h fun k hk => by
      have hk := hp (k + 1) (Nat.succ_lt_succ hk)
      rw [← sub_two_sub] at hk
      rw [push_frame hu]
      exact hk
    exact hrest.trans (hfirst p hlow hhigh)

theorem stackPushed_of_pushAll (h : v.pushAll code ws = .ok t) (hmsw : v.msw = s.msw) (hlen : ws.length ≤ 0x8000) :
    StackPushed s v t v.ss v.regs.sp ws := by
  refine ⟨hmsw, ?_, stackHolds_of_pushAll h hlen, fun p hp => pushAll_physByte h (hmsw ▸ hp)⟩
  rw [pushAll_ok h]
  exact hmsw

end

/-! Room checked before anything is pushed (44_control_transfer.md R319). -/

section
variable {s : State} {code : Word} {e : Exc} {n : Nat}

theorem roomFor_succ (s : State) (code : Word) (n : Nat) : s.roomFor code (n + 1) =
    s.roomFor code n >>= fun _ => s.check .ss (s.regs.sp - BitVec.ofNat 16 (2 * (n + 1))).toNat 2 true code := by
  rw [State.roomFor]
  cases s.roomFor code n <;> rfl

theorem roomFor_ok : s.roomFor code n = .ok () ↔ PushesFit s n := by
  induction n with
  | zero => exact iff_of_true rfl fun k hk => absurd hk k.not_lt_zero
  | succ n ih =>
    rw [roomFor_succ, bind_ok, exists_unit, ih, check_ok_iff_fits, PushesFit, PushesFit, Nat.forall_lt_succ_right]

theorem roomFor_raisesOnly (he : AccessExc s .ss true e) : RaisesOnly e (s.roomFor 0 n) := by
  induction n with
  | zero => exact raisesOnly_ok
  | succ n ih =>
    rw [roomFor_succ]
    exact ih.bind fun _ _ => check_raisesOnly he

theorem roomFor_eq_raise (h : ¬PushesFit s n) (he : AccessExc s .ss true e) : s.roomFor 0 n = raise e :=
  (roomFor_raisesOnly he).eq_raise fun _ hu => h (roomFor_ok.1 hu)

end

/-! The stack of an inner level (44_control_transfer.md R319; 60_exceptions.md R445, R461). -/

/-- SP and SS of the level from the task state segment, SS checked, and then `k`. -/
def onInnerStack (s : State) (lvl : Level) (ext : Word) (k : Word → Word → Desc → Res State) : Res State := do
  require (decide (4 + 4 * lvl.toNat + 1 ≤ s.tr.limit.toNat)) (.invalidTss (selCode s.tr.sel ||| ext))
  let nss := s.read16 (s.tr.base.toNat + 4 + 4 * lvl.toNat)
  let d ← stackCheck s lvl nss ext .invalidTss
  k (s.read16 (s.tr.base.toNat + 2 + 4 * lvl.toNat)) nss d

section
variable {s : State} {lvl : Level} {ext nsp nss : Word} {k : Word → Word → Desc → Res State} {d : Desc} {n : Nat}

theorem innerStackChecked_of_onInnerStack {raises : Exc → Prop}
    (h : ∀ e, onInnerStack s lvl ext k = raise e → raises e) : InnerStackChecked s lvl ext raises := by
  refine ⟨fun hshort => h _ (bind_raise (require_eq_raise.2 ⟨decide_eq_false (Nat.not_le.2 hshort), rfl⟩)),
    fun hlong => ?_⟩
  exact stackChecked_of_stackCheck fun e he => h e ((require_bind (decide_eq_true hlong)).trans (bind_raise he))

theorem onInnerStack_of_innerStack (h : InnerStack s lvl nsp nss d) : onInnerStack s lvl ext k = k nsp nss d := by
  obtain ⟨hlong, rfl, rfl, hd⟩ := h
  exact (require_bind (decide_eq_true hlong)).trans (ok_bind (stackCheck_of_stackFound hd))

/-- A stack of the level may be written, so its limit alone is left to check. -/
theorem typeOk_switchStack (hd : StackAllowed lvl nss d) : TypeOk (s.switchStack lvl nsp nss d) .ss true := by
  obtain ⟨-, -, hwritable⟩ := hd
  rw [switchStack_frame]
  exact ⟨rfl, nofun, hwritable⟩

theorem pushesFit_switchStack (hpe : s.msw.pe = true) (hd : StackAllowed lvl nss d) :
    PushesFit (s.switchStack lvl nsp nss d) n ↔ StackRoom (d.toSeg nss) nsp n := by
  rw [pushesFit_iff_stackRoom ((switchStack_msw ..).symm ▸ hpe) (typeOk_switchStack hd), switchStack_ss, switchStack_sp]

theorem accessExc_switchStack (hd : StackAllowed lvl nss d) :
    AccessExc (s.switchStack lvl nsp nss d) .ss true (.stackFault 0) := .inr ⟨fun _ => typeOk_switchStack hd, rfl⟩

end

/-! The ways through a call gate (44_control_transfer.md R319). -/

/-- Whether a gate may name the code segment. -/
def gateAllows (s : State) (d : Desc) : Bool := arCode d.ar && decide (arDpl d.ar ≤ s.cpl)

/-- A call through the gate `g` to `t` on the inner stack `nss:nsp`. -/
def callOn (s : State) (g t : Desc) (nsp nss : Word) (d : Desc) : Res State := do
  (s.switchStack (arDpl t.ar) nsp nss d).roomFor 0 (4 + g.gateCount)
  let params ← s.stackWords g.gateCount
  let u ← (s.switchStack (arDpl t.ar) nsp nss d).pushAll 0
    ([s.ss.sel, s.regs.sp] ++ params.reverse ++ [s.cs.sel, s.ipNext])
  pure (u.enterCode (withRpl g.gateSel (arDpl t.ar)) t g.gateOffset)

/-- A transfer through the gate `g` to the checked target `t`. -/
def throughGate (s : State) (g t : Desc) (call : Bool) : Res State :=
  if call && !arConforming t.ar && decide (arDpl t.ar < s.cpl) then s.callInner g t
  else do
    require (call || arConforming t.ar || decide (arDpl t.ar = s.cpl)) (.generalProtection (selCode g.gateSel))
    let u ← pushReturn s call
    pure (u.enterCode (withRpl g.gateSel s.cpl) t g.gateOffset)

/-- A transfer through the gate `g`, past the checks of the gate itself. -/
def gateEntry (s : State) (g : Desc) (call : Bool) : Res State := do
  let t ← codeCheck s g.gateSel 0 (gateAllows s)
  require (decide (g.gateOffset.toNat ≤ t.limit.toNat)) (.generalProtection 0)
  throughGate s g t call

section
variable {s : State} {g c d : Desc} {call : Bool} {i : Instr} {sel off nsp nss : Word} {e : Exc}

theorem gateAllows_iff : gateAllows s d = true ↔ GateAllows s d := by
  simp only [gateAllows, GateAllows, Bool.and_eq_true, decide_eq_true_eq]

theorem levelMayUse_iff : decide (lvlMax s.cpl (selRpl sel) ≤ arDpl g.ar) = true ↔ LevelMayUse s sel g := by
  rw [decide_eq_true_eq, lvlMax_le, LevelMayUse]

theorem callInner_eq : s.callInner g c = onInnerStack s (arDpl c.ar) 0 (callOn s g c) := by
  simp only [State.callInner, State.innerStack, State.innerSs, onInnerStack, stackCheck, selectorCheck, bind_assoc, pure_bind]
  rfl

theorem gateTransfer_eq : s.gateTransfer sel g call =
    require (decide (lvlMax s.cpl (selRpl sel) ≤ arDpl g.ar)) (.generalProtection (selCode sel)) >>= fun _ =>
    require (arPresent g.ar) (.notPresent (selCode sel)) >>= fun _ => gateEntry s g call := by
  simp only [State.gateTransfer, gateEntry, codeCheck, selectorCheck, selCode_or_zero, bind_assoc, pure_bind]
  cases call <;> rfl

theorem farTransfer_gate (h : 4 ≤ sel.toNat) (hd : s.fetchDesc sel = some g) (hgate : arControl g.ar 4 = true) :
    s.farTransfer sel off call = s.gateTransfer sel g call := by
  rw [farTransfer_of_fetchDesc h hd, arCode_of_control hgate, hgate]
  rfl

theorem runs_gateEntry (hrep : NoRep s) (hpe : s.msw.pe = true) (h : ThroughCallGate s call i g) :
    Runs i s (gateEntry s.begin g call) := by
  obtain ⟨sel, off, hi, hle, hd, hgate, hlevel, hp⟩ := h
  have hgateTransfer : s.begin.farTransfer sel off call = gateEntry s.begin g call :=
    (farTransfer_gate (s := s.begin) hle hd hgate).trans (gateTransfer_eq.trans
      ((require_bind (levelMayUse_iff.2 hlevel)).trans (require_bind hp)))
  exact hgateTransfer ▸ runs_farTransfer hrep hpe hi

theorem gateEntry_of_found (hc : CodeFound s g.gateSel (GateAllows s) c) (hlimit : g.gateOffset.toNat ≤ c.limit.toNat) :
    gateEntry s g call = throughGate s g c call :=
  (ok_bind (codeCheck_of_codeFound (fun _ => gateAllows_iff) hc)).trans (require_bind (decide_eq_true hlimit))

theorem gateEntry_limit (hc : CodeFound s g.gateSel (GateAllows s) c) (hlimit : c.limit.toNat < g.gateOffset.toNat) :
    gateEntry s g call = raise (.generalProtection 0) :=
  (ok_bind (codeCheck_of_codeFound (fun _ => gateAllows_iff) hc)).trans
    (bind_raise (require_eq_raise.2 ⟨decide_eq_false (Nat.not_le.2 hlimit), rfl⟩))

theorem throughGate_same (h : arDpl c.ar = s.cpl ∨ arConforming c.ar = true) : throughGate s g c call =
    pushReturn s call >>= fun u => pure (u.enterCode (withRpl g.gateSel s.cpl) c g.gateOffset) := by
  have hsame : (arConforming c.ar || decide (arDpl c.ar = s.cpl)) = true := by simpa [or_comm] using h
  have hnot : (call && !arConforming c.ar && decide (arDpl c.ar < s.cpl)) = false := by
    rcases h with h | h
    · simp [h]
    · simp [h]
  rw [throughGate, if_neg (by simp [hnot]), Bool.or_assoc, hsame, Bool.or_true]
  rfl

theorem throughGate_jump_inward (hconf : arConforming c.ar = false) (hin : arDpl c.ar < s.cpl) :
    throughGate s g c false = raise (.generalProtection (selCode g.gateSel)) := by
  have hne : arDpl c.ar ≠ s.cpl := by bv_omega
  exact bind_raise (require_eq_raise.2 ⟨by simp [hconf, hne], rfl⟩)

theorem throughGate_call_inward (hconf : arConforming c.ar = false) (hin : arDpl c.ar < s.cpl) :
    throughGate s g c true = onInnerStack s (arDpl c.ar) 0 (callOn s g c) := by
  rw [← callInner_eq, throughGate, if_pos (by simp [hconf, hin])]

theorem gateCount_lt (g : Desc) : g.gateCount < 32 := (g.base.extractLsb' 16 5).isLt

/-- The words of a call inward, the first highest (44_control_transfer.md R319). -/
def callFrame (s : State) (g : Desc) : List Word :=
  [s.ss.sel, s.regs.sp] ++ ((List.range g.gateCount).map (stackAt s)).reverse ++ [s.cs.sel, s.ipNext]

theorem callFrame_length (s : State) (g : Desc) : (callFrame s g).length = 4 + g.gateCount := by
  simp only [callFrame, List.length_append, List.length_reverse, List.length_map, List.length_range, List.length_cons,
    List.length_nil]
  omega

theorem callOn_completes (hroom : PushesFit (s.switchStack (arDpl c.ar) nsp nss d) (4 + g.gateCount))
    (hparams : ∀ k, k < g.gateCount → StackFits s k) :
    ∃ u, (s.switchStack (arDpl c.ar) nsp nss d).pushAll 0 (callFrame s g) = .ok u ∧
      callOn s g c nsp nss d = .ok (u.enterCode (withRpl g.gateSel (arDpl c.ar)) c g.gateOffset) := by
  obtain ⟨u, hu⟩ := pushAll_of_fits (code := 0) ((callFrame_length s g).symm ▸ hroom)
  exact ⟨u, hu, (ok_bind (roomFor_ok.2 hroom)).trans ((ok_bind (stackWords_of_fits hparams)).trans (ok_bind hu))⟩

theorem callOn_no_room (h : ¬PushesFit (s.switchStack (arDpl c.ar) nsp nss d) (4 + g.gateCount))
    (hd : StackAllowed (arDpl c.ar) nss d) : callOn s g c nsp nss d = raise (.stackFault 0) :=
  bind_raise (roomFor_eq_raise h (accessExc_switchStack hd))

theorem callOn_params_raise (hroom : PushesFit (s.switchStack (arDpl c.ar) nsp nss d) (4 + g.gateCount))
    (h : ∃ k, k < g.gateCount ∧ ¬StackFits s k) (he : AccessExc s .ss false e) : callOn s g c nsp nss d = raise e :=
  (ok_bind (roomFor_ok.2 hroom)).trans (bind_raise (stackWords_eq_raise h he))

theorem stackAllowed_of_innerStack {lvl : Level} (h : InnerStack s lvl nsp nss d) : StackAllowed lvl nss d := by
  obtain ⟨-, -, -, -, -, hallowed, -⟩ := h
  exact hallowed

end

/-- A call inward: the frame is pushed on the inner stack before the Accessed bit of the code segment is set. -/
theorem callGateInner : CallGateInner := by
  intro s i g c d nsp nss hrep hpe hthrough hc hlimit hconf hin hstack hroom hparams
  have hallowed := stackAllowed_of_innerStack hstack
  obtain ⟨u, hu, hcall⟩ := callOn_completes (s := s.begin)
    ((pushesFit_switchStack (s := s.begin) hpe hallowed).2 hroom) hparams
  have hentry := (gateEntry_of_found (s := s.begin) (call := true) hc hlimit).trans
    ((throughGate_call_inward (s := s.begin) hconf hin).trans ((onInnerStack_of_innerStack (s := s.begin) hstack).trans hcall))
  have hlen : (callFrame s g).length ≤ 0x8000 := by
    have := gateCount_lt g
    rw [callFrame_length]
    omega
  have hpushed := stackPushed_of_pushAll (s := s) hu (switchStack_msw ..) hlen
  have hframe := pushAll_ok hu
  rw [enterCode_frame, toSeg_withRpl] at hentry
  rw [show (callFrame s.begin g).length = 4 + g.gateCount from callFrame_length s g, switchStack_frame] at hframe
  rw [switchStack_ss, switchStack_sp] at hpushed
  refine ⟨_, u, s.begin.switchStack (arDpl c.ar) nsp nss d, (runs_gateEntry hrep hpe hthrough).completes hentry ?_,
    switchStack_accessedSet (s := s.begin), accessedSet_of_mem rfl, hpushed, ?_⟩
  · rw [hframe]
    rfl
  · rw [hframe]
    rfl

theorem callGateSameLevel : CallGateSameLevel := by
  intro s call i g c hrep hpe hthrough hc hlimit hsame
  have hruns := runs_gateEntry hrep hpe hthrough
  have hentry := (gateEntry_of_found (s := s.begin) (call := call) hc hlimit).trans (throughGate_same hsame)
  refine ⟨?_, ?_⟩
  · rintro rfl
    exact jump_sameLevel hruns hentry
  · rintro rfl hfirst hsecond
    exact call_sameLevel hruns (pushesFit_two.2 ⟨hfirst, hsecond⟩) hentry

theorem callGateFaults : CallGateFaults := by
  intro s call i hrep hpe
  refine ⟨fun sel off g hi hle hd hgate => ?_, fun g hthrough => ?_⟩
  · have hruns := runs_farTransfer hrep hpe hi
    have hfar : s.begin.farTransfer sel off call = _ := (farTransfer_gate (s := s.begin) hle hd hgate).trans gateTransfer_eq
    refine ⟨fun hlevel => hruns.raises (hfar.trans (bind_raise (require_eq_raise.2 ⟨?_, rfl⟩))),
      fun hlevel hp => hruns.raises (hfar.trans ((require_bind (levelMayUse_iff.2 hlevel)).trans
        (bind_raise (require_eq_raise.2 ⟨hp, rfl⟩))))⟩
    exact Bool.eq_false_iff.2 fun h => hlevel (levelMayUse_iff.1 h)
  · have hruns := runs_gateEntry hrep hpe hthrough
    refine ⟨codeChecked_of_codeCheck (s := s.begin) (fun _ => gateAllows_iff) fun e he => hruns.raises (bind_raise he),
      fun c hc => ⟨fun hlimit => hruns.raises (gateEntry_limit (s := s.begin) hc hlimit), fun hlimit => ?_⟩⟩
    have hentry := gateEntry_of_found (s := s.begin) (call := call) hc hlimit
    refine ⟨?_, fun hconf hin => ⟨?_, ?_⟩⟩
    · rintro hsame rfl hroom e he
      exact hruns.raises (hentry.trans ((throughGate_same (s := s.begin) hsame).trans (bind_raise
        (pushReturn_raises (s := s.begin) hroom he))))
    · rintro rfl
      exact hruns.raises (hentry.trans (throughGate_jump_inward (s := s.begin) hconf hin))
    · rintro rfl
      replace hentry := hentry.trans (throughGate_call_inward (s := s.begin) hconf hin)
      refine ⟨innerStackChecked_of_onInnerStack (s := s.begin) fun e he => hruns.raises (hentry.trans he),
        fun nsp nss d hstack => ?_⟩
      have hallowed := stackAllowed_of_innerStack hstack
      have hfit := pushesFit_switchStack (s := s.begin) (nsp := nsp) (n := 4 + g.gateCount) hpe hallowed
      replace hentry := hentry.trans (onInnerStack_of_innerStack (s := s.begin) hstack)
      refine ⟨fun hroom => hruns.raises (hentry.trans (callOn_no_room (fun h => hroom (hfit.1 h)) hallowed)),
        fun hroom hbad e he => hruns.raises (hentry.trans (callOn_params_raise (s := s.begin) (hfit.2 hroom) hbad he))⟩

/-- Settles O46: the checks of the gate, of its target and of the inner stack in their order, and past them the entry. -/
theorem callGates : Obligations.CallGates := ⟨callGateInner, callGateSameLevel, callGateFaults⟩

end Sys2Proof.Proofs

/-! PROOFS. Statements of 44_control_transfer.md and 60_exceptions.md about which entry an event makes: the software interrupts (R306
to R308), exceptions with double fault and shutdown (60_exceptions.md R420, R424, R435, R436), and the events between instructions
(R440, R451, R453). -/
namespace Sys2Proof.Proofs
open Sys2Proof Sys2Proof.Machine Sys2Proof.Claims

/-! Delivering an exception (60_exceptions.md R435, R436). -/

/-- The raise of `e` in the state in which it is delivered. -/
abbrev bare (e : Exc) : Raise := { exc := e, context := none }

section
variable {s t : State} {e : Exc} {r : Raise} {n : Byte}

theorem deliver_in_context (s : State) (r : Raise) : s.deliver r = (r.context.getD s).deliver (bare r.exc) := rfl

theorem deliver_doubleFault (s : State) : s.deliver (bare .doubleFault) = s.doubleFault := rfl

theorem deliver_doubleFault_of_ok (h : s.interrupt 8 false s.ip (some 0) = .ok t) : s.deliver (bare .doubleFault) = t := by
  have hentry : s.enterExc .doubleFault = .ok t := h
  rw [deliver_doubleFault, State.doubleFault, hentry]

theorem deliver_doubleFault_of_error (h : s.interrupt 8 false s.ip (some 0) = .error r) :
    s.deliver (bare .doubleFault) = shutDownFrom (r.context.getD s) := by
  have hentry : s.enterExc .doubleFault = .error r := h
  rw [deliver_doubleFault, State.doubleFault, hentry]
  rfl

/-- An exception whose vector can be entered is taken there. -/
theorem deliver_of_ok (he : e ≠ .doubleFault) (h : s.interrupt e.vector false s.ip e.code = .ok t) :
    s.deliver (bare e) = t := by
  have hentry : s.enterExc e = .ok t := h
  simp [State.deliver, he, hentry]

theorem deliver_of_error (he : e ≠ .doubleFault) (h : s.interrupt e.vector false s.ip e.code = .error r) :
    s.deliver (bare e) =
      if e.contributory = true ∨ r.exc = .doubleFault then (r.context.getD s).deliver (bare .doubleFault)
      else (r.context.getD s).deliverSecond r.exc := by
  have hentry : s.enterExc e = .error r := h
  rw [deliver_doubleFault, State.deliver]
  simp only [Option.getD_none, if_neg he, hentry, Bool.or_eq_true, decide_eq_true_eq]

theorem deliverSecond_of_ok (h : s.interrupt e.vector false s.ip e.code = .ok t) : s.deliverSecond e = t := by
  have hentry : s.enterExc e = .ok t := h
  simp [State.deliverSecond, hentry]

theorem deliverSecond_of_error (h : s.interrupt e.vector false s.ip e.code = .error r) :
    s.deliverSecond e = (r.context.getD s).deliver (bare .doubleFault) := by
  have hentry : s.enterExc e = .error r := h
  rw [State.deliverSecond, hentry, deliver_doubleFault]

theorem contributory_iff : e.contributory = true ↔ e.vector ∈ [(0 : Byte), 10, 11, 12, 13] := by
  cases e <;> simp [Exc.contributory, Exc.vector]

theorem takeEvent_of_ok (h : s.interrupt n false s.ip none = .ok t) : s.takeEvent n = t := by
  simp [State.takeEvent, h]

theorem takeEvent_of_error (h : s.interrupt n false s.ip none = .error r) : s.takeEvent n = s.deliver r := by
  simp [State.takeEvent, h]

end

theorem secondExceptions : SecondExceptions := by
  refine ⟨deliver_in_context, fun s e r he h => ⟨fun hsecond => ?_, ?_⟩,
    fun s => ⟨fun t => deliver_doubleFault_of_ok, fun r => deliver_doubleFault_of_error⟩⟩
  · exact (deliver_of_error he h).trans (if_pos (hsecond.imp_left contributory_iff.2))
  · rintro hnot hne _ rfl
    have hdeliver := (deliver_of_error he h).trans (if_neg fun hsecond => hsecond.elim (hnot ∘ contributory_iff.1) hne)
    exact ⟨fun t ht => hdeliver.trans (deliverSecond_of_ok ht), fun q hq => hdeliver.trans (deliverSecond_of_error hq)⟩

theorem exceptionTable : ExceptionTable := fun _ => rfl

/-! What no entry and no task switch writes. -/

/-- The table registers, the input lines, the latches of the NMI and the record of port writes. -/
structure Environment where
  gdtr : TableReg
  idtr : TableReg
  pins : Pins
  nmiPending : Bool
  nmiInService : Bool
  portTrace : List PortWrite

def environment (s : State) : Environment := ⟨s.gdtr, s.idtr, s.pins, s.nmiPending, s.nmiInService, s.portTrace⟩

/-- What `m` answers has the environment `v`. -/
abbrev EnvironmentIs (v : Environment) (m : Res State) : Prop := Meets (fun _ => True) (fun t => environment t = v) m

section
variable {s : State} {v : Environment}

@[simp] theorem environment_write16 (s : State) (a : Nat) (w : Word) : environment (s.write16 a w) = environment s := rfl

theorem environment_write8 (s : State) (a : Nat) (b : Byte) : environment (s.write8 a b) = environment s := rfl

@[simp] theorem environment_setSeg (s : State) (r : SReg) (g : SegReg) : environment (s.setSeg r g) = environment s := by
  cases r <;> rfl

@[simp] theorem environment_markAccessed (s : State) (d : Desc) : environment (s.markAccessed d) = environment s := by
  rw [markAccessed_frame]
  rfl

theorem environment_enterCode (s : State) (sel : Word) (d : Desc) (off : Word) :
    environment (s.enterCode sel d off) = environment s := by
  rw [enterCode_frame]
  rfl

theorem environment_switchStack (s : State) (lvl : Level) (nsp nss : Word) (d : Desc) :
    environment (s.switchStack lvl nsp nss d) = environment s := by
  rw [switchStack_frame]
  rfl

theorem environment_pushAll {t : State} {code : Word} {ws : List Word} (h : s.pushAll code ws = .ok t) :
    environment t = environment s := by
  rw [pushAll_ok h]
  rfl

theorem environment_saveTask (s : State) (a : Nat) (ip : Word) (f : Flags) :
    environment (s.saveTask a ip f) = environment s := by
  simp only [State.saveTask, environment_write16]

theorem environment_ite {c : Prop} [Decidable c] {t : State} (hs : environment s = v) (ht : environment t = v) :
    environment (if c then s else t) = v := by
  split <;> assumption

theorem environment_leaveTask (h : environment s = v) (sel : Word) (d : Desc) (kind : SwitchKind) (returnIp : Word) :
    environment (s.leaveTask sel d kind returnIp) = v := by
  unfold State.leaveTask
  extract_lets old flags image oldAr saved freed linked busy msw entered
  have hsaved : environment saved = v := (environment_saveTask ..).trans h
  have hfreed : environment freed = v := environment_ite hsaved ((environment_write8 ..).trans hsaved)
  have hlinked : environment linked = v := environment_ite ((environment_write16 ..).trans hfreed) hfreed
  have hbusy : environment busy = v := environment_ite hlinked ((environment_write8 ..).trans hlinked)
  have hentered : environment entered = v := hbusy
  exact hentered

theorem switchLdt_environment (h : environment s = v) (ext : Word) : EnvironmentIs v (s.switchLdt ext) := by
  simp only [State.switchLdt, meets_ite, meets_ok, h, implies_true, meets_bind, meets_require, meets_fetchOr, true_and]
  intros
  exact h

theorem switchCs_environment (h : environment s = v) (ext : Word) : EnvironmentIs v (s.switchCs ext) := by
  simp [State.switchCs, h]

theorem switchSs_environment (h : environment s = v) (ext : Word) : EnvironmentIs v (s.switchSs ext) := by
  simp [State.switchSs, h]

theorem switchData_environment (h : environment s = v) (r : SReg) (ext : Word) : EnvironmentIs v (s.switchData r ext) := by
  simp [State.switchData, h]

theorem enterTask_environment (h : environment s = v) (ext : Word) : EnvironmentIs v (s.enterTask ext) := by
  simp only [State.enterTask, meets_bind]
  refine (Meets.inContext trivial (switchLdt_environment h ext)).imp fun t ht => ?_
  have hcpl : environment { t with cpl := selRpl t.cs.sel } = v := ht
  refine (Meets.inContext trivial (switchCs_environment hcpl ext)).imp fun t ht => ?_
  refine (Meets.inContext trivial (switchSs_environment ht ext)).imp fun t ht => ?_
  refine (Meets.inContext trivial (switchData_environment ht .ds ext)).imp fun t ht => ?_
  refine (Meets.inContext trivial (switchData_environment ht .es ext)).imp fun t ht => ?_
  exact Meets.inContext trivial (meets_require.2 fun _ => ht)

theorem taskSwitch_environment (h : environment s = v) (sel : Word) (d : Desc) (kind : SwitchKind) (returnIp ext : Word) :
    EnvironmentIs v (s.taskSwitch sel d kind returnIp ext) := by
  simp [State.taskSwitch, enterTask_environment (environment_leaveTask h ..)]

variable (n : Byte) (g t : Desc) (soft : Bool) (returnIp ext : Word) (ec : Option Word)

theorem enterReal_environment : EnvironmentIs (environment s) (s.enterReal n returnIp) := by
  simp only [State.enterReal, meets_bind, meets_pushAll, meets_require]
  exact fun _ u hu => (environment_pushAll hu : environment u = environment s)

theorem enterSame_environment : EnvironmentIs (environment s) (s.enterSame g t returnIp ec ext) := by
  simp only [State.enterSame, meets_bind, meets_require, meets_pushAll]
  exact fun u hu _ =>
    (environment_enterCode u (withRpl g.gateSel s.cpl) t g.gateOffset).trans (environment_pushAll hu)

theorem enterInner_environment : EnvironmentIs (environment s) (s.enterInner g t returnIp ec ext) := by
  simp only [State.enterInner, meets_bind, meets_require, meets_pushAll, meets_innerSs, meets_innerStack, Prod.forall]
  exact fun _ _ _ _ _ u hu _ => (environment_enterCode u (withRpl g.gateSel (arDpl t.ar)) t g.gateOffset).trans
    ((environment_pushAll hu).trans (environment_switchStack ..))

theorem enterTaskGate_environment : EnvironmentIs (environment s) (s.enterTaskGate g returnIp ec ext) := by
  simp only [State.enterTaskGate, meets_bind, meets_tssDesc]
  refine fun d _ => (taskSwitch_environment rfl ..).imp fun t ht => Meets.inContext trivial ?_
  exact (meets_pushAll ..).2 fun u hu => (environment_pushAll hu).trans ht

theorem enterProtected_environment : EnvironmentIs (environment s) (s.enterProtected n soft returnIp ec) := by
  simp [State.enterProtected, enterTaskGate_environment, enterInner_environment, enterSame_environment]

theorem interrupt_environment : EnvironmentIs (environment s) (s.interrupt n soft returnIp ec) := by
  simp only [State.interrupt, meets_ite, meets_bind]
  exact ⟨fun _ => enterProtected_environment .., fun _ => enterReal_environment ..⟩

end

/-! The events between instructions (60_exceptions.md R440, R451, R453). -/

theorem eventTaken_takeEvent (s : State) (n : Byte) : EventTaken s (s.takeEvent n) n := by
  refine ⟨fun u hu => ?_, fun r => takeEvent_of_error⟩
  have henv : environment u = environment s := (interrupt_environment ..).answered hu
  exact ⟨takeEvent_of_ok hu, congrArg Environment.pins henv, congrArg Environment.nmiPending henv,
    congrArg Environment.nmiInService henv⟩

theorem eventsTaken : EventsTaken := fun s =>
  ⟨eventTaken_takeEvent s, eventTaken_takeEvent _ 2, eventTaken_takeEvent _ 1, eventTaken_takeEvent _ 9,
    eventTaken_takeEvent _⟩

/-! The software interrupts (44_control_transfer.md R306 to R308). -/

section
variable {s t : State} {i : Instr} {n : Byte} {soft : Bool} {returnIp : Word} {ec : Option Word} {e : Exc} {r : Raise}

/-- INT, INT 3, and INTO with OF set, by their vector. -/
def SoftInt (s : State) (i : Instr) (n : Byte) : Prop :=
  i = .intImm8 n ∨ (i = .int3 ∧ n = 3) ∨ (i = .into ∧ n = 4 ∧ s.flags.of = true)

theorem runs_softInt (hrep : NoRep s) (h : SoftInt s i n) : Runs i s (s.begin.interrupt n true s.ipNext none) := by
  rcases h with rfl | ⟨rfl, rfl⟩ | ⟨rfl, rfl, hof⟩
  · exact ⟨hrep, _, (exec.eq_def ..).trans rfl, rfl⟩
  · exact ⟨hrep, _, (exec.eq_def ..).trans rfl, rfl⟩
  · exact ⟨hrep, _, (exec.eq_def ..).trans rfl, if_pos hof⟩

theorem exec_into_of_not_of (hrep : NoRep s) (hof : s.flags.of = false) : exec .into s = .next (after s s s.ipNext) :=
  exec_of_transfer (u := s.begin.advance) hrep ((exec.eq_def ..).trans rfl) (if_neg (by simp [State.begin, hof])) rfl

/-- The one mechanism for all events: the entry of the mode, and then nothing is left of the interrupted instruction. -/
theorem interrupt_eq : s.interrupt n soft returnIp ec =
    (if s.msw.pe then s.enterProtected n soft returnIp ec else s.enterReal n returnIp) >>= fun t =>
      pure t.interrupted := by
  unfold State.interrupt
  split <;> rfl

theorem interrupt_ok (h : s.interrupt n soft returnIp ec = .ok t) : ∃ u : State, t = u.interrupted := by
  obtain ⟨u, -, hu⟩ := bind_ok.1 (interrupt_eq.symm.trans h)
  exact ⟨u, (pure_ok.1 hu).symm⟩

/-- A trap is due at the handler of a traced software interrupt (log 24). -/
theorem exec_softInt_of_ok (hrep : NoRep s) (hi : SoftInt s i n) (h : s.begin.interrupt n true s.ipNext none = .ok t) :
    exec i s = .next { t with trapPending := s.flags.tf } := by
  obtain ⟨u, rfl⟩ := interrupt_ok h
  rw [(runs_softInt hrep hi).completes h rfl]
  rfl

theorem exec_softInt_of_error (hrep : NoRep s) (hi : SoftInt s i n)
    (h : s.begin.interrupt n true s.ipNext none = .error r) : exec i s = .next (s.begin.deliver r) := by
  obtain ⟨_, f, hexec, hf⟩ := runs_softInt hrep hi
  exact hexec.trans (transfer_error hrep (hf.trans h))

/-- A software interrupt may not use a gate of a level above the program's (60_exceptions.md R443). -/
theorem interrupt_soft_forbidden {g : Desc} (hpe : s.msw.pe = true) (hlimit : 8 * n.toNat + 7 ≤ s.idtr.limit.toNat)
    (hg : g = s.descAt (s.idtr.base.toNat + 8 * n.toNat))
    (htype : arControl g.ar 5 = true ∨ arControl g.ar 6 = true ∨ arControl g.ar 7 = true) (hdpl : arDpl g.ar < s.cpl) :
    s.interrupt n true returnIp ec = raise (.generalProtection (BitVec.ofNat 16 (8 * n.toNat + 2))) := by
  subst hg
  have hgate : (arControl (s.descAt (s.idtr.base.toNat + 8 * n.toNat)).ar 5 ||
      arControl (s.descAt (s.idtr.base.toNat + 8 * n.toNat)).ar 6 ||
      arControl (s.descAt (s.idtr.base.toNat + 8 * n.toNat)).ar 7) = true := by
    simpa only [Bool.or_eq_true, or_assoc] using htype
  have hdenied : decide (s.cpl ≤ arDpl (s.descAt (s.idtr.base.toNat + 8 * n.toNat)).ar) = false :=
    decide_eq_false (by bv_omega)
  have hentry : s.enterProtected n true returnIp ec =
      raise (.generalProtection (BitVec.ofNat 16 (8 * n.toNat + 2))) :=
    (require_bind (decide_eq_true hlimit)).trans ((require_bind hgate).trans
      (bind_raise (require_eq_raise.2 ⟨hdenied, rfl⟩)))
  rw [interrupt_eq, if_pos hpe]
  exact bind_raise hentry

end

/-- Settles O49: the tables, the events and the second exceptions, and the software interrupts by what their entry answers. -/
theorem protectedEvents : Obligations.ProtectedEvents := by
  refine ⟨exceptionTable, eventsTaken, secondExceptions, fun s hpe =>
    ⟨fun hrep i n hi => ⟨fun t => exec_softInt_of_ok hrep hi, fun r => exec_softInt_of_error hrep hi,
      fun g hlimit hg htype hdpl => ?_⟩, exec_into_of_not_of, fun e t => deliver_of_ok, fun n t => takeEvent_of_ok⟩⟩
  exact (runs_softInt hrep hi).raises (interrupt_soft_forbidden (s := s.begin) hpe hlimit hg htype hdpl)

end Sys2Proof.Proofs

/-! PROOFS. Statements of 44_control_transfer.md and 60_exceptions.md about interrupts, exceptions, events and IRET in Real Address
Mode (R306 to R309; 60_exceptions.md R424, R435, R436, R442, R451, R453). -/
namespace Sys2Proof.Proofs
open Sys2Proof Sys2Proof.Machine Sys2Proof.Claims

/-! The entry of Real Address Mode (60_exceptions.md R442). -/

section
variable {s t : State} {n : Byte} {soft : Bool} {returnIp a b c : Word} {ec : Option Word}

theorem interrupt_real (hpe : s.msw.pe = false) :
    s.interrupt n soft returnIp ec = s.enterReal n returnIp >>= fun t => pure t.interrupted := by
  rw [interrupt_eq, if_neg (by simp [hpe])]

theorem entryFlags_real (f : Flags) : entryFlags f true false = { f with tf := false, ifl := false } := by
  simp [entryFlags]

/-- SP at which one of three words does not fit. -/
def NoRoomReal (s : State) : Prop := s.regs.sp = 1 ∨ s.regs.sp = 3 ∨ s.regs.sp = 5

theorem pushesFit_three_real (hpe : s.msw.pe = false) :
    PushesFit s 3 ↔ s.regs.sp ≠ 1 ∧ s.regs.sp ≠ 3 ∧ s.regs.sp ≠ 5 := by
  rw [pushesFit_real hpe]
  refine ⟨fun h => ⟨h 0 (by decide), h 1 (by decide), h 2 (by decide)⟩, fun ⟨hone, hthree, hfive⟩ k hk => ?_⟩
  interval_cases k
  exacts [hone, hthree, hfive]

/-- Three words pushed: two, and then the third below them. -/
theorem pushedThree_of_pushAll (h : s.pushAll 0 [a, b, c] = .ok t) :
    ∃ u, PushedTwo s u a b ∧ u.msw = s.msw ∧ u.ss = s.ss ∧ StoredWord u t .ss (s.regs.sp - 6).toNat c := by
  obtain ⟨u, hu, hc⟩ := pushAll_last (vs := [a, b]) h
  have hframe := pushAll_ok hu
  have hword := push_storedWord hc
  have hsp : u.regs.sp - 2 = s.regs.sp - 6 := by
    rw [hframe]
    exact BitVec.sub_sub ..
  exact ⟨u, pushedTwo_of_pushAll hu, by rw [hframe], by rw [hframe], hsp ▸ hword⟩

theorem interrupt_realEntry (h : RealRoom s n) :
    ∃ t, s.interrupt n soft returnIp ec = .ok t ∧ RealEntry s t n returnIp := by
  obtain ⟨hpe, hlimit, hsp⟩ := h
  obtain ⟨w, hw⟩ := pushAll_of_fits (code := 0) (vs := [flagsWord s.flags, s.cs.sel, returnIp])
    ((pushesFit_three_real hpe).2 hsp)
  have henter : s.enterReal n returnIp = _ := (require_bind (decide_eq_true hlimit)).trans (ok_bind hw)
  have hentry := (interrupt_real (soft := soft) (ec := ec) hpe).trans (ok_bind henter)
  rw [entryFlags_real] at hentry
  have hframe := pushAll_ok hw
  have hpushed := pushedThree_of_pushAll hw
  refine ⟨_, hentry, hpushed, rfl, realSeg_realLoad _, ?_⟩
  rw [hframe]
  rfl

/-- A vector outside the table (60_exceptions.md R442). -/
theorem interrupt_real_outside (hpe : s.msw.pe = false) (hlimit : s.idtr.limit.toNat < 4 * n.toNat + 3) :
    s.interrupt n soft returnIp ec = raise .doubleFault :=
  (interrupt_real hpe).trans
    (bind_raise (bind_raise (require_eq_raise.2 ⟨decide_eq_false (Nat.not_le.2 hlimit), rfl⟩)))

theorem interrupt_real_noRoom (hpe : s.msw.pe = false) (hlimit : 4 * n.toNat + 3 ≤ s.idtr.limit.toNat)
    (hsp : NoRoomReal s) : s.interrupt n soft returnIp ec = raise (.stackFault 0) := by
  refine (interrupt_real hpe).trans (bind_raise ((require_bind (decide_eq_true hlimit)).trans (bind_raise ?_)))
  refine pushAll_eq_raise (fun h => ?_) (accessExc_real hpe)
  obtain ⟨hone, hthree, hfive⟩ := (pushesFit_three_real hpe).1 h
  exact hsp.elim hone fun h => h.elim hthree hfive

/-- Without room no vector can be entered. -/
theorem interrupt_real_raises (hpe : s.msw.pe = false) (hsp : NoRoomReal s) :
    ∃ e, (e = .doubleFault ∨ e = .stackFault 0) ∧ s.interrupt n soft returnIp ec = raise e := by
  by_cases hlimit : 4 * n.toNat + 3 ≤ s.idtr.limit.toNat
  · exact ⟨_, .inr rfl, interrupt_real_noRoom hpe hlimit hsp⟩
  · exact ⟨_, .inl rfl, interrupt_real_outside hpe (Nat.not_le.1 hlimit)⟩

end

/-! The instructions (44_control_transfer.md R306 to R309). -/

section
variable {s : State}

theorem loadFlags_real (cpl : Level) (old : Flags) (w : Word) :
    loadFlags false cpl old w = { flagsOfWord w with iopl := 0, nt := false } := by
  simp [loadFlags, flagsOfWord]

theorem interruptReturn_real (hpe : s.msw.pe = false) :
    s.interruptReturn = s.returnReal >>= fun t => pure { t with nmiInService := false } := by
  simp [State.interruptReturn, hpe]

theorem returnReal_of_fits (h0 : StackFits s 0) (h1 : StackFits s 1) (h2 : StackFits s 2) : s.returnReal =
    .ok { s.realFar (stackAt s 1) (stackAt s 0) with
      regs := { s.regs with sp := s.regs.sp + 6 }, flags := { flagsOfWord (stackAt s 2) with iopl := 0, nt := false } } := by
  rw [State.returnReal, ok_bind (stackWord_of_fits h0), ok_bind (stackWord_of_fits h1), ok_bind (stackWord_of_fits h2),
    loadFlags_real]
  rfl

end

theorem interruptsReal : InterruptsReal := by
  intro s hrep hpe
  refine ⟨fun i n hi => ⟨fun hroom => ?_, fun hlimit => ?_, fun hlimit hsp => ?_⟩, fun hsp => ?_,
    exec_into_of_not_of hrep, fun h0 h1 h2 => ?_⟩
  · obtain ⟨u, hu, hentry⟩ := interrupt_realEntry (s := s.begin) (soft := true) (returnIp := s.ipNext) (ec := none) hroom
    exact ⟨_, u, exec_softInt_of_ok hrep hi hu, hentry, rfl⟩
  · exact (runs_softInt hrep hi).raises (interrupt_real_outside (s := s.begin) hpe hlimit)
  · exact (runs_softInt hrep hi).raises (interrupt_real_noRoom (s := s.begin) hpe hlimit hsp)
  · refine (runs_iret hrep).raises ((interruptReturn_real (s := s.begin) hpe).trans
      (bind_raise (frame_raises (s := s.begin) ?_ (accessExc_real hpe))))
    rcases hsp with h | h | h
    · exact ⟨0, by decide, fun hfits => (stackFits_real_zero hpe).1 hfits h⟩
    · exact ⟨1, by decide, fun hfits => (stackFits_real_one hpe).1 hfits h⟩
    · exact ⟨2, by decide, fun hfits => (stackFits_real_two hpe).1 hfits h⟩
  · have hret := (interruptReturn_real (s := s.begin) hpe).trans (ok_bind (returnReal_of_fits (s := s.begin)
      ((stackFits_real_zero hpe).2 h0) ((stackFits_real_one hpe).2 h1) ((stackFits_real_two hpe).2 h2)))
    exact ⟨_, (runs_iret hrep).completes hret rfl, memSame_of_mem rfl, realSeg_realLoad _, rfl⟩

/-! Exceptions and events (60_exceptions.md R424, R435, R436, R451, R453). -/

section
variable {s : State} {n : Byte} {e : Exc}

theorem realEntry_doubleFault (h : RealRoom s 8) : RealEntry s (s.deliver (bare .doubleFault)) 8 s.ip := by
  obtain ⟨t, ht, hentry⟩ := interrupt_realEntry (soft := false) (returnIp := s.ip) (ec := some 0) h
  rwa [deliver_doubleFault_of_ok ht]

theorem shutDown_of_outside (hpe : s.msw.pe = false) (hlimit : s.idtr.limit.toNat < 35) :
    s.deliver (bare .doubleFault) = shutDownFrom s :=
  deliver_doubleFault_of_error (interrupt_real_outside (n := 8) hpe hlimit)

/-- A vector outside the table makes a double fault of an exception. -/
theorem deliver_real_outside (hpe : s.msw.pe = false) (hlimit : s.idtr.limit.toNat < 4 * e.vector.toNat + 3) :
    s.deliver (bare e) = s.deliver (bare .doubleFault) := by
  by_cases he : e = .doubleFault
  · rw [he]
  · exact (deliver_of_error he (interrupt_real_outside hpe hlimit)).trans (if_pos (.inr rfl))

theorem shutDown_of_noRoom (hpe : s.msw.pe = false) (hsp : NoRoomReal s) :
    s.deliver (bare .doubleFault) = shutDownFrom s := by
  obtain ⟨x, -, hx⟩ := interrupt_real_raises (n := 8) (soft := false) (returnIp := s.ip) (ec := some 0) hpe hsp
  exact deliver_doubleFault_of_error hx

/-- Without room for three words every exception ends in shutdown, at the latest as the third. -/
theorem deliver_real_noRoom (hpe : s.msw.pe = false) (hsp : NoRoomReal s) (e : Exc) :
    s.deliver (bare e) = shutDownFrom s := by
  by_cases he : e = .doubleFault
  · rw [he, shutDown_of_noRoom hpe hsp]
  · obtain ⟨x, -, hx⟩ := interrupt_real_raises (n := e.vector) (soft := false) (returnIp := s.ip) (ec := e.code) hpe hsp
    obtain ⟨y, -, hy⟩ := interrupt_real_raises (n := x.vector) (soft := false) (returnIp := s.ip) (ec := x.code) hpe hsp
    refine (deliver_of_error he hx).trans ?_
    split
    · exact shutDown_of_noRoom hpe hsp
    · exact (deliverSecond_of_error hy).trans (shutDown_of_noRoom hpe hsp)

theorem takeEvent_realEntry (h : RealRoom s n) : RealEntry s (s.takeEvent n) n s.ip := by
  obtain ⟨t, ht, hentry⟩ := interrupt_realEntry (soft := false) (returnIp := s.ip) (ec := none) h
  rwa [takeEvent_of_ok ht]

theorem takeEvent_real_outside (hpe : s.msw.pe = false) (hlimit : s.idtr.limit.toNat < 4 * n.toNat + 3) :
    s.takeEvent n = s.deliver (bare .doubleFault) :=
  takeEvent_of_error (interrupt_real_outside hpe hlimit)

theorem takeEvent_real_noRoom (hpe : s.msw.pe = false) (hsp : NoRoomReal s) : s.takeEvent n = shutDownFrom s := by
  obtain ⟨x, -, hx⟩ := interrupt_real_raises (n := n) (soft := false) (returnIp := s.ip) (ec := none) hpe hsp
  exact (takeEvent_of_error hx).trans (deliver_real_noRoom hpe hsp x)

end

theorem exceptionsReal : ExceptionsReal := by
  refine fun s e hpe => ⟨fun he hroom => ?_, fun hlimit hroom => ?_, fun hlimit hdouble => ?_⟩
  · obtain ⟨t, ht, hentry⟩ := interrupt_realEntry (soft := false) (returnIp := s.ip) (ec := e.code) hroom
    rwa [deliver_of_ok he ht]
  · rw [deliver_real_outside hpe hlimit]
    exact realEntry_doubleFault hroom
  · exact (deliver_real_outside hpe hlimit).trans (shutDown_of_outside hpe hdouble)

theorem eventsReal : EventsReal := by
  refine ⟨fun s n hpe => ⟨takeEvent_realEntry, fun hlimit hroom => ?_, fun hlimit hdouble => ?_, fun hsp =>
    ⟨takeEvent_real_noRoom hpe hsp, deliver_real_noRoom hpe hsp⟩⟩, fun s =>
    ⟨fun h => takeEvent_realEntry h, fun h => takeEvent_realEntry (s := { s with trapPending := false }) h,
      fun h => takeEvent_realEntry h, fun n h => takeEvent_realEntry h⟩⟩
  · rw [takeEvent_real_outside hpe hlimit]
    exact realEntry_doubleFault hroom
  · exact (takeEvent_real_outside hpe hlimit).trans (shutDown_of_outside hpe hdouble)

/-- Settles O47: the entry by the table and the room for three words, and what an entry that fails becomes. -/
theorem interruptsAndExceptionsReal : Obligations.InterruptsAndExceptionsReal :=
  ⟨interruptsReal, exceptionsReal, eventsReal⟩

end Sys2Proof.Proofs

/-! PROOFS. Statements of 45_procedure.md: ENTER, LEAVE, PUSHA and POPA (R341 to R344). ENTER is the push of one list of words, as
PUSHA is, since no word it pushes overlaps the display it reads. -/
namespace Sys2Proof.Proofs
open Sys2Proof Sys2Proof.Machine Sys2Proof.Claims

/-! The words of a pushed list, by their place. -/

section
variable {s t : State} {g : SegReg} {off w : Word} {ws : List Word} {k : Nat}

theorem read16_of_stackHolds (h : StackHolds t g off ws) (hk : ws[k]? = some w) :
    t.read16 (g.base.toNat + (off - BitVec.ofNat 16 (2 * (k + 1))).toNat) = w := by
  induction ws generalizing off k with
  | nil => simp at hk
  | cons v ws ih =>
    obtain ⟨hfirst, hrest⟩ := h
    cases k with
    | zero => exact hfirst.trans (Option.some.inj hk)
    | succ k =>
      rw [← sub_two_sub]
      exact ih hrest hk

theorem wordAt_of_stackHolds (hss : t.ss = g) (h : StackHolds t g off ws) (hk : ws[k]? = some w) :
    wordAt t .ss (off - BitVec.ofNat 16 (2 * (k + 1))).toNat = w := by
  subst hss
  exact read16_of_stackHolds h hk

/-- `t` is `s` with `ws` pushed: the words below SP, the first highest, and every other byte as before. -/
def PushedAll (s t : State) (ws : List Word) : Prop :=
  (∀ k w, ws[k]? = some w → wordAt t .ss (s.regs.sp - BitVec.ofNat 16 (2 * (k + 1))).toNat = w) ∧
    ∀ p, (∀ k, k < ws.length → p ≠ cell s .ss (s.regs.sp - BitVec.ofNat 16 (2 * (k + 1))).toNat ∧
        p ≠ cell s .ss ((s.regs.sp - BitVec.ofNat 16 (2 * (k + 1))).toNat + 1)) →
      t.physByte p = s.physByte p

theorem pushedAll_of_pushAll {code : Word} (h : s.pushAll code ws = .ok t) (hlen : ws.length ≤ 0x8000) :
    PushedAll s t ws := by
  have hss : t.ss = s.ss := by rw [pushAll_ok h]
  exact ⟨fun k w => wordAt_of_stackHolds hss (stackHolds_of_pushAll h hlen), fun p => pushAll_physByte h⟩

/-- Pushed words listed by their place are the list pushed. -/
theorem PushedAll.map_wordAt (h : PushedAll s t ws) :
    (List.range ws.length).map (fun k => wordAt t .ss (s.regs.sp - BitVec.ofNat 16 (2 * (k + 1))).toNat) = ws := by
  obtain ⟨hwords, -⟩ := h
  refine List.ext_getElem (by simp) fun k _ hk => ?_
  rw [List.getElem_map, List.getElem_range]
  exact hwords k _ (List.getElem?_eq_getElem hk)

end

/-! What a push does not look at. -/

section
variable {s : State} {code b v w : Word} {ws : List Word}

/-- `s` with BP at `b`. -/
def withBase (s : State) (b : Word) : State := { s with regs := { s.regs with bp := b } }

theorem push_withBase : (withBase s b).push code v = s.push code v >>= fun u => pure (withBase u b) := by
  unfold State.push
  rw [bind_assoc]
  rfl

theorem pushAll_withBase :
    (withBase s b).pushAll code ws = s.pushAll code ws >>= fun u => pure (withBase u b) := by
  induction ws generalizing s with
  | nil => rfl
  | cons w ws ih =>
    rw [pushAll_cons, pushAll_cons, push_withBase, bind_assoc, bind_assoc]
    refine congrArg _ (funext fun u => ?_)
    rw [pure_bind, ih]

theorem pushAll_concat : s.pushAll code (ws ++ [w]) = s.pushAll code ws >>= fun u => u.push code w := by
  induction ws generalizing s with
  | nil =>
    rw [List.nil_append, pushAll_cons]
    exact bind_pure _
  | cons v ws ih =>
    rw [List.cons_append, pushAll_cons, pushAll_cons, bind_assoc]
    exact congrArg _ (funext fun u => ih)

end

/-! ENTER (45_procedure.md R341). -/

section
variable {s u : State} {code v : Word} {n m : Nat}

/-- Where ENTER reads the display word `k`. -/
def displayOffset (s : State) (k : Nat) : Word := s.regs.bp - BitVec.ofNat 16 (2 * (k + 1))

/-- The first `n` words of the display, as they stand in `s`. -/
def displayWords (s : State) (n : Nat) : List Word :=
  (List.range n).map fun k => wordAt s .ss (displayOffset s k).toNat

/-- The first `n` words of the display can be read, and none overlaps one of the first `m` words below SP. -/
def DisplayApart (s : State) (n m : Nat) : Prop :=
  ∀ k, k < n → Fits s .ss (displayOffset s k).toNat 2 false ∧
    ∀ j, j < m → (displayOffset s k).toNat + 2 ≤ (s.regs.sp - BitVec.ofNat 16 (2 * (j + 1))).toNat ∨
      (s.regs.sp - BitVec.ofNat 16 (2 * (j + 1))).toNat + 2 ≤ (displayOffset s k).toNat

/-- Past its first word, read with BP a word lower. -/
theorem displayOffset_withBase (s : State) (k : Nat) :
    displayOffset (withBase s (s.regs.bp - 2)) k = displayOffset s (k + 1) := sub_two_sub ..

theorem displayWords_succ (s : State) (n : Nat) : displayWords s (n + 1) =
    wordAt s .ss (s.regs.bp - 2).toNat :: displayWords (withBase s (s.regs.bp - 2)) n := by
  rw [displayWords, List.range_succ_eq_map, List.map_cons, List.map_map]
  refine congrArg _ (List.map_congr_left fun k _ => ?_)
  rw [displayOffset_withBase]
  rfl

theorem DisplayApart.tail (h : DisplayApart s (n + 1) m) : DisplayApart (withBase s (s.regs.bp - 2)) n m := by
  intro k hk
  rw [displayOffset_withBase]
  exact h (k + 1) (Nat.succ_lt_succ hk)

/-- A word pushed leaves the display as it was, and as far from the words that follow. -/
theorem DisplayApart.push (h : DisplayApart s n (m + 1)) (hu : s.push code v = .ok u) :
    DisplayApart u n m ∧ displayWords u n = displayWords s n := by
  have hsp : u.regs.sp = s.regs.sp - 2 := by rw [push_frame hu]
  have hoffset : displayOffset u = displayOffset s := by
    rw [push_frame hu]
    rfl
  have hss : u.linear .ss = s.linear .ss := by
    rw [push_frame hu]
    rfl
  refine ⟨fun k hk => ?_, List.map_congr_left fun k hk => ?_⟩
  · obtain ⟨hfits, hapart⟩ := h k hk
    rw [hoffset, hsp]
    refine ⟨?_, fun j hj => ?_⟩
    · rw [push_frame hu]
      exact hfits
    · rw [sub_two_sub]
      exact hapart (j + 1) (Nat.succ_lt_succ hj)
  · obtain ⟨hfits, hapart⟩ := h k (List.mem_range.1 hk)
    have hword := push_read16_disjoint hu (check_noWrap (check_ok_iff_fits (code := 0).2 hfits))
      (hsp ▸ (hapart 0 (Nat.succ_pos _)).symm)
    rw [hoffset]
    exact (congrArg u.read16 (congrFun hss _)).trans hword

theorem bind_congr_of_ok {α β : Type} {m : Res α} {f g : α → Res β} (h : ∀ a, m = .ok a → f a = g a) :
    (m >>= f) = (m >>= g) := by
  cases m with
  | ok a => exact h a rfl
  | error r => rfl

/-- The display apart, its copy is the push of its words, with BP as many words lower. -/
theorem copyDisplay_eq_pushAll (h : DisplayApart s n n) : s.copyDisplay n =
    s.pushAll 0 (displayWords s n) >>= fun u => pure (withBase u (s.regs.bp - BitVec.ofNat 16 (2 * n))) := by
  rw [← pushAll_withBase]
  induction n generalizing s with
  | zero => simp [State.copyDisplay, State.pushAll, displayWords, withBase]
  | succ n ih =>
    have hread := lread16_of_fits (h 0 (Nat.succ_pos n)).1
    have hlower : withBase s (s.regs.bp - BitVec.ofNat 16 (2 * (n + 1))) =
        withBase (withBase s (s.regs.bp - 2)) (s.regs.bp - BitVec.ofNat 16 (2 * (n + 1))) := rfl
    rw [copyDisplay_succ, displayWords_succ, pushAll_cons, hlower, push_withBase, bind_assoc]
    refine (ok_bind hread).trans (bind_congr_of_ok fun u hu => ?_)
    obtain ⟨hapart, hwords⟩ := h.tail.push hu
    have hbp : u.regs.bp = s.regs.bp - 2 := by rw [push_frame hu]
    rw [pure_bind, ih hapart, hwords, hbp, sub_two_sub]

/-- The words that ENTER pushes: BP, then for a level above 0 the display and the new frame pointer. -/
def enterWords (s : State) : Nat → List Word
  | 0 => [s.regs.bp]
  | n + 1 => s.regs.bp :: (displayWords s n ++ [s.regs.sp - 2])

theorem enterWords_length (s : State) (n : Nat) : (enterWords s n).length = n + 1 := by
  cases n <;> simp [enterWords, displayWords]

theorem enterWords_first (s : State) (n : Nat) : (enterWords s n)[0]? = some s.regs.bp := by cases n <;> rfl

theorem enterWords_display {k : Nat} (hk : k + 1 < n) :
    (enterWords s n)[k + 1]? = some (wordAt s .ss (displayOffset s k).toNat) := by
  obtain ⟨m, rfl⟩ := Nat.exists_eq_succ_of_ne_zero (Nat.ne_zero_of_lt hk)
  have hk : k < m := Nat.lt_of_succ_lt_succ hk
  simp [enterWords, displayWords, List.getElem?_append, hk]

theorem enterWords_last (hn : 0 < n) : (enterWords s n)[n]? = some (s.regs.sp - 2) := by
  obtain ⟨m, rfl⟩ := Nat.exists_eq_succ_of_ne_zero hn.ne'
  simp [enterWords, displayWords]

/-- `u` with the registers ENTER leaves when its new frame is at `frame`. -/
def entered (u : State) (frame size : Word) : State :=
  { u with regs := { u.regs with bp := frame, sp := u.regs.sp - size } }

/-- ENTER past its first push: the words left to push, BP being set at the end. -/
theorem enterRest_eq_pushAll (h : DisplayApart s (n - 1) (n + 1)) (hu : s.push 0 s.regs.bp = .ok u) (size : Word) :
    (enterRest u n >>= fun v => pure (entered v u.regs.sp size)) =
      u.pushAll 0 (enterWords s n).tail >>= fun v => pure (entered v u.regs.sp size) := by
  cases n with
  | zero => rfl
  | succ n =>
    obtain ⟨hapart, hwords⟩ := DisplayApart.push (n := n) h hu
    have hsp : u.regs.sp = s.regs.sp - 2 := by rw [push_frame hu]
    have hcopy := copyDisplay_eq_pushAll (s := u) (n := n) fun k hk =>
      ⟨(hapart k hk).1, fun j hj => (hapart k hk).2 j (Nat.lt_succ_of_lt hj)⟩
    have hrest : enterRest u (n + 1) = u.copyDisplay n >>= fun v => v.push 0 u.regs.sp := rfl
    have htail : (enterWords s (n + 1)).tail = displayWords s n ++ [s.regs.sp - 2] := rfl
    rw [hrest, htail, hcopy, hwords, hsp, pushAll_concat]
    simp only [bind_assoc, pure_bind, push_withBase]
    rfl

theorem enterFrame_eq_pushAll (h : DisplayApart s (n - 1) (n + 1)) (size : Word) : s.enterFrame size n =
    s.pushAll 0 (enterWords s n) >>= fun u => pure (entered u (s.regs.sp - 2) size) := by
  have hcons : enterWords s n = s.regs.bp :: (enterWords s n).tail := by cases n <;> rfl
  rw [enterFrame_eq, hcons, pushAll_cons, bind_assoc]
  refine bind_congr_of_ok fun u hu => ?_
  have hsp : u.regs.sp = s.regs.sp - 2 := by rw [push_frame hu]
  rw [← hsp]
  exact enterRest_eq_pushAll h hu size

/-- What ENTER leaves, by the list of words it pushes. -/
theorem enter_completes (hrep : NoRep s) {level : Byte} (hn : n = level.toNat % 32)
    (hroom : PushesFit s (n + 1)) (hdisplay : DisplayApart s (n - 1) (n + 1)) (size : Word) :
    ∃ t, exec (.enter size level) s = .next t ∧ Ended s t ∧ t.flags = s.flags ∧
      t.regs = { s.regs with bp := s.regs.sp - 2, sp := s.regs.sp - BitVec.ofNat 16 (2 * (n + 1)) - size } ∧
      PushedAll s t (enterWords s n) := by
  subst hn
  have hlen := enterWords_length s (level.toNat % 32)
  obtain ⟨u, hu⟩ := pushAll_of_fits (s := s.begin) (code := 0) (vs := enterWords s (level.toNat % 32)) (hlen ▸ hroom)
  have hframe := pushAll_ok hu
  have hpushed : PushedAll s u (enterWords s (level.toNat % 32)) := pushedAll_of_pushAll (s := s.begin) hu (by omega)
  rw [hlen] at hframe
  obtain ⟨hnext, hended⟩ := ended_of_plain (i := .enter size level) (u := entered u (s.regs.sp - 2) size) hrep
    ((exec.eq_def ..).trans rfl) ((enterFrame_eq_pushAll (s := s.begin) hdisplay size).trans (ok_bind hu)) (by
      rw [hframe]
      rfl)
  refine ⟨_, hnext, hended, ?_, ?_, hpushed⟩
  · rw [hframe]
    rfl
  · rw [hframe]
    rfl

end

/-! PUSHA and POPA (45_procedure.md R343, R344). -/

section
variable {s : State}

theorem straddles_iff : s.straddles = true ↔ s.msw.pe = false ∧ s.regs.sp.toNat % 2 = 1 ∧ s.regs.sp.toNat < 16 := by
  simp [State.straddles, BitVec.getLsbD, Nat.testBit_zero, and_assoc]

/-- Of eight words below an odd SP under 16, one is at FFFF; where all fit, PUSHA is not refused (log 16). -/
theorem not_straddles_of_pushesFit (h : PushesFit s 8) : ¬s.straddles = true := by
  intro hstraddles
  obtain ⟨hpe, hodd, hlow⟩ := straddles_iff.1 hstraddles
  refine (pushesFit_real hpe).1 h (s.regs.sp.toNat / 2) (by omega) (BitVec.eq_of_toNat_eq ?_)
  rw [BitVec.toNat_ofNat]
  omega

/-- The registers in the order in which PUSHA pushes them, SP as it was. -/
def allRegs (s : State) : List Word :=
  [s.regs.ax, s.regs.cx, s.regs.dx, s.regs.bx, s.regs.sp, s.regs.bp, s.regs.si, s.regs.di]

theorem exec_pusha (h : ¬s.straddles = true) : exec .pusha s = plain s fun s => s.pushAll 0 (allRegs s) :=
  ((exec.eq_def ..).trans rfl).trans (if_neg h)

theorem pusha_refused (h : s.straddles = true) : exec .pusha s = .refused .pushaStraddle :=
  ((exec.eq_def ..).trans rfl).trans (if_pos h)

theorem pusha_completes (hrep : NoRep s) (hroom : PushesFit s 8) :
    ∃ t, exec .pusha s = .next t ∧ Ended s t ∧ t.flags = s.flags ∧ t.regs = { s.regs with sp := s.regs.sp - 16 } ∧
      PushedAll s t (allRegs s) := by
  obtain ⟨u, hu⟩ := pushAll_of_fits (s := s.begin) (code := 0) (vs := allRegs s) hroom
  have hframe := pushAll_ok hu
  have hpushed : PushedAll s u (allRegs s) := pushedAll_of_pushAll (s := s.begin) hu (Nat.le_of_ble_eq_true rfl)
  obtain ⟨hnext, hended⟩ := ended_of_plain hrep (exec_pusha (not_straddles_of_pushesFit hroom)) hu (by
    rw [hframe]
    rfl)
  refine ⟨_, hnext, hended, ?_, ?_, hpushed⟩
  · rw [hframe]
    rfl
  · rw [hframe]
    rfl

/-- The word at the place of SP is read as well, and dropped. -/
theorem popAllRegs_of_fits (h : ∀ k, k < 8 → StackFits s k) : s.popAllRegs = .ok { s with regs :=
    { di := stackAt s 0, si := stackAt s 1, bp := stackAt s 2, sp := s.regs.sp + 16, bx := stackAt s 4
      dx := stackAt s 5, cx := stackAt s 6, ax := stackAt s 7 } } := by
  have hword (k : Nat) (hk : k < 8) := stackWord_of_fits (h k hk)
  rw [State.popAllRegs, ok_bind (hword 0 (by decide)), ok_bind (hword 1 (by decide)), ok_bind (hword 2 (by decide)),
    ok_bind (hword 3 (by decide)), ok_bind (hword 4 (by decide)), ok_bind (hword 5 (by decide)),
    ok_bind (hword 6 (by decide)), ok_bind (hword 7 (by decide))]
  rfl

end

/-- Settles O52: ENTER and PUSHA each push one list of words. -/
theorem procedureInstructions : Obligations.ProcedureInstructions := by
  refine ⟨fun s size level n hrep hn hroom hread hapart => ?_, fun s hrep => ⟨fun hfits => ?_, fun hfits e he => ?_,
    fun hroom => ?_, fun hfits => ?_, fun hpe hodd hlow => pusha_refused (straddles_iff.2 ⟨hpe, hodd, hlow⟩)⟩⟩
  · have hdisplay : DisplayApart s (n - 1) (n + 1) := fun k hk =>
      have hk := Nat.add_lt_of_lt_sub hk
      ⟨hread k hk, fun j hj => hapart j k (Nat.le_of_lt_succ hj) hk⟩
    obtain ⟨t, hnext, hended, hflags, hregs, hwords, hrest⟩ :=
      enter_completes hrep hn (fun j hj => hroom j (Nat.le_of_lt_succ hj)) hdisplay size
    rw [enterWords_length] at hrest
    exact ⟨t, hnext, hended, hflags, hregs, hwords 0 _ (enterWords_first s n),
      fun k hk => hwords (k + 1) _ (enterWords_display hk), fun hpos => hwords n _ (enterWords_last hpos),
      fun p hp => hrest p fun j hj => hp j (Nat.le_of_lt_succ hj)⟩
  · exact exec_of_plain_begin hrep ((exec.eq_def ..).trans rfl) (ok_bind (lread16_of_fits (s := s.begin) hfits)) rfl
  · exact raises_of_plain hrep ((exec.eq_def ..).trans rfl) (bind_raise (lread16_eq_raise (s := s.begin).2 ⟨hfits, he⟩))
  · obtain ⟨t, hnext, hended, hflags, hregs, hpushed⟩ := pusha_completes hrep hroom
    have hlisted := hpushed.map_wordAt
    obtain ⟨-, hrest⟩ := hpushed
    exact ⟨t, hnext, hended, hflags, hregs, hlisted, hrest⟩
  · exact exec_of_plain_begin hrep ((exec.eq_def ..).trans rfl) (popAllRegs_of_fits (s := s.begin) hfits) rfl

end Sys2Proof.Proofs

/-! PROOFS. Statements of 46_processor_control.md: the flag instructions (R350 to R355), STI, CLI and HLT (R356 to R358), WAIT and
ESC (R359, R360). -/
namespace Sys2Proof.Proofs
open Sys2Proof Sys2Proof.Machine Sys2Proof.Claims

/-! STC, CLC, CMC, STD and CLD. -/

theorem exec_of_flagInstr {i : Instr} {s : State} (f : Flags → Flags) (hrep : NoRep s) (hexec : exec i s = flagInstr s f) :
    exec i s = .next (after s { s with flags := f s.flags } s.ipNext) :=
  exec_of_plain_begin hrep hexec rfl rfl

/-- Settles O53: each is a flag instruction, and its one flag is the one that its function writes. -/
theorem flagInstructions : Obligations.FlagInstructions := by
  refine ⟨⟨rfl, rfl, rfl, rfl, rfl⟩, fun s hrep => ⟨?stc, ?clc, ?cmc, ?std, ?cld⟩⟩
  case stc => exact exec_of_flagInstr (fun f => { f with cf := true }) hrep ((exec.eq_def ..).trans rfl)
  case clc => exact exec_of_flagInstr (fun f => { f with cf := false }) hrep ((exec.eq_def ..).trans rfl)
  case cmc => exact exec_of_flagInstr (fun f => { f with cf := !f.cf }) hrep ((exec.eq_def ..).trans rfl)
  case std => exact exec_of_flagInstr (fun f => { f with df := true }) hrep ((exec.eq_def ..).trans rfl)
  case cld => exact exec_of_flagInstr (fun f => { f with df := false }) hrep ((exec.eq_def ..).trans rfl)

/-! STI, CLI and HLT, which need the I/O privilege (60_exceptions.md R462). -/

/-- `i` checks the I/O privilege, and past the check its meaning answers `u`. -/
def NeedsIo (i : Instr) (s u : State) : Prop :=
  ∃ g : State → State,
    exec i s = plain s (fun t => require t.trusted (.generalProtection 0) >>= fun _ => pure (g t)) ∧ g s.begin = u

section
variable {i : Instr} {s u : State}

theorem NeedsIo.completes (h : NeedsIo i s u) (hrep : NoRep s) (hio : s.msw.pe = false ∨ s.cpl ≤ s.flags.iopl) :
    exec i s = .next (s.completed u.advance) := by
  obtain ⟨g, hexec, rfl⟩ := h
  exact hexec.trans (plain_ok hrep (require_trusted_bind (s := s.begin) hio))

theorem NeedsIo.raises (h : NeedsIo i s u) (hrep : NoRep s) (hpe : s.msw.pe = true) (hcpl : s.flags.iopl < s.cpl) :
    Raises i s (.generalProtection 0) := by
  obtain ⟨g, hexec, -⟩ := h
  exact raises_of_plain hrep hexec (require_trusted_raises (s := s.begin) hpe hcpl)

theorem needsIo_cli (s : State) : NeedsIo .cli s { s.begin with flags := { s.flags with ifl := false } } :=
  ⟨_, (exec.eq_def ..).trans rfl, rfl⟩

theorem needsIo_sti (s : State) : NeedsIo .sti s
    { s.begin with flags := { s.flags with ifl := true }, shadow := if s.flags.ifl then .none else .sti } :=
  ⟨_, (exec.eq_def ..).trans rfl, rfl⟩

/-- STI with IF set changes nothing (46_processor_control.md R356). -/
theorem needsIo_sti_of_set (hif : s.flags.ifl = true) : NeedsIo .sti s s.begin := by
  have hflags : { s.flags with ifl := true } = s.flags := by rw [← hif]
  have h := needsIo_sti s
  rwa [hflags, if_pos hif] at h

theorem needsIo_sti_of_clear (hif : s.flags.ifl = false) :
    NeedsIo .sti s { s.begin with flags := { s.flags with ifl := true }, shadow := .sti } := by
  have h := needsIo_sti s
  rwa [if_neg (by simp [hif])] at h

/-- HLT's privilege is that of I/O, by `HLT_RULE` (46_processor_control.md R358; log 17). -/
theorem needsIo_hlt (s : State) : NeedsIo .hlt s { s.begin with halted := true } :=
  ⟨_, (exec.eq_def ..).trans rfl, rfl⟩

/-- A shadow holds the trap off (60_exceptions.md R452; log 25). -/
theorem completed_of_shadow (h : u.shadow ≠ .none) :
    s.completed u = { after s u u.ip with shadow := u.shadow, trapPending := false } := by
  simp [State.completed, after, h]

end

/-- Settles O54: past the privilege STI opens a shadow where IF was 0, and CLI and HLT leave none. -/
theorem interruptFlagAndHalt : Obligations.InterruptFlagAndHalt := by
  intro s hrep
  refine ⟨fun hio => ⟨?cli, fun hif => ?stiSet, fun hif => ?stiClear, ?hlt⟩, fun hpe hcpl =>
    ⟨(needsIo_cli s).raises hrep hpe hcpl, (needsIo_sti s).raises hrep hpe hcpl, (needsIo_hlt s).raises hrep hpe hcpl⟩⟩
  case cli => exact ((needsIo_cli s).completes hrep hio).trans (congrArg _ (completed_advance rfl rfl))
  case stiSet => exact ((needsIo_sti_of_set hif).completes hrep hio).trans (congrArg _ (completed_advance rfl rfl))
  case stiClear => exact ((needsIo_sti_of_clear hif).completes hrep hio).trans (congrArg _ (completed_of_shadow nofun))
  case hlt => exact ((needsIo_hlt s).completes hrep hio).trans (congrArg _ (completed_advance rfl rfl))

/-! WAIT (46_processor_control.md R359). -/

/-- What WAIT checks where it does not idle. -/
def waitCheck (s : State) : Res State := do
  require (!(s.msw.mp && s.msw.ts)) .noProcessorExtension
  require (!s.pins.error) .extensionError
  pure s

section
variable {s : State}

theorem exec_wait_idle (hrep : NoRep s) (hbusy : s.pins.busy = true) (h : s.msw.mp = false ∨ s.msw.ts = false) :
    exec .wait s = .next s.idle := by
  have hidles : (s.pins.busy && !(s.msw.mp && s.msw.ts) && s.pfx.rep.isNone) = true := by
    simp [hbusy, Bool.and_eq_false_iff.2 h, hrep]
  exact ((exec.eq_def ..).trans rfl).trans (if_pos hidles)

theorem exec_wait_check (h : s.pins.busy = false ∨ (s.msw.mp && s.msw.ts) = true) : exec .wait s = plain s waitCheck := by
  have hidles : ¬(s.pins.busy && !(s.msw.mp && s.msw.ts) && s.pfx.rep.isNone) = true := by
    rcases h with h | h <;> simp [h]
  exact ((exec.eq_def ..).trans rfl).trans (if_neg hidles)

theorem waitCheck_switched (h : (s.msw.mp && s.msw.ts) = true) : waitCheck s = raise .noProcessorExtension :=
  bind_raise (require_eq_raise.2 ⟨by simp [h], rfl⟩)

theorem waitCheck_of_not_switched (h : s.msw.mp = false ∨ s.msw.ts = false) :
    waitCheck s = require (!s.pins.error) .extensionError >>= fun _ => pure s :=
  require_bind (by simp [Bool.and_eq_false_iff.2 h])

theorem wait_switched (hrep : NoRep s) (h : (s.msw.mp && s.msw.ts) = true) : Raises .wait s .noProcessorExtension :=
  raises_of_plain hrep (exec_wait_check (.inr h)) (waitCheck_switched (s := s.begin) h)

theorem wait_completes (hrep : NoRep s) (h : s.msw.mp = false ∨ s.msw.ts = false) (hbusy : s.pins.busy = false)
    (herror : s.pins.error = false) : exec .wait s = .next (after s s s.ipNext) := by
  have hcheck : waitCheck s.begin = .ok s.begin :=
    (waitCheck_of_not_switched (s := s.begin) h).trans (require_bind (by simp [State.begin, herror]))
  exact exec_of_plain_begin hrep (exec_wait_check (.inl hbusy)) hcheck rfl

theorem wait_error (hrep : NoRep s) (h : s.msw.mp = false ∨ s.msw.ts = false) (hbusy : s.pins.busy = false)
    (herror : s.pins.error = true) : Raises .wait s .extensionError := by
  have hcheck : waitCheck s.begin = raise .extensionError := (waitCheck_of_not_switched (s := s.begin) h).trans
    (bind_raise (require_eq_raise.2 ⟨by simp [State.begin, herror], rfl⟩))
  exact raises_of_plain hrep (exec_wait_check (.inl hbusy)) hcheck

end

/-! ESC (46_processor_control.md R360). -/

section
variable {s : State} {e : Exc} {op : BitVec 6} {rm : RM16}

theorem escCheck_unavailable (h : s.msw.em = true ∨ s.msw.ts = true) : s.escCheck = raise .noProcessorExtension :=
  bind_raise (require_eq_raise.2 ⟨by simpa only [Bool.not_eq_false', Bool.or_eq_true] using h, rfl⟩)

theorem escCheck_of_clear (hem : s.msw.em = false) (hts : s.msw.ts = false) :
    s.escCheck = require (!s.pins.error) .extensionError :=
  require_bind (by simp [hem, hts])

theorem exec_esc_raises (hrep : NoRep s) (h : s.escCheck = raise e) : Raises (.esc op rm) s e := by
  have hexec : exec (.esc op rm) s = transfer s fun _ => raise e := by
    rw [exec.eq_def]
    simp only [execEsc, escInstr, h, raise]
  exact raises_of_transfer hrep hexec rfl

theorem exec_esc_refused (h : s.escCheck = .ok ()) : exec (.esc op rm) s = .refused .noProcessorExtension := by
  rw [exec.eq_def]
  simp only [execEsc, escInstr, h]

end

/-- Settles O55: WAIT idles or checks, and ESC goes by its check alone. -/
theorem waitEsc : Obligations.WaitEsc := by
  refine ⟨fun s hrep => ⟨fun hmp hts => ?switched, fun h =>
      ⟨wait_completes hrep h, fun hbusy => exec_wait_idle hrep hbusy h, wait_error hrep h⟩⟩,
    fun op rm s => ⟨fun hrep h => exec_esc_raises hrep (escCheck_unavailable h),
      fun h hpe hrep hroom => ?entry, fun hrep hem hts herror => ?error, fun hem hts herror => ?refused⟩⟩
  case switched => exact wait_switched hrep (Bool.and_eq_true_iff.2 ⟨hmp, hts⟩)
  case entry =>
    obtain ⟨hentry, -, -⟩ := exceptionsReal s.begin .noProcessorExtension hpe
    exact ⟨_, exec_esc_raises hrep (escCheck_unavailable h), hentry nofun hroom⟩
  case error =>
    exact exec_esc_raises hrep ((escCheck_of_clear hem hts).trans (require_eq_raise.2 ⟨by simp [herror], rfl⟩))
  case refused =>
    exact exec_esc_refused ((escCheck_of_clear hem hts).trans (by simp [require, herror]))

end Sys2Proof.Proofs

/-! PROOFS. What privilege protects (60_exceptions.md R462, R463): the registers that only level 0 writes, and the I/O ports. -/
namespace Sys2Proof.Proofs
open Sys2Proof Sys2Proof.Machine Sys2Proof.Claims

/-! The tests of mode and level (47_protected_mode.md R370). -/

section
variable {s : State} {α : Type} {g : Unit → Res α}

theorem needsProtected_raises (hpe : s.msw.pe = false) : (s.needsProtected >>= g) = raise .invalidOpcode :=
  bind_raise (require_eq_raise.2 ⟨hpe, rfl⟩)

theorem needsKernel_raises (hpe : s.msw.pe = true) (hcpl : s.cpl ≠ 0) :
    (s.needsKernel >>= g) = raise (.generalProtection 0) :=
  bind_raise (require_eq_raise.2 ⟨by simpa [State.privileged, hpe] using hcpl, rfl⟩)

end

/-- Settles O60: the test of the mode, or of the level, is the first that each of them makes, the mode before the level. -/
theorem privilegeAndMode : Obligations.PrivilegeAndMode := by
  refine fun s m rm r hrep => ⟨fun hpe hcpl => ?_, fun hpe => ?_⟩
  · have hmode {f : Unit → Res State} : (s.begin.needsProtected >>= f) = f () := needsProtected_bind hpe
    have hlevel {f : Unit → Res State} : (s.begin.needsKernel >>= f) = raise (.generalProtection 0) :=
      needsKernel_raises hpe hcpl
    simp only [List.forall_mem_cons, List.not_mem_nil, IsEmpty.forall_iff, implies_true, and_true]
    refine ⟨?lgdt, ?lidt, ?lldt, ?ltr, ?lmsw, ?cts⟩
    case lldt | ltr => exact raises_of_plain hrep ((exec.eq_def ..).trans rfl) (hmode.trans hlevel)
    all_goals exact raises_of_plain hrep ((exec.eq_def ..).trans rfl) hlevel
  · have hmode {f : Unit → Res State} : (s.begin.needsProtected >>= f) = raise .invalidOpcode :=
      needsProtected_raises hpe
    simp only [List.forall_mem_cons, List.not_mem_nil, IsEmpty.forall_iff, implies_true, and_true]
    and_intros
    all_goals exact raises_of_plain hrep ((exec.eq_def ..).trans rfl) hmode

/-! The record of port writes, kept by all but OUT and OUTS (20_memory.md R84). -/

/-- `m` has the record `v` in what it answers and in a state that it raises in. -/
abbrev PortsAre (v : List PortWrite) (m : Res State) : Prop := Meets (·.portTrace = v) (·.portTrace = v) m

section
variable {s t : State} {v : List PortWrite}

theorem pushAll_portTrace {code : Word} {ws : List Word} (h : s.pushAll code ws = .ok t) : t.portTrace = s.portTrace :=
  congrArg Environment.portTrace (environment_pushAll h)

theorem enterCode_portTrace (s : State) (sel : Word) (d : Desc) (off : Word) :
    (s.enterCode sel d off).portTrace = s.portTrace := by
  rw [enterCode_frame]

theorem switchStack_portTrace (s : State) (lvl : Level) (nsp nss : Word) (d : Desc) :
    (s.switchStack lvl nsp nss d).portTrace = s.portTrace := by
  rw [switchStack_frame]

theorem leaveTask_portTrace (s : State) (sel : Word) (d : Desc) (kind : SwitchKind) (returnIp : Word) :
    (s.leaveTask sel d kind returnIp).portTrace = s.portTrace :=
  congrArg Environment.portTrace (environment_leaveTask (s := s) rfl sel d kind returnIp)

variable (h : s.portTrace = v)
include h

/-! Operands, segment registers and the stack. -/

@[simp] theorem lwrite8_ports (r : SReg) (off : Word) (b : Byte) : PortsAre v (s.lwrite8 r off b) := by
  simp [State.lwrite8, h]

@[simp] theorem lwrite16_ports (r : SReg) (off w : Word) : PortsAre v (s.lwrite16 r off w) := by
  simp [State.lwrite16, h]

@[simp] theorem push_ports (code w : Word) : PortsAre v (s.push code w) := by
  simp [State.push, h]

@[simp] theorem writeRm8_ports (rm : RM8) (b : Byte) : PortsAre v (s.writeRm8 rm b) := by
  cases rm with
  | reg r => simp [State.writeRm8, h]
  | mem m => exact lwrite8_ports h ..

@[simp] theorem writeRm16_ports (rm : RM16) (w : Word) : PortsAre v (s.writeRm16 rm w) := by
  cases rm with
  | reg r => simp [State.writeRm16, h]
  | mem m => exact lwrite16_ports h ..

@[simp] theorem updRm8_ports (rm : RM8) (op : Byte → Byte × Flags) : PortsAre v (s.updRm8 rm op) := by
  simp [State.updRm8, h]

@[simp] theorem updRm16_ports (rm : RM16) (op : Word → Word × Flags) : PortsAre v (s.updRm16 rm op) := by
  simp [State.updRm16, h]

theorem updReg8_ports (r : Reg8) (rm : RM8) (op : Byte → Byte → Byte × Flags) : PortsAre v (s.updReg8 r rm op) := by
  simp [State.updReg8, h]

theorem updReg16_ports (r : Reg16) (rm : RM16) (op : Word → Word → Word × Flags) : PortsAre v (s.updReg16 r rm op) := by
  simp [State.updReg16, h]

theorem flagsRm8_ports (rm : RM8) (op : Byte → Byte × Flags) : PortsAre v (s.flagsRm8 rm op) := by
  simp [State.flagsRm8, h]

theorem flagsRm16_ports (rm : RM16) (op : Word → Word × Flags) : PortsAre v (s.flagsRm16 rm op) := by
  simp [State.flagsRm16, h]

theorem shiftRm8_ports (rm : RM8) (count : Byte) (op : Byte → Nat → Byte × Flags) :
    PortsAre v (s.shiftRm8 rm count op) := by
  simp [State.shiftRm8, h]

theorem shiftRm16_ports (rm : RM16) (count : Byte) (op : Word → Nat → Word × Flags) :
    PortsAre v (s.shiftRm16 rm count op) := by
  simp [State.shiftRm16, h]

theorem writeTable_ports (m : Mem) (g : TableReg) : PortsAre v (s.writeTable m g) := by
  simp [State.writeTable, h]

@[simp] theorem loadSeg_ports (r : SReg) (w : Word) : PortsAre v (s.loadSeg r w) := by
  simp [State.loadSeg, State.loadSs, State.loadDataSeg, h]

@[simp] theorem loadSegShadow_ports (r : SReg) (w : Word) : PortsAre v (s.loadSegShadow r w) := by
  simp only [State.loadSegShadow, meets_bind]
  refine (loadSeg_ports h r w).imp fun u (hu : u.portTrace = v) => ?_
  split <;> exact hu

theorem popSeg_ports (r : SReg) : PortsAre v (s.popSeg r) := by
  simp [State.popSeg, h]

@[simp] theorem copyDisplay_ports (k : Nat) : PortsAre v (s.copyDisplay k) := by
  induction k generalizing s with
  | zero => exact h
  | succ k ih =>
    simp only [State.copyDisplay, meets_bind, meets_lread16]
    exact fun w _ => (push_ports (s := { s with regs := { s.regs with bp := s.regs.bp - 2 } }) h 0 w).imp fun t ht => ih ht

@[simp] theorem enterFrame_ports (size : Word) (level : Nat) : PortsAre v (s.enterFrame size level) := by
  simp only [State.enterFrame, meets_bind]
  refine (push_ports h ..).imp fun t ht => meets_ite.2 ⟨fun _ => ht, fun _ => ?_⟩
  simp only [meets_bind]
  exact (copyDisplay_ports ht _).imp fun u hu => (push_ports hu ..).imp fun w hw => hw

/-! Near transfers. -/

@[simp] theorem jumpNear_ports (target : Word) : PortsAre v (s.jumpNear target) := by
  simp [State.jumpNear, h]

@[simp] theorem branch_ports (cond : Bool) (rel : Byte) : PortsAre v (s.branch cond rel) := by
  simp [State.branch, h]

@[simp] theorem callNear_ports (target : Word) : PortsAre v (s.callNear target) := by
  simp only [State.callNear, meets_bind, meets_require]
  exact fun _ => (push_ports h ..).imp fun t ht => jumpNear_ports ht _

theorem retNear_ports (imm : Word) : PortsAre v (s.retNear imm) := by
  simp [State.retNear, h]

/-! Task switches. -/

theorem switchLdt_ports (ext : Word) : PortsAre v (s.switchLdt ext) := by
  simp [State.switchLdt, h]

theorem switchCs_ports (ext : Word) : PortsAre v (s.switchCs ext) := by
  simp [State.switchCs, h]

theorem switchSs_ports (ext : Word) : PortsAre v (s.switchSs ext) := by
  simp [State.switchSs, h]

theorem switchData_ports (r : SReg) (ext : Word) : PortsAre v (s.switchData r ext) := by
  simp [State.switchData, h]

theorem enterTask_ports (ext : Word) : PortsAre v (s.enterTask ext) := by
  simp only [State.enterTask, meets_bind]
  refine (Meets.inContext h (switchLdt_ports h ext)).imp fun l hl => ?_
  have hcpl : ({ l with cpl := selRpl l.cs.sel } : State).portTrace = v := hl
  refine (Meets.inContext hcpl (switchCs_ports hcpl ext)).imp fun a ha => ?_
  refine (Meets.inContext ha (switchSs_ports ha ext)).imp fun b hb => ?_
  refine (Meets.inContext hb (switchData_ports hb .ds ext)).imp fun c hc => ?_
  refine (Meets.inContext hc (switchData_ports hc .es ext)).imp fun d hd => ?_
  exact Meets.inContext hd (meets_require.2 fun _ => hd)

@[simp] theorem taskSwitch_ports (sel : Word) (d : Desc) (kind : SwitchKind) (returnIp ext : Word) :
    PortsAre v (s.taskSwitch sel d kind returnIp ext) :=
  meets_bind.2 (meets_require.2 fun _ => enterTask_ports ((leaveTask_portTrace ..).trans h) ext)

/-! Far transfers. -/

theorem callInner_ports (g t : Desc) : PortsAre v (s.callInner g t) := by
  simp only [State.callInner, meets_bind, meets_pushAll, meets_stackWords, meets_roomFor, meets_innerSs, meets_innerStack,
    meets_pure, enterCode_portTrace]
  intros
  exact (pushAll_portTrace ‹_›).trans ((switchStack_portTrace ..).trans h)

theorem pushReturn_ports (call : Bool) : PortsAre v (pushReturn s call) := by
  cases call with
  | false => exact h
  | true => exact (meets_pushAll ..).2 fun _ ht => (pushAll_portTrace ht).trans h

theorem codeTransfer_ports (sel off : Word) (d : Desc) (call : Bool) : PortsAre v (s.codeTransfer sel off d call) := by
  simp only [codeTransfer_eq, meets_bind, meets_require, meets_pure, enterCode_portTrace]
  exact fun _ _ _ => pushReturn_ports h call

theorem gateTransfer_ports (sel : Word) (g : Desc) (call : Bool) : PortsAre v (s.gateTransfer sel g call) := by
  simp only [State.gateTransfer, meets_bind, meets_ite, meets_require, meets_fetchOr, meets_pure, enterCode_portTrace]
  intros
  exact ⟨fun _ => callInner_ports h .., fun _ _ => ⟨fun _ => pushReturn_ports h true, fun _ => h⟩⟩

theorem taskTransfer_ports (sel : Word) (d : Desc) (call : Bool) : PortsAre v (s.taskTransfer sel d call) := by
  simp [State.taskTransfer, h]

theorem farTransfer_ports (sel off : Word) (call : Bool) : PortsAre v (s.farTransfer sel off call) := by
  simp [State.farTransfer, codeTransfer_ports h, gateTransfer_ports h, taskTransfer_ports h]

@[simp] theorem farJump_ports (sel off : Word) : PortsAre v (s.farJump sel off) := by
  simp [State.farJump, farTransfer_ports h, h]

@[simp] theorem farCall_ports (sel off : Word) : PortsAre v (s.farCall sel off) := by
  simp only [State.farCall, meets_ite, farTransfer_ports h, implies_true, true_and, meets_bind]
  exact fun _ => (pushReturn_ports h true).imp fun _ ht => ht

theorem returnSame_ports (rsel off size : Word) : PortsAre v (s.returnSame rsel off size) := by
  simp [State.returnSame, enterCode_portTrace, h]

theorem returnOuter_ports (rsel off n release : Word) : PortsAre v (s.returnOuter rsel off n release) := by
  simp [State.returnOuter, enterCode_portTrace, switchStack_portTrace, h]

@[simp] theorem farReturn_ports (imm : Word) : PortsAre v (s.farReturn imm) := by
  simp [State.farReturn, returnSame_ports h, returnOuter_ports h, h]

/-! Entries and returns. -/

theorem enterReal_ports (n : Byte) (returnIp : Word) : PortsAre v (s.enterReal n returnIp) := by
  simp only [State.enterReal, meets_bind, meets_require, meets_pushAll]
  exact fun _ t ht => (pushAll_portTrace ht).trans h

theorem enterSame_ports (g t : Desc) (returnIp : Word) (ec : Option Word) (ext : Word) :
    PortsAre v (s.enterSame g t returnIp ec ext) := by
  simp only [State.enterSame, meets_bind, meets_require, meets_pushAll, meets_pure, enterCode_portTrace]
  exact fun _ ht _ => (pushAll_portTrace ht).trans h

theorem enterInner_ports (g t : Desc) (returnIp : Word) (ec : Option Word) (ext : Word) :
    PortsAre v (s.enterInner g t returnIp ec ext) := by
  simp only [State.enterInner, meets_bind, meets_require, meets_pushAll, meets_innerSs, meets_innerStack, meets_pure,
    enterCode_portTrace]
  exact fun _ _ _ _ _ ht _ => (pushAll_portTrace ht).trans ((switchStack_portTrace ..).trans h)

theorem enterTaskGate_ports (g : Desc) (returnIp : Word) (ec : Option Word) (ext : Word) :
    PortsAre v (s.enterTaskGate g returnIp ec ext) := by
  simp only [State.enterTaskGate, meets_bind, meets_tssDesc]
  exact fun _ _ => (taskSwitch_ports h ..).imp fun t ht =>
    Meets.inContext ht ((meets_pushAll ..).2 fun _ hu => (pushAll_portTrace hu).trans ht)

@[simp] theorem interrupt_ports (n : Byte) (soft : Bool) (returnIp : Word) (ec : Option Word) :
    PortsAre v (s.interrupt n soft returnIp ec) := by
  simp only [interrupt_eq, meets_bind, meets_ite, meets_pure, interrupted_portTrace]
  refine ⟨fun _ => ?_, fun _ => enterReal_ports h ..⟩
  simp [State.enterProtected, enterTaskGate_ports h, enterInner_ports h, enterSame_ports h]

theorem returnTask_ports : PortsAre v s.returnTask := by
  simp [State.returnTask, returnSame_ports h, returnOuter_ports h]

@[simp] theorem interruptReturn_ports : PortsAre v s.interruptReturn := by
  simp [State.interruptReturn, State.returnReal, State.returnLinked, returnTask_ports h, h]

omit h in
/-- So does taking an exception, whose context has the record too. -/
theorem deliver_portTrace {r : Raise} (hr : (r.context.getD s).portTrace = v) : (s.deliver r).portTrace = v :=
  deliver_keeps (·.portTrace = v) (fun _ _ _ hs he => (interrupt_ports hs ..).answered he)
    (fun _ _ _ hs he => (interrupt_ports hs ..).raisedIn hs he) (fun _ hs => hs) hr

end

/-! What an instruction ends in. -/

/-- `t` has the port writes of `s`, and one more at most, where the I/O privilege of `s` allows it (60_exceptions.md R462). -/
def PortsFrom (s t : State) : Prop :=
  t.portTrace = s.portTrace ∨ s.trusted = true ∧ ∃ w, t.portTrace = s.portTrace ++ [w]

/-- The next state, if there is one, has the port writes of `s` and one more at most, where the privilege allows it. -/
def EndsPorts (s : State) (o : Host.Outcome State Fault Refusal) : Prop := ∀ t, o = .next t → PortsFrom s t

section
variable {s t : State} {f : State → Res State} {o o' : Host.Outcome State Fault Refusal}

theorem PortsFrom.of_eq (h : t.portTrace = s.portTrace) : PortsFrom s t := .inl h

/-- One write, past the test of the privilege. -/
theorem portsFrom_portOut (h : s.trusted = true) (p : Word) (n : Nat) (w : Word) : PortsFrom s (s.portOut p n w) :=
  .inr ⟨h, _, rfl⟩

theorem endsPorts_next (h : PortsFrom s t) : EndsPorts s (.next t) := by
  rintro _ ⟨⟩
  exact h

theorem endsPorts_refused {r : Refusal} : EndsPorts s (.refused r) := fun _ h => nomatch h

theorem EndsPorts.ite {c : Prop} [Decidable c] (ho : EndsPorts s o) (ho' : EndsPorts s o') :
    EndsPorts s (if c then o else o') := by
  split <;> assumption

theorem transfer_portsFrom (hf : Meets (·.portTrace = s.portTrace) (PortsFrom s) (f s.begin)) :
    EndsPorts s (transfer s f) := by
  intro t ht
  obtain ⟨-, hsettle⟩ := transfer_next.1 ht
  rcases settle_next.1 hsettle with ⟨u, hu, rfl⟩ | ⟨r, hr, rfl⟩
  · have hports : PortsFrom s u := hf.answered hu
    exact hports
  · exact .inl (deliver_portTrace (hf.raisedIn (begin_portTrace s) hr))

theorem plain_portsFrom (hf : Meets (·.portTrace = s.portTrace) (PortsFrom s) (f s.begin)) : EndsPorts s (plain s f) :=
  transfer_portsFrom (meets_bind.2 (hf.imp fun _ hu => hu))

theorem transfer_ports (hf : ∀ u : State, u.portTrace = s.portTrace → PortsAre s.portTrace (f u)) :
    EndsPorts s (transfer s f) :=
  transfer_portsFrom ((hf s.begin rfl).imp fun _ => .of_eq)

theorem plain_ports (hf : ∀ u : State, u.portTrace = s.portTrace → PortsAre s.portTrace (f u)) : EndsPorts s (plain s f) :=
  plain_portsFrom ((hf s.begin rfl).imp fun _ => .of_eq)

/-- OUT tests the privilege before it writes (40_data_transfer.md R171). -/
theorem outPort_ports (p : Word) (n : Nat) (w : Word) :
    Meets (·.portTrace = s.portTrace) (PortsFrom s) (s.begin.outPort p n w) :=
  meets_bind.2 (meets_require.2 fun htrusted => portsFrom_portOut htrusted ..)

/-- OUTS alone writes a port, once an element, and tests the privilege before (43_string.md R277). -/
theorem element_ports (op : StringOp) : Meets (·.portTrace = s.portTrace) (PortsFrom s) (element op s.begin) := by
  cases op with
  | outsb | outsw =>
    simp only [element, State.outsByte, State.outsWord, State.outsCheck, meets_bind, meets_require, meets_check,
      meets_lread8, meets_lread16, meets_pure]
    exact fun htrusted _ _ _ _ => .inr ⟨htrusted, _, rfl⟩
  | movsb | movsw | cmpsb | cmpsw | scasb | scasw | lodsb | lodsw | stosb | stosw | insb | insw =>
    refine Meets.imp (Q := (·.portTrace = s.portTrace)) ?_ fun _ => .of_eq
    simp [element, State.movsByte, State.movsWord, State.cmpsByte, State.cmpsWord, State.scasByte, State.scasWord,
      State.lodsByte, State.lodsWord, State.stosByte, State.stosWord, State.insByte, State.insWord, State.insCheck,
      State.lwrite8, State.lwrite16]

theorem stringInstr_ports (op : StringOp) : EndsPorts s (stringInstr s op (element op)) := by
  unfold stringInstr
  split
  · exact plain_portsFrom (element_ports op)
  next p _ =>
    have hturn : Meets (·.portTrace = s.portTrace) (PortsFrom s) (repeatTurn s op p (element op)) :=
      meets_ite.2 ⟨fun _ => .inl rfl, fun _ => meets_bind.2 ((element_ports op).imp fun u hu => meets_pure.2
        (iteInduction (motive := PortsFrom s) (fun _ => hu) fun _ => hu))⟩
    refine EndsPorts.ite endsPorts_refused ?_
    split
    next t ht => exact endsPorts_next (hturn.answered ht)
    next r hr => exact endsPorts_next (.inl (deliver_portTrace (hturn.raisedIn rfl hr)))

theorem flagInstr_ports (f : Flags → Flags) : EndsPorts s (flagInstr s f) :=
  plain_ports fun _ hu => meets_pure.2 hu

theorem escInstr_ports : EndsPorts s (escInstr s) := by
  have hquiet : Quiet s.escCheck := by simp [Quiet, State.escCheck]
  unfold escInstr
  split
  · exact endsPorts_refused
  next r hr => exact transfer_ports fun u _ c hc => absurd hc (by rw [hr] at hquiet; exact hquiet c)

end

/-- Only OUT and OUTS write a port, and each writes one where the privilege allows it. -/
theorem exec_ports (i : Instr) (s : State) : EndsPorts s (exec i s) := by
  unfold exec
  cases i with
  | insb | outsb | movsb | movsw | cmpsb | cmpsw | stosb | stosw | lodsb | lodsw | scasb | scasw =>
    exact stringInstr_ports _
  | insw | outsw =>
    exact EndsPorts.ite endsPorts_refused (stringInstr_ports _)
  | outImm8Al | outImm8Ax | outDxAl =>
    exact plain_portsFrom (outPort_ports ..)
  | outDxAx =>
    exact EndsPorts.ite endsPorts_refused (plain_portsFrom (outPort_ports ..))
  | segEs | segCs | segSs | segDs | repne | rep =>
    exact EndsPorts.ite endsPorts_refused (endsPorts_next (.inl rfl))
  | lock =>
    exact EndsPorts.ite endsPorts_refused (EndsPorts.ite (endsPorts_next (.inl rfl))
      (endsPorts_next (.inl (deliver_portTrace rfl))))
  | esc =>
    exact escInstr_ports
  | wait =>
    exact EndsPorts.ite (endsPorts_next (.inl rfl)) (plain_ports fun u hu => by simp [hu])
  | addRm8R8 | addAlImm8 | orRm8R8 | orAlImm8 | adcRm8R8 | adcAlImm8 | sbbRm8R8 | sbbAlImm8 | andRm8R8 | andAlImm8
  | subRm8R8 | subAlImm8 | xorRm8R8 | xorAlImm8 | addRm8Imm8 | orRm8Imm8 | adcRm8Imm8 | sbbRm8Imm8 | andRm8Imm8
  | subRm8Imm8 | xorRm8Imm8 | addRm8Imm8Dup | orRm8Imm8Dup | adcRm8Imm8Dup | sbbRm8Imm8Dup | andRm8Imm8Dup
  | subRm8Imm8Dup | xorRm8Imm8Dup | notRm8 | negRm8 | incRm8 | decRm8 =>
    exact plain_ports fun u hu => updRm8_ports hu ..
  | addRm16R16 | addAxImm16 | orRm16R16 | orAxImm16 | adcRm16R16 | adcAxImm16 | sbbRm16R16 | sbbAxImm16 | andRm16R16
  | andAxImm16 | subRm16R16 | subAxImm16 | xorRm16R16 | xorAxImm16 | incR16 | decR16 | addRm16Imm16 | orRm16Imm16
  | adcRm16Imm16 | sbbRm16Imm16 | andRm16Imm16 | subRm16Imm16 | xorRm16Imm16 | addRm16Imm8 | orRm16Imm8 | adcRm16Imm8
  | sbbRm16Imm8 | andRm16Imm8 | subRm16Imm8 | xorRm16Imm8 | notRm16 | negRm16 | incRm16 | decRm16 =>
    exact plain_ports fun u hu => updRm16_ports hu ..
  | addR8Rm8 | orR8Rm8 | adcR8Rm8 | sbbR8Rm8 | andR8Rm8 | subR8Rm8 | xorR8Rm8 =>
    exact plain_ports fun u hu => updReg8_ports hu ..
  | addR16Rm16 | orR16Rm16 | adcR16Rm16 | sbbR16Rm16 | andR16Rm16 | subR16Rm16 | xorR16Rm16 =>
    exact plain_ports fun u hu => updReg16_ports hu ..
  | cmpRm8R8 | cmpR8Rm8 | cmpAlImm8 | cmpRm8Imm8 | cmpRm8Imm8Dup | testRm8R8 | testAlImm8 | testRm8Imm8 =>
    exact plain_ports fun u hu => flagsRm8_ports hu ..
  | cmpRm16R16 | cmpR16Rm16 | cmpAxImm16 | cmpRm16Imm16 | cmpRm16Imm8 | testRm16R16 | testAxImm16 | testRm16Imm16 =>
    exact plain_ports fun u hu => flagsRm16_ports hu ..
  | rolRm8Imm8 | rorRm8Imm8 | rclRm8Imm8 | rcrRm8Imm8 | shlRm8Imm8 | shrRm8Imm8 | sarRm8Imm8 | rolRm8One | rorRm8One
  | rclRm8One | rcrRm8One | shlRm8One | shrRm8One | sarRm8One | rolRm8Cl | rorRm8Cl | rclRm8Cl | rcrRm8Cl | shlRm8Cl
  | shrRm8Cl | sarRm8Cl =>
    exact plain_ports fun u hu => shiftRm8_ports hu ..
  | rolRm16Imm8 | rorRm16Imm8 | rclRm16Imm8 | rcrRm16Imm8 | shlRm16Imm8 | shrRm16Imm8 | sarRm16Imm8 | rolRm16One
  | rorRm16One | rclRm16One | rcrRm16One | shlRm16One | shrRm16One | sarRm16One | rolRm16Cl | rorRm16Cl | rclRm16Cl
  | rcrRm16Cl | shlRm16Cl | shrRm16Cl | sarRm16Cl =>
    exact plain_ports fun u hu => shiftRm16_ports hu ..
  | movRm8R8 | movRm8Imm8 =>
    exact plain_ports fun u hu => writeRm8_ports hu ..
  | movRm16R16 | movRm16Sreg | movRm16Imm16 | smsw =>
    exact plain_ports fun u hu => writeRm16_ports hu ..
  | movMoffsAl =>
    exact plain_ports fun u hu => lwrite8_ports hu ..
  | movMoffsAx =>
    exact plain_ports fun u hu => lwrite16_ports hu ..
  | pushR16 | pushImm16 | pushImm8 | pushEs | pushCs | pushSs | pushDs | pushf =>
    exact plain_ports fun u hu => push_ports hu ..
  | enter =>
    exact plain_ports fun u hu => enterFrame_ports hu ..
  | sgdt | sidt =>
    exact plain_ports fun u hu => writeTable_ports hu ..
  | popEs | popSs | popDs =>
    exact plain_ports fun u hu => popSeg_ports hu ..
  | movR8Rm8 | movR16Rm16 | movAlMoffs | movAxMoffs | movR8Imm8 | movR16Imm16 | lea | xchgAxR16 | xlat | cbw | cwd | nop
  | bound | lahf | xchgRm8R8 | xchgRm16R16 | lds | les | movSregRm16 =>
    exact plain_ports fun u hu => by simp [hu]
  | aaa | aas | daa | das | aad | sahf =>
    exact plain_ports fun u hu => hu
  | cmc | clc | stc | cld | std =>
    exact flagInstr_ports _
  | aam | cli | sti | hlt =>
    exact plain_ports fun u hu => meets_bind.2 (meets_require.2 fun _ => hu)
  | mulRm8 | imulRm8 =>
    exact plain_ports fun u hu => meets_bind.2 ((meets_readRm8 ..).2 fun _ _ => hu)
  | mulRm16 | imulRm16 =>
    exact plain_ports fun u hu => meets_bind.2 ((meets_readRm16 ..).2 fun _ _ => hu)
  | imulR16Rm16Imm16 | imulR16Rm16Imm8 =>
    exact plain_ports fun u hu => by simp [State.imulInto, hu]
  | divRm8 | idivRm8 | divRm16 | idivRm16 =>
    exact plain_ports fun u hu => by simp [State.divByte, State.idivByte, State.divWord, State.idivWord, hu]
  | pushRm16 =>
    exact plain_ports fun u hu => meets_bind.2 ((meets_readRm16 ..).2 fun _ _ => push_ports hu ..)
  | pusha =>
    exact EndsPorts.ite endsPorts_refused
      (plain_ports fun u hu => (meets_pushAll ..).2 fun _ ht => (pushAll_portTrace ht).trans hu)
  | popR16 | popRm16 | popf | leave | popa =>
    exact plain_ports fun u hu => by simp [State.pop, State.popAllRegs, hu]
  | inAlImm8 | inAxImm8 | inAlDx =>
    exact plain_ports fun u hu => by simp [State.inByte, State.inWord, hu]
  | inAxDx =>
    exact EndsPorts.ite endsPorts_refused (plain_ports fun u hu => by simp [State.inWord, hu])
  | lgdt | lidt | lldt | lmsw | ltr | sldt | str | cts | arpl | verr | verw =>
    exact plain_ports fun u hu => by simp [State.needsProtected, State.needsKernel, State.loadLdt, State.loadTr, hu]
  | lar | lsl =>
    exact plain_ports fun u hu => by
      simp only [State.needsProtected, meets_bind, meets_require, meets_readRm16]
      intro _ sel _
      split <;> simp [hu]
  | jo | jno | jb | jnb | je | jne | jbe | jnbe | js | jns | jp | jnp | jl | jnl | jle | jnle | jcxz =>
    exact transfer_ports fun u hu => branch_ports hu ..
  | loopnz | loopz | loop =>
    exact transfer_ports fun u hu => branch_ports (s := u.countCx) hu ..
  | jmpRel16 | jmpRel8 =>
    exact transfer_ports fun u hu => jumpNear_ports hu ..
  | callRel16 =>
    exact transfer_ports fun u hu => callNear_ports hu ..
  | retImm16 | ret =>
    exact transfer_ports fun u hu => retNear_ports hu ..
  | jmpRm16 | callRm16 | callM16_16 | jmpM16_16 =>
    exact transfer_ports fun u hu => by simp [hu]
  | callPtr =>
    exact transfer_ports fun u hu => farCall_ports hu ..
  | jmpPtr =>
    exact transfer_ports fun u hu => farJump_ports hu ..
  | retfImm16 | retf =>
    exact transfer_ports fun u hu => farReturn_ports hu ..
  | intImm8 | int3 =>
    exact transfer_ports fun u hu => interrupt_ports hu ..
  | into =>
    exact transfer_ports fun u hu => meets_ite.2 ⟨fun _ => interrupt_ports hu .., fun _ => hu⟩
  | iret =>
    exact transfer_ports fun u hu => interruptReturn_ports hu

/-! A step (60_exceptions.md R462, R463). -/

section
variable {s t : State}

theorem takeEvent_portTrace (s : State) (n : Byte) : (s.takeEvent n).portTrace = s.portTrace := by
  have hports : PortsAre s.portTrace (s.interrupt n false s.ip none) := interrupt_ports rfl ..
  unfold State.takeEvent
  split
  next t ht => exact hports.answered ht
  next r hr => exact deliver_portTrace (hports.raisedIn rfl hr)

/-- What the boundary before the next instruction does: an event taken, or nothing. -/
theorem boundary_cases (h : s.boundary = some t) :
    t = s ∨ t = s.takeNmi ∨ t = s.takeTrap ∨ t = s.takeOverrun ∨ ∃ n, t = s.takeIntr n := by
  unfold State.boundary at h
  split at h
  · cases h
  split at h
  · split at h <;> cases h
    exacts [.inr (.inl rfl), .inl rfl]
  split at h
  · exact .inr (.inr (.inl (Option.some.inj h).symm))
  split at h
  · exact .inr (.inl (Option.some.inj h).symm)
  split at h
  · exact .inr (.inr (.inr (.inl (Option.some.inj h).symm)))
  split at h
  next n _ => exact .inr (.inr (.inr (.inr ⟨n, (Option.some.inj h).symm⟩)))
  · split at h <;> cases h
    exact .inl rfl

theorem boundary_portTrace (h : s.boundary = some t) : t.portTrace = s.portTrace := by
  rcases boundary_cases h with rfl | rfl | rfl | rfl | ⟨n, rfl⟩
  · rfl
  · exact takeEvent_portTrace { s with nmiPending := false, nmiInService := true } 2
  · exact takeEvent_portTrace { s with trapPending := false } 1
  · exact takeEvent_portTrace { s with pins := { s.pins with overrun := false } } 9
  · exact takeEvent_portTrace { s with pins := { s.pins with intr := none } } n

theorem step_ports (h : step s = .next t) : PortsFrom s t := by
  rcases step_cases h with ⟨-, rfl⟩ |
    ⟨-, ⟨u, hu, rfl⟩ | ⟨op, u, hu, rfl⟩ | ⟨i, rest, u, -, hu, rfl⟩ | ⟨e, rfl⟩⟩
  · exact .inl rfl
  · have hports : u.portTrace = s.portTrace := boundary_portTrace hu
    exact .inl hports
  · have hports : PortsFrom s u := exec_ports op.instr s u hu
    exact hports
  · have hports : PortsFrom s u := exec_ports i (fetched s _) u hu
    exact hports
  · exact .inl (deliver_portTrace rfl)

theorem portsNeedPrivilege : PortsNeedPrivilege := by
  intro s t h hne
  rcases step_ports h with hsame | ⟨htrusted, hwrite⟩
  · exact absurd hsame hne
  · exact ⟨trusted_iff.1 htrusted, hwrite⟩

theorem writesSystem_instr (op : StringOp) : writesSystem op.instr = false := by
  cases op <;> rfl

theorem plain_ends_of_raise {f : State → Res State} {e : Exc} (hf : f s.begin = raise e) : EndsKept s (plain s f) := by
  intro t ht
  obtain ⟨-, ⟨u, hu, -⟩ | ⟨r, hr, rfl⟩⟩ := plain_next.1 ht
  · cases hf.symm.trans hu
  · cases hf.symm.trans hr
    exact deliver_systemKept (SystemKept.refl s)

/-- Outside level 0 the four instructions that write the system registers raise instead. -/
theorem exec_ends_outside (i : Instr) (hpe : s.msw.pe = true) (hcpl : s.cpl ≠ 0) : EndsKept s (exec i s) := by
  have hlevel {f : Unit → Res State} : (s.begin.needsKernel >>= f) = raise (.generalProtection 0) :=
    needsKernel_raises hpe hcpl
  cases hi : writesSystem i with
  | false => exact exec_ends i s hi
  | true =>
    unfold exec
    cases i with
    | lgdt | lidt | lmsw | cts => exact plain_ends_of_raise hlevel
    | _ => cases hi

theorem privilegedState : PrivilegedState := by
  intro s t h hreset hpe hcpl
  have hkept : SystemKept s t := by
    rcases step_cases h with ⟨hyes, -⟩ |
      ⟨-, ⟨u, hu, rfl⟩ | ⟨op, u, hu, rfl⟩ | ⟨i, rest, u, -, hu, rfl⟩ | ⟨e, rfl⟩⟩
    · rw [hreset] at hyes
      cases hyes
    · have hu : SystemKept s u := boundary_systemKept hu
      exact hu
    · have hu : SystemKept s u := exec_ends op.instr s (writesSystem_instr op) u hu
      exact hu
    · have hu : SystemKept s u := exec_ends_outside (s := fetched s _) i hpe hcpl u hu
      exact hu
    · have hu : SystemKept s (s.deliver (bare e)) := deliver_systemKept (SystemKept.refl s)
      exact hu
  obtain ⟨hgdtr, hidtr, hpe, hmp, hem, hts⟩ := hkept
  exact ⟨hgdtr, hidtr, hpe, hmp, hem, hts⟩

end

/-- Settles O9: outside level 0 what writes the system registers raises, and only OUT and OUTS write a port, past their test. -/
theorem privilegeHolds : Obligations.PrivilegeHolds := ⟨privilegedState, portsNeedPrivilege⟩

end Sys2Proof.Proofs

/-! PROOFS. What an instruction boundary does, by priority (60_exceptions.md R422, R436, R438, R451 to R453). -/
namespace Sys2Proof.Proofs
open Sys2Proof Sys2Proof.Machine Sys2Proof.Claims

section
variable {s t : State}

theorem step_of_boundary (hreset : s.pins.reset = false) (h : s.boundary = some t) : step s = .next (s.finish t) := by
  simp [step_eq_concluded, State.turn, hreset, h, concluded]

/-- No event comes between a prefix and its opcode (60_exceptions.md R422). -/
theorem boundary_after_prefix (hcount : s.pfx.count ≠ 0) (hagain : s.again = none) : s.boundary = none :=
  if_pos ⟨hcount, hagain⟩

/-- An event may come here: before the first prefix byte, or between two elements of a repeated string instruction. -/
def AtBoundary (s : State) : Prop := s.pfx.count = 0 ∨ s.again ≠ none

/-- What holds an NMI off (60_exceptions.md R452, R453). -/
theorem nmiTakeable_eq_false (h : s.nmiPending = false ∨ s.nmiInService = true ∨ s.shadow = .ss) :
    s.nmiTakeable = false := by
  rcases h with h | h | h <;> simp [State.nmiTakeable, h]

theorem nmiTakeable_eq_true (hpending : s.nmiPending = true) (hservice : s.nmiInService = false) (hshadow : s.shadow ≠ .ss) :
    s.nmiTakeable = true := by
  simp [State.nmiTakeable, hpending, hservice, hshadow]

/-- What holds a maskable interrupt off (60_exceptions.md R451, R452). -/
theorem intrTakeable_eq_none (h : s.pins.intr = none ∨ s.flags.ifl = false ∨ s.shadow ≠ .none) : s.intrTakeable = none := by
  rcases h with h | h | h <;> simp [State.intrTakeable, h]

theorem intrTakeable_eq_some {n : Byte} (hrequest : s.pins.intr = some n) (hif : s.flags.ifl = true)
    (hshadow : s.shadow = .none) : s.intrTakeable = some n := by
  simp [State.intrTakeable, hrequest, hif, hshadow]

section
variable (hat : AtBoundary s)
include hat

/-- The events by priority, where one may come. -/
theorem boundary_eq : s.boundary =
    if s.shutdown then some (if s.nmiTakeable then s.takeNmi else s)
    else if s.trapPending then some s.takeTrap
    else if s.nmiTakeable then some s.takeNmi
    else if s.pins.overrun && !s.halted then some s.takeOverrun
    else
      match s.intrTakeable with
      | some n => some (s.takeIntr n)
      | none => if s.halted then some s else none :=
  if_neg fun ⟨hcount, hagain⟩ => hat.elim hcount fun h => h hagain

theorem boundary_shutdown (hshutdown : s.shutdown = true) (hnmi : s.nmiTakeable = false) : s.boundary = some s := by
  simp [boundary_eq hat, hshutdown, hnmi]

theorem boundary_trap (hshutdown : s.shutdown = false) (htrap : s.trapPending = true) : s.boundary = some s.takeTrap := by
  simp [boundary_eq hat, hshutdown, htrap]

/-- In shutdown an NMI is looked at first, and else after the trap (60_exceptions.md R436, R438). -/
theorem boundary_nmi (hnmi : s.nmiTakeable = true) (h : s.shutdown = true ∨ s.trapPending = false) :
    s.boundary = some s.takeNmi := by
  rw [boundary_eq hat]
  cases hshutdown : s.shutdown with
  | true => simp [hnmi]
  | false => simp [hnmi, h.resolve_left (by simp [hshutdown])]

/-- With no shutdown, no trap and no NMI the requests decide. -/
theorem boundary_request (hshutdown : s.shutdown = false) (htrap : s.trapPending = false) (hnmi : s.nmiTakeable = false) :
    s.boundary =
      if s.pins.overrun && !s.halted then some s.takeOverrun
      else
        match s.intrTakeable with
        | some n => some (s.takeIntr n)
        | none => if s.halted then some s else none := by
  simp [boundary_eq hat, hshutdown, htrap, hnmi]

end

end

/-- Settles O11, by the branches of the boundary from the highest priority down. -/
theorem eventPriority : Obligations.EventPriority := by
  intro s hreset hat
  refine ⟨fun hshutdown htrap => step_of_boundary hreset (boundary_trap hat hshutdown htrap),
    fun hpending hservice hshadow h =>
      step_of_boundary hreset (boundary_nmi hat (nmiTakeable_eq_true hpending hservice hshadow) h),
    fun hshutdown htrap hnmi => ?_,
    fun hshutdown hnmi => step_of_boundary hreset (boundary_shutdown hat hshutdown (nmiTakeable_eq_false hnmi)),
    fun s' => boundary_after_prefix⟩
  have hrequest := boundary_request hat hshutdown htrap (nmiTakeable_eq_false hnmi)
  refine ⟨fun hoverrun hhalted => step_of_boundary hreset (hrequest.trans (if_pos (by simp [hoverrun, hhalted]))),
    fun hno => ?_⟩
  have hno_overrun : ¬(s.pins.overrun && !s.halted) = true := by rcases hno with h | h <;> simp [h]
  rw [if_neg hno_overrun] at hrequest
  refine ⟨fun n hn hif hshadow => step_of_boundary hreset ?_, fun hno_intr => ?_⟩
  · rw [hrequest, intrTakeable_eq_some hn hif hshadow]
  · rw [intrTakeable_eq_none hno_intr] at hrequest
    exact ⟨fun hhalted => step_of_boundary hreset (hrequest.trans (if_pos hhalted)),
      fun hhalted => hrequest.trans (if_neg (by simp [hhalted]))⟩

end Sys2Proof.Proofs

/-! PROOFS. Bytes stored one after another (20_memory.md R85). -/
namespace Sys2Proof.Proofs
open Sys2Proof Sys2Proof.Machine Sys2Proof.Claims

section
variable {s : State} {a : Nat} {bs : List Byte} {p : Nat}

theorem physAddr_add_ne (pe : Bool) (a : Nat) {j k : Nat} (hjk : j ≠ k) (hj : j < 2 ^ 24) (hk : k < 2 ^ 24) :
    physAddr pe (a + j) ≠ physAddr pe (a + k) := by
  simp only [physAddr_eq]
  omega

theorem storeBytes_frame (s : State) (a : Nat) (bs : List Byte) :
    s.storeBytes a bs = { s with mem := (s.storeBytes a bs).mem } := by
  induction bs generalizing s a with
  | nil => rfl
  | cons b bs ih => exact ih (s.write8 a b) (a + 1)

theorem storeBytes_physByte_ne (h : ∀ k, k < bs.length → p ≠ physAddr s.msw.pe (a + k)) :
    (s.storeBytes a bs).physByte p = s.physByte p := by
  induction bs generalizing s a with
  | nil => rfl
  | cons b bs ih =>
    have hrest : ∀ k, k < bs.length → p ≠ physAddr s.msw.pe (a + 1 + k) := fun k hk => by
      rw [Nat.add_assoc, Nat.add_comm 1]
      exact h (k + 1) (Nat.succ_lt_succ hk)
    exact (ih (s := s.write8 a b) hrest).trans (write8_physByte_ne s a b (h 0 (Nat.succ_pos _)))

/-- Fewer bytes than memory has do not come round to the first of them. -/
theorem storeBytes_physByte (hlen : bs.length ≤ 2 ^ 24) {k : Nat} (hk : k < bs.length) :
    (s.storeBytes a bs).physByte (physAddr s.msw.pe (a + k)) = bs[k] := by
  induction bs generalizing s a k with
  | nil => exact absurd hk k.not_lt_zero
  | cons b bs ih =>
    cases k with
    | zero =>
      have hkept := storeBytes_physByte_ne (s := s.write8 a b) (a := a + 1) (bs := bs) (p := physAddr s.msw.pe a)
        fun j hj => by
          rw [Nat.add_assoc, Nat.add_comm 1]
          exact physAddr_add_ne _ a (j := 0) (Nat.succ_ne_zero j).symm (by norm_num)
            ((Nat.succ_lt_succ hj).trans_le hlen)
      exact hkept.trans (write8_physByte_same s a b)
    | succ k =>
      rw [show a + (k + 1) = a + 1 + k by omega]
      exact ih (s := s.write8 a b) (Nat.le_of_succ_le hlen) (Nat.lt_of_succ_lt_succ hk)

end

end Sys2Proof.Proofs

/-! PROOFS. Statements of 47_protected_mode.md: the table registers (R371, R372, R376, R377), MSW, LDTR and TR (R373 to R375,
R378 to R380, R392). -/
namespace Sys2Proof.Proofs
open Sys2Proof Sys2Proof.Machine Sys2Proof.Claims

/-! The table registers (47_protected_mode.md R371, R372, R376, R377). -/

section
variable {s : State} {m : Mem} {e : Exc} {g : TableReg}

/-- The table register that the six bytes of a memory operand give. -/
def tableAt (s : State) (m : Mem) : TableReg where
  limit := wordAt s (s.segOf m) (s.ea m).toNat
  base := byteAt s (s.segOf m) ((s.ea m).toNat + 4) ++ byteAt s (s.segOf m) ((s.ea m).toNat + 3) ++
    byteAt s (s.segOf m) ((s.ea m).toNat + 2)

theorem readTable_of_fits (h : Fits s (s.segOf m) (s.ea m).toNat 6 false) : s.readTable m = .ok (tableAt s m) := by
  refine (ok_bind (check_ok_iff_fits.2 h)).trans (congrArg Except.ok ?_)
  rw [tableAt, BitVec.append_assoc]
  rfl

theorem readTable_eq_raise :
    s.readTable m = raise e ↔ ¬Fits s (s.segOf m) (s.ea m).toNat 6 false ∧ AccessExc s (s.segOf m) false e := by
  simp only [State.readTable, bind_eq_raise, check_eq_raise]
  exact or_iff_left fun ⟨_, _, h⟩ => nomatch h

/-- The six bytes that SGDT and SIDT store, the last of them free (log 8). -/
def tableBytesOf (s : State) (g : TableReg) : List Byte :=
  [loByte g.limit, hiByte g.limit, g.base.extractLsb' 0 8, g.base.extractLsb' 8 8, g.base.extractLsb' 16 8,
    Config.freeByte s.clock]

theorem loByte_extract (b : Base24) : loByte (b.extractLsb' 0 16) = b.extractLsb' 0 8 := by
  refine BitVec.eq_of_getLsbD_eq fun i hi => ?_
  simp [loByte, hi]

theorem hiByte_extract (b : Base24) : hiByte (b.extractLsb' 0 16) = b.extractLsb' 8 8 := by
  refine BitVec.eq_of_getLsbD_eq fun i hi => ?_
  simp [hiByte, hi]

theorem writeTable_of_fits (h : Fits s (s.segOf m) (s.ea m).toNat 6 true) (g : TableReg) :
    s.writeTable m g = .ok (s.storeBytes (s.linear (s.segOf m) (s.ea m).toNat) (tableBytesOf s g)) := by
  rw [tableBytesOf, ← loByte_extract, ← hiByte_extract]
  exact ok_bind (check_ok_iff_fits.2 h)

theorem cell_add (s : State) (r : SReg) (off k : Nat) : cell s r (off + k) = physAddr s.msw.pe (s.linear r off + k) :=
  congrArg (physAddr s.msw.pe) (Nat.add_assoc ..).symm

theorem writeTable_stores (h : Fits s (s.segOf m) (s.ea m).toNat 6 true) (g : TableReg) :
    ∃ u, s.writeTable m g = .ok u ∧ u = { s with mem := u.mem } ∧
      (∀ k (hk : k < 6), u.physByte (cell s (s.segOf m) ((s.ea m).toNat + k)) = (tableBytesOf s g)[k]'hk) ∧
      ∀ p, (∀ k, k < 6 → p ≠ cell s (s.segOf m) ((s.ea m).toNat + k)) → u.physByte p = s.physByte p := by
  simp only [cell_add]
  have hlen : (tableBytesOf s g).length ≤ 2 ^ 24 := Nat.le_of_ble_eq_true rfl
  exact ⟨_, writeTable_of_fits h g, storeBytes_frame .., fun k hk => storeBytes_physByte hlen hk,
    fun p hp => storeBytes_physByte_ne hp⟩

theorem writeTable_eq_raise :
    s.writeTable m g = raise e ↔ ¬Fits s (s.segOf m) (s.ea m).toNat 6 true ∧ AccessExc s (s.segOf m) true e := by
  simp only [State.writeTable, bind_eq_raise, check_eq_raise]
  exact or_iff_left fun ⟨_, _, h⟩ => nomatch h

/-- SGDT and SIDT by the register that they store. -/
theorem exec_storesTable {i : Instr} (h : (i = .sgdt m ∧ g = s.gdtr) ∨ (i = .sidt m ∧ g = s.idtr)) :
    ∃ f, exec i s = plain s f ∧ f s.begin = s.begin.writeTable m g := by
  rcases h with ⟨rfl, rfl⟩ | ⟨rfl, rfl⟩ <;> exact ⟨_, (exec.eq_def ..).trans rfl, rfl⟩

end

theorem tableRegisters : TableRegisters := by
  rintro s m _ _ hrep rfl rfl
  refine ⟨fun hkernel hfits => ?_, fun hkernel hfits e he => ?_, fun i g hi => ?_⟩
  · have hlevel {f : Unit → Res State} : (s.begin.needsKernel >>= f) = f () := needsKernel_bind (s := s.begin) hkernel
    have hread : s.begin.readTable m = .ok (tableAt s m) := readTable_of_fits (s := s.begin) hfits
    exact ⟨exec_of_plain_begin hrep ((exec.eq_def ..).trans rfl) (hlevel.trans (ok_bind hread)) rfl,
      exec_of_plain_begin hrep ((exec.eq_def ..).trans rfl) (hlevel.trans (ok_bind hread)) rfl⟩
  · have hlevel {f : Unit → Res State} : (s.begin.needsKernel >>= f) = f () := needsKernel_bind (s := s.begin) hkernel
    have hread : s.begin.readTable m = raise e := readTable_eq_raise.2 ⟨hfits, he⟩
    exact ⟨raises_of_plain hrep ((exec.eq_def ..).trans rfl) (hlevel.trans (bind_raise hread)),
      raises_of_plain hrep ((exec.eq_def ..).trans rfl) (hlevel.trans (bind_raise hread))⟩
  · obtain ⟨f, hexec, hf⟩ := exec_storesTable hi
    refine ⟨fun hfits => ?_, fun hfits e he => raises_of_plain hrep hexec (hf.trans (writeTable_eq_raise.2 ⟨hfits, he⟩))⟩
    obtain ⟨u, hu, hframe, hbyte, hrest⟩ := writeTable_stores (s := s.begin) hfits g
    rw [hframe] at hu
    have hmem : MemSame u (after s { s with mem := u.mem } s.ipNext) := memSame_of_mem rfl
    exact ⟨_, exec_of_plain hrep hexec (hf.trans hu) rfl rfl, rfl, (hmem _).trans (hbyte 0 (by decide)),
      (hmem _).trans (hbyte 1 (by decide)), (hmem _).trans (hbyte 2 (by decide)), (hmem _).trans (hbyte 3 (by decide)),
      (hmem _).trans (hbyte 4 (by decide)), fun p hp => (hmem p).trans (hrest p hp)⟩

/-! MSW and the selectors of LDTR and TR (47_protected_mode.md R374, R378 to R380, R392). -/

theorem mswWord_bits (s : State) : s.mswWord.getLsbD 0 = s.msw.pe ∧ s.mswWord.getLsbD 1 = s.msw.mp ∧
    s.mswWord.getLsbD 2 = s.msw.em ∧ s.mswWord.getLsbD 3 = s.msw.ts := by
  simp only [State.mswWord, BitVec.getLsbD_append, BitVec.getLsbD_ofBool]
  simp

theorem statusWordAndSelectors : StatusWordAndSelectors := by
  intro s rm hrep
  have hlevel (hkernel : Kernel s) {f : Unit → Res State} : (s.begin.needsKernel >>= f) = f () :=
    needsKernel_bind (s := s.begin) hkernel
  refine ⟨fun hkernel hread => ?_, fun hkernel => ?_, fun hw => ⟨s.mswWord, ?_⟩, fun hpe hw => ?_⟩
  · have hcpl : (if s.msw.pe then s.cpl else 0) = 0 := by
      rcases hkernel with h | h <;> simp [h]
    rw [← hcpl]
    exact exec_of_plain_begin hrep ((exec.eq_def ..).trans rfl)
      ((hlevel hkernel).trans (ok_bind (readRm16_of_readable (s := s.begin) hread))) rfl
  · exact exec_of_plain_begin hrep ((exec.eq_def ..).trans rfl) (hlevel hkernel) rfl
  · obtain ⟨hpe, hmp, hem, hts⟩ := mswWord_bits s
    exact ⟨hpe, hmp, hem, hts, replaces16_of_write hrep ((exec.eq_def ..).trans rfl) rfl hw⟩
  · have hmode {f : Unit → Res State} : (s.begin.needsProtected >>= f) = f () := needsProtected_bind hpe
    exact ⟨replaces16_of_write hrep ((exec.eq_def ..).trans rfl) hmode hw,
      replaces16_of_write hrep ((exec.eq_def ..).trans rfl) hmode hw⟩

/-- Settles O57: each instruction is opened once, and what SGDT and SIDT store is what `storeBytes` leaves in memory. -/
theorem systemRegisters : Obligations.SystemRegisters := ⟨tableRegisters, statusWordAndSelectors⟩

/-! LLDT and LTR (47_protected_mode.md R373, R375). -/

section
variable {s : State} {sel : Word} {d : Desc}

theorem arControl_iff {ar : Byte} {type : BitVec 4} :
    arControl ar type = true ↔ ar.getLsbD 4 = false ∧ ar.extractLsb' 0 4 = type := by
  simp only [arControl, Bool.and_eq_true, Bool.not_eq_true', decide_eq_true_eq]

/-- The access byte of a descriptor is the one in its table. -/
theorem fetchDesc_ar (h : s.fetchDesc sel = some d) : d.ar = s.read8 (d.addr + 5) := by
  obtain ⟨-, -, hfound⟩ := descriptorFetch s sel
  obtain ⟨-, -, -, har⟩ := hfound d h
  exact har

theorem loadLdt_null (h : sel.toNat < 4) : s.loadLdt sel = .ok { s with ldtr := { s.ldtr with sel := sel, valid := false } } :=
  if_pos (selNull_iff.2 h)

variable {type : BitVec 4} {bad absent : Exc}

theorem tssDesc_outside (hle : 4 ≤ sel.toNat) (h : sel.getLsbD 2 = true ∨ s.fetchDesc sel = none) :
    s.tssDesc sel type bad absent = raise bad := by
  refine (require_not_null hle).trans ?_
  cases hlocal : selLocal sel with
  | true => exact bind_raise (require_eq_raise.2 ⟨rfl, rfl⟩)
  | false =>
    have hd : s.fetchDesc sel = none := h.resolve_left (Bool.eq_false_iff.1 hlocal)
    exact (require_bind rfl).trans (bind_raise (fetchOr_raises hd))

theorem tssDesc_of_fetchDesc (hle : 4 ≤ sel.toNat) (hlocal : sel.getLsbD 2 = false) (hd : s.fetchDesc sel = some d) :
    s.tssDesc sel type bad absent =
      require (arControl d.ar type) bad >>= fun _ => require (arPresent d.ar) absent >>= fun _ => pure d :=
  (require_not_null hle).trans ((require_bind (congrArg Bool.not hlocal)).trans (ok_bind (fetchOr_ok.2 hd)))

theorem tssDesc_other (hle : 4 ≤ sel.toNat) (hlocal : sel.getLsbD 2 = false) (hd : s.fetchDesc sel = some d)
    (htype : arControl d.ar type = false) : s.tssDesc sel type bad absent = raise bad :=
  (tssDesc_of_fetchDesc hle hlocal hd).trans (bind_raise (require_eq_raise.2 ⟨htype, rfl⟩))

theorem tssDesc_absent (hle : 4 ≤ sel.toNat) (hlocal : sel.getLsbD 2 = false) (hd : s.fetchDesc sel = some d)
    (htype : arControl d.ar type = true) (hp : arPresent d.ar = false) : s.tssDesc sel type bad absent = raise absent :=
  (tssDesc_of_fetchDesc hle hlocal hd).trans ((require_bind htype).trans (bind_raise (require_eq_raise.2 ⟨hp, rfl⟩)))

theorem tssDesc_found (hle : 4 ≤ sel.toNat) (hlocal : sel.getLsbD 2 = false) (hd : s.fetchDesc sel = some d)
    (htype : arControl d.ar type = true) (hp : arPresent d.ar = true) : s.tssDesc sel type bad absent = .ok d :=
  tssDesc_ok.2 ⟨selNull_of_le hle, hlocal, hd, htype, hp⟩

/-- The checks of LLDT and LTR are those of `tssDesc`, with the type of their segment. -/
def systemCheck (s : State) (sel : Word) (type : BitVec 4) : Res Desc :=
  s.tssDesc sel type (.generalProtection (selCode sel)) (.notPresent (selCode sel))

theorem loadLdt_eq (h : 4 ≤ sel.toNat) :
    s.loadLdt sel = systemCheck s sel 2 >>= fun d => pure { s with ldtr := d.toSys sel } := by
  rw [State.loadLdt, if_neg (by simp [selNull_of_le h]), systemCheck, State.tssDesc, require_not_null h]
  simp only [bind_assoc, pure_bind]

theorem loadTr_eq (h : 4 ≤ sel.toNat) :
    s.loadTr sel = systemCheck s sel 1 >>= fun d => pure { s.markBusy d with tr := d.toSys sel } := by
  rw [State.loadTr, require_not_null h, systemCheck, State.tssDesc, require_not_null h]
  simp only [bind_assoc, pure_bind]

end

section
variable {s : State} {rm : RM16}

/-- At level 0 LLDT and LTR load the selector that their operand holds. -/
theorem exec_lldt (hpe : s.msw.pe = true) (hcpl : s.cpl = 0) (hread : Readable16 s rm) :
    ∃ f, exec (.lldt rm) s = plain s f ∧ f s.begin = s.begin.loadLdt (value16 s rm) :=
  ⟨_, (exec.eq_def ..).trans rfl, (needsProtected_bind (s := s.begin) hpe).trans
    ((needsKernel_bind (s := s.begin) (.inr hcpl)).trans (ok_bind (readRm16_of_readable (s := s.begin) hread)))⟩

theorem exec_ltr (hpe : s.msw.pe = true) (hcpl : s.cpl = 0) (hread : Readable16 s rm) :
    ∃ f, exec (.ltr rm) s = plain s f ∧ f s.begin = s.begin.loadTr (value16 s rm) :=
  ⟨_, (exec.eq_def ..).trans rfl, (needsProtected_bind (s := s.begin) hpe).trans
    ((needsKernel_bind (s := s.begin) (.inr hcpl)).trans (ok_bind (readRm16_of_readable (s := s.begin) hread)))⟩

end

/-- Settles O58: both instructions are the one check of a system descriptor, `systemCheck`, with what they load after it. -/
theorem loadLdtAndTask : Obligations.LoadLdtAndTask := by
  rintro s rm _ hrep hpe hcpl hread rfl
  obtain ⟨f, hlldt, hf⟩ := exec_lldt hpe hcpl hread
  obtain ⟨g, hltr, hg⟩ := exec_ltr hpe hcpl hread
  refine ⟨fun hnull => ⟨exec_of_plain_begin hrep hlldt (hf.trans (loadLdt_null (s := s.begin) hnull)) rfl,
    raises_of_plain hrep hltr (hg.trans (require_null hnull))⟩, fun hle => ?_, fun d hle => ?_⟩
  all_goals
    replace hf := hf.trans (loadLdt_eq hle)
    replace hg := hg.trans (loadTr_eq hle)
    have hraises_lldt {e : Exc} (h : systemCheck s.begin (value16 s rm) 2 = raise e) : Raises (.lldt rm) s e :=
      raises_of_plain hrep hlldt (hf.trans (bind_raise h))
    have hraises_ltr {e : Exc} (h : systemCheck s.begin (value16 s rm) 1 = raise e) : Raises (.ltr rm) s e :=
      raises_of_plain hrep hltr (hg.trans (bind_raise h))
  · exact fun hout => ⟨hraises_lldt (tssDesc_outside (s := s.begin) hle hout),
      hraises_ltr (tssDesc_outside (s := s.begin) hle hout)⟩
  · intro hlocal hd
    simp only [← arControl_iff, Bool.not_eq_true]
    refine ⟨fun htype => ⟨fun hp => ?_, fun hp => hraises_lldt (tssDesc_absent (s := s.begin) hle hlocal hd htype hp)⟩,
      fun htype => hraises_lldt (tssDesc_other (s := s.begin) hle hlocal hd htype),
      fun htype => ⟨fun hp => ?_, fun hp => hraises_ltr (tssDesc_absent (s := s.begin) hle hlocal hd htype hp)⟩,
      fun htype => hraises_ltr (tssDesc_other (s := s.begin) hle hlocal hd htype)⟩
    · exact exec_of_plain_begin hrep hlldt (hf.trans (ok_bind (tssDesc_found (s := s.begin) hle hlocal hd htype hp))) rfl
    · replace hg := hg.trans (ok_bind (tssDesc_found (s := s.begin) hle hlocal hd htype hp))
      have hbusy (p : Nat) : (s.markBusy d).physByte p =
          if p = physAddr true (d.addr + 5) then d.ar ||| 2 else s.physByte p := by
        rw [fetchDesc_ar hd, ← hpe]
        exact write8_physByte ..
      refine ⟨_, exec_of_plain hrep hltr hg rfl rfl, rfl, ?_, fun p hp => ?_⟩
      · exact (hbusy _).trans (if_pos rfl)
      · exact (hbusy p).trans (if_neg hp)

end Sys2Proof.Proofs

/-! PROOFS. Statements of 47_protected_mode.md: LAR, LSL, VERR, VERW, ARPL and BOUND (R391, R393 to R398). -/
namespace Sys2Proof.Proofs
open Sys2Proof Sys2Proof.Machine Sys2Proof.Claims

/-! What LAR, LSL, VERR and VERW see (47_protected_mode.md R394 to R398). -/

section
variable {s : State} {sel : Word} {d : Desc} {use : Probe} {types : List (BitVec 4)} {segment : Byte → Bool}

/-- The type test of a use accepts the segments that `segment` says and the control descriptors of `types`. -/
def Accepts (use : Probe) (types : List (BitVec 4)) (segment : Byte → Bool) : Prop :=
  ∀ ar, probeType use ar = true ↔
    (ar.getLsbD 4 = true ∧ segment ar = true) ∨ (ar.getLsbD 4 = false ∧ ar.extractLsb' 0 4 ∈ types)

/-- A use whose test is a segment or a control type accepts these. -/
theorem accepts_of_types (h : ∀ ar, probeType use ar = (arSegment ar || decide ((ar.extractLsb' 0 4 : BitVec 4) ∈ types))) :
    Accepts use types fun _ => true := by
  intro ar
  rw [h, Bool.or_eq_true, decide_eq_true_eq, arSegment]
  cases ar.getLsbD 4 <;> simp

theorem accepts_lar : Accepts .lar [1, 2, 3, 4, 5] fun _ => true := by
  have htypes : ∀ c : BitVec 4, (decide (1 ≤ c.toNat) && decide (c.toNat ≤ 5)) = decide (c ∈ [1, 2, 3, 4, 5]) := by decide
  exact accepts_of_types fun ar => congrArg (arSegment ar || ·) (htypes _)

theorem accepts_lsl : Accepts .lsl [1, 2, 3] fun _ => true := by
  have htypes : ∀ c : BitVec 4, (decide (1 ≤ c.toNat) && decide (c.toNat ≤ 3)) = decide (c ∈ [1, 2, 3]) := by decide
  exact accepts_of_types fun ar => congrArg (arSegment ar || ·) (htypes _)

/-- A use whose test holds of segments only accepts the segments of which it holds. -/
theorem accepts_of_segment (h : ∀ ar, probeType use ar = segment ar) (hseg : ∀ ar, segment ar = true → ar.getLsbD 4 = true) :
    Accepts use [] segment := by
  intro ar
  rw [h]
  exact ⟨fun hs => .inl ⟨hseg ar hs, hs⟩, fun hs => hs.elim And.right fun ⟨_, hmem⟩ => nomatch hmem⟩

theorem accepts_verr : Accepts .verr [] arReadable := by
  refine accepts_of_segment (fun _ => rfl) fun ar h => ?_
  simp only [arReadable, arData, arCode, Bool.or_eq_true, Bool.and_eq_true] at h
  exact h.elim And.left fun ⟨⟨hseg, _⟩, _⟩ => hseg

theorem accepts_verw : Accepts .verw [] arWritable := by
  refine accepts_of_segment (fun _ => rfl) fun ar h => ?_
  simp only [arWritable, arData, Bool.and_eq_true] at h
  obtain ⟨⟨hseg, -⟩, -⟩ := h
  exact hseg

theorem visible_eq_some_iff (huse : Accepts use types segment) :
    s.visible sel use = some d ↔ Sees s sel d types (segment d.ar) := by
  rw [Sees, ← huse d.ar, ← lvlMax_le, State.visible]
  by_cases hnull : sel.toNat < 4
  · rw [if_pos (selNull_iff.2 hnull)]
    simp [Nat.not_le.2 hnull]
  · rw [if_neg (mt selNull_iff.1 hnull)]
    cases hfound : s.fetchDesc sel with
    | none => simp
    | some c =>
      simp only [Option.ite_none_right_eq_some, Option.some.injEq, Bool.and_eq_true, Bool.or_eq_true, decide_eq_true_eq]
      constructor
      · rintro ⟨⟨htype, hlevel⟩, rfl⟩
        exact ⟨Nat.le_of_not_lt hnull, rfl, htype, hlevel⟩
      · rintro ⟨-, rfl, htype, hlevel⟩
        exact ⟨⟨htype, hlevel⟩, rfl⟩

theorem visible_eq_none_iff (huse : Accepts use types segment) :
    s.visible sel use = none ↔ ∀ d, ¬Sees s sel d types (segment d.ar) := by
  rw [Option.eq_none_iff_forall_ne_some]
  exact forall_congr' fun d => not_congr (visible_eq_some_iff huse)

theorem visible_isSome_iff (huse : Accepts use types segment) :
    (s.visible sel use).isSome = true ↔ ∃ d, Sees s sel d types (segment d.ar) :=
  Option.isSome_iff_exists.trans (exists_congr fun _ => visible_eq_some_iff huse)

end

/-! Instructions that write ZF and perhaps an operand (47_protected_mode.md R391, R394 to R397). -/

section
variable {i : Instr} {s : State} {f : State → Res State} {rm : RM16}

/-- An instruction whose meaning is ZF alone. -/
theorem exec_of_setZf {z : Bool} (hrep : NoRep s) (hexec : exec i s = plain s f) (hf : f s.begin = pure (s.begin.setZf z)) :
    exec i s = .next (after s { s with flags := { s.flags with zf := z } } s.ipNext) :=
  exec_of_plain_begin (u := { s with flags := { s.flags with zf := z } }) hrep hexec hf rfl

/-- An instruction whose meaning is the write of a word operand and ZF. -/
theorem replaces16_of_setZf {v : Word} {z : Bool} (hrep : NoRep s) (hexec : exec i s = plain s f)
    (hf : f s.begin = s.begin.writeRm16 rm v >>= fun t => pure (t.setZf z)) (h : Writable16 s rm) :
    Replaces16 i s rm v (· = { s.flags with zf := z }) := by
  obtain ⟨u, hu, hdata, hflags, hput⟩ := writeRm16_of_writable (s := s.begin) h v
  obtain ⟨hnext, hended⟩ := ended_of_plain hrep hexec (hf.trans (ok_bind hu)) (hdata.with_flags _)
  have hzf : (u.setZf z).flags = { s.flags with zf := z } := congrArg (fun g : Flags => { g with zf := z }) hflags
  have hkept : ControlKept s.flags (u.setZf z).flags := hzf ▸ controlKept_refl s.flags
  exact ⟨_, hnext, hended, by cases rm <;> exact hput, hzf, hkept⟩

/-- What LAR and LSL do with the descriptor that they may see: `word` of it goes to a register. -/
def probeInto (s : State) (r : Reg16) (word : Desc → Word) : Option Desc → Res State
  | some d => pure ((s.setReg16 r (word d)).setZf true)
  | none => pure (s.setZf false)

variable {use : Probe} {word : Desc → Word} {types : List (BitVec 4)} {r : Reg16}

theorem probeInto_outcome (hrep : NoRep s) (hexec : exec i s = plain s f) (huse : Accepts use types fun _ => true)
    (hf : f s.begin = probeInto s.begin r word (s.begin.visible (value16 s rm) use)) :
    (∀ d, Sees s (value16 s rm) d types true → Replaces16 i s (.reg r) (word d) (· = { s.flags with zf := true })) ∧
      ((∀ d, ¬Sees s (value16 s rm) d types true) →
        exec i s = .next (after s { s with flags := { s.flags with zf := false } } s.ipNext)) := by
  refine ⟨fun d hsees => ?_, fun hnone => ?_⟩
  · have hd : s.begin.visible (value16 s rm) use = some d := (visible_eq_some_iff (s := s.begin) huse).2 hsees
    exact replaces16_of_setZf hrep hexec (hf.trans (by rw [hd]; rfl)) trivial
  · have hd : s.begin.visible (value16 s rm) use = none := (visible_eq_none_iff (s := s.begin) huse).2 hnone
    exact exec_of_setZf hrep hexec (hf.trans (by rw [hd]; rfl))

/-- VERR and VERW: ZF says whether the selector names what they may see. -/
theorem verifies_outcome {segment : Byte → Bool} (hrep : NoRep s) (hexec : exec i s = plain s f) (huse : Accepts use [] segment)
    (hf : f s.begin = pure (s.begin.setZf (s.begin.visible (value16 s rm) use).isSome)) :
    ∃ z, exec i s = .next (after s { s with flags := { s.flags with zf := z } } s.ipNext) ∧
      (z = true ↔ ∃ d, Sees s (value16 s rm) d [] (segment d.ar)) :=
  ⟨_, exec_of_setZf hrep hexec hf, visible_isSome_iff (s := s.begin) huse⟩

end

theorem descriptorProbes : DescriptorProbes := by
  rintro s r rm _ hrep hpe hread rfl
  have hsel {f : Word → Res State} :
      (s.begin.needsProtected >>= fun _ => s.begin.readRm16 rm >>= f) = f (value16 s rm) :=
    (needsProtected_bind (s := s.begin) hpe).trans (ok_bind (readRm16_of_readable (s := s.begin) hread))
  obtain ⟨hlar, hnolar⟩ := probeInto_outcome (i := .lar r rm) (word := fun d => wordOf 0 d.ar) (r := r) hrep
    ((exec.eq_def ..).trans rfl) accepts_lar (hsel.trans (by cases s.begin.visible (value16 s rm) .lar <;> rfl))
  obtain ⟨hlsl, hnolsl⟩ := probeInto_outcome (i := .lsl r rm) (word := Desc.limit) (r := r) hrep
    ((exec.eq_def ..).trans rfl) accepts_lsl (hsel.trans (by cases s.begin.visible (value16 s rm) .lsl <;> rfl))
  exact ⟨hlar, hnolar, hlsl, hnolsl, verifies_outcome hrep ((exec.eq_def ..).trans rfl) accepts_verr hsel,
    verifies_outcome hrep ((exec.eq_def ..).trans rfl) accepts_verw hsel⟩

/-! ARPL and BOUND (47_protected_mode.md R391, R393). -/

section
variable {s : State} {rm : RM16} {r : Reg16}

theorem selRpl_setWidth (sel : Word) : (selRpl sel).setWidth 16 = sel &&& 3 := by
  refine BitVec.eq_of_getLsbD_eq fun i hi => ?_
  have hthree : (3 : Word).getLsbD i = decide (i < 2) := by
    revert i
    decide
  rw [BitVec.getLsbD_and, hthree]
  simp [selRpl, hi, Bool.and_comm]

theorem exec_arpl (hpe : s.msw.pe = true) (h : Writable16 s rm) :
    ∃ f, exec (.arpl rm r) s = plain s f ∧ f s.begin =
      if selRpl (value16 s rm) < selRpl (s.reg16 r) then
        s.begin.writeRm16 rm (withRpl (value16 s rm) (selRpl (s.reg16 r))) >>= fun t => pure (t.setZf true)
      else pure (s.begin.setZf false) :=
  ⟨_, (exec.eq_def ..).trans rfl, (needsProtected_bind (s := s.begin) hpe).trans
    ((ok_bind (readRm16_of_readable (s := s.begin) (readable16_of_writable16 h))).trans
      (ok_bind (checkRm16_of_writable (s := s.begin) h)))⟩

end

theorem arplBound : ArplBound := by
  refine ⟨fun s rm r hrep hpe hw => ?_, ?_⟩
  · obtain ⟨f, hexec, hf⟩ := exec_arpl (r := r) hpe hw
    refine ⟨fun hlt => ?_, fun hle => exec_of_setZf hrep hexec (hf.trans (if_neg (BitVec.not_lt.2 hle)))⟩
    rw [← selRpl_setWidth, ← withRpl_eq]
    exact replaces16_of_setZf hrep hexec (hf.trans (if_pos hlt)) hw
  · rintro s r m _ _ hrep hfits rfl rfl
    have hread {f : Word × Word → Res State} : (s.begin.readPointer m >>= f) =
        f (wordAt s (s.segOf m) (s.ea m).toNat, wordAt s (s.segOf m) ((s.ea m).toNat + 2)) :=
      ok_bind (readPointer_of_fits (s := s.begin) hfits)
    refine ⟨fun hin => ?_, fun hout => ?_⟩
    · exact exec_of_plain_begin hrep ((exec.eq_def ..).trans rfl)
        (hread.trans (require_bind (by rw [Bool.and_eq_true, decide_eq_true_eq, decide_eq_true_eq]; exact hin))) rfl
    · have hfails : ¬((wordAt s (s.segOf m) (s.ea m).toNat).toInt ≤ (s.reg16 r).toInt ∧
          (s.reg16 r).toInt ≤ (wordAt s (s.segOf m) ((s.ea m).toNat + 2)).toInt) := by omega
      exact raises_of_plain hrep ((exec.eq_def ..).trans rfl) (hread.trans (bind_raise (require_eq_raise.2
        ⟨by rw [Bool.eq_false_iff, Ne, Bool.and_eq_true, decide_eq_true_eq, decide_eq_true_eq]; exact hfails, rfl⟩)))

/-- Settles O59: the visibility test is `Sees` for each use, each probe is a write of ZF and of the register where it holds, and
ARPL and BOUND are decided by the comparison that the model makes. -/
theorem pointerChecks : Obligations.PointerChecks := ⟨descriptorProbes, arplBound⟩

end Sys2Proof.Proofs

/-! PROOFS. Statements of 60_exceptions.md about the entry of an event in Protected Mode through an interrupt or trap gate (R440,
R441, R443 to R445). -/
namespace Sys2Proof.Proofs
open Sys2Proof Sys2Proof.Machine Sys2Proof.Claims

/-! Frames pushed with an error code of their own, and the code segment entered after them. -/

section
variable {s t : State} {code : Word} {ws : List Word}

theorem pushAll_of_not_typeOk (hpe : s.msw.pe = true) (htype : ¬TypeOk s .ss true) (hws : ws ≠ []) :
    s.pushAll code ws = raise (.generalProtection code) := by
  obtain ⟨w, ws, rfl⟩ := List.exists_cons_of_ne_nil hws
  rw [pushAll_cons]
  exact bind_raise (bind_raise (check_of_not_typeOk hpe htype))

theorem push_raisesOnly_stackFault (hpe : s.msw.pe = true) (htype : TypeOk s .ss true) (w : Word) :
    RaisesOnly (.stackFault code) (s.push code w) := by
  refine RaisesOnly.bind ?_ fun _ _ => raisesOnly_ok
  rw [check_of_typeOk hpe htype]
  cases insideLimit (s.seg .ss) (s.regs.sp - 2).toNat 2
  · exact raisesOnly_raise
  · exact raisesOnly_ok

theorem pushAll_raisesOnly_stackFault (hpe : s.msw.pe = true) (htype : TypeOk s .ss true) :
    RaisesOnly (.stackFault code) (s.pushAll code ws) := by
  induction ws generalizing s with
  | nil => exact raisesOnly_ok
  | cons w ws ih =>
    rw [pushAll_cons]
    refine (push_raisesOnly_stackFault hpe htype w).bind fun u hu => ?_
    rw [push_frame hu]
    exact ih hpe htype

theorem pushAll_no_room (hpe : s.msw.pe = true) (htype : TypeOk s .ss true) (h : ¬StackRoom s.ss s.regs.sp ws.length) :
    s.pushAll code ws = raise (.stackFault code) :=
  (pushAll_raisesOnly_stackFault hpe htype).eq_raise fun _ ht =>
    h ((pushesFit_iff_stackRoom hpe htype).1 fun _ hk => fits_of_pushAll ht hk)

theorem pushAll_of_room (hpe : s.msw.pe = true) (htype : TypeOk s .ss true) (h : StackRoom s.ss s.regs.sp ws.length) :
    ∃ t, s.pushAll code ws = .ok t :=
  pushAll_of_fits ((pushesFit_iff_stackRoom hpe htype).2 h)

end

/-- The handler entered after its frame is pushed: the target of the gate `g` in the segment `c`, at the level `lvl`. -/
def enterHandler (s : State) (g c : Desc) (lvl : Level) (ext : Word) (u : State) : Res State := do
  require (decide (g.gateOffset.toNat ≤ c.limit.toNat)) (.generalProtection ext)
  pure { u.enterCode (withRpl g.gateSel lvl) c g.gateOffset with flags := entryFlags s.flags (arControl g.ar 6) true }

/-- The words of an entry on a stack of their own. -/
def innerFrame (s : State) (returnIp : Word) (ec : Option Word) : List Word :=
  [s.ss.sel, s.regs.sp] ++ frameWords s returnIp ec

/-- The entry at an inner level, on the stack `nss:nsp` of the segment `d`. -/
def enterOn (s : State) (g c : Desc) (ret : Word) (ec : Option Word) (ext nsp nss : Word) (d : Desc) : Res State :=
  (s.switchStack (arDpl c.ar) nsp nss d).pushAll ext (innerFrame s ret ec) >>= enterHandler s g c (arDpl c.ar) ext

/-- The entry to the checked target `c` of an interrupt or trap gate. -/
def enterTarget (s : State) (g : Desc) (ret : Word) (ec : Option Word) (ext : Word) (c : Desc) : Res State :=
  if !arConforming c.ar && decide (arDpl c.ar < s.cpl) then s.enterInner g c ret ec ext else s.enterSame g c ret ec ext

section
variable {s u : State} {g c d : Desc} {lvl : Level} {n : Byte} {soft : Bool} {ret ext nsp nss : Word} {ec : Option Word} {e : Exc}

theorem frameWords_length : (frameWords s ret ec).length = 3 + ec.toList.length := by cases ec <;> rfl

theorem innerFrame_length : (innerFrame s ret ec).length = 5 + ec.toList.length := by cases ec <;> rfl

theorem frameWords_short : (frameWords s ret ec).length ≤ 0x8000 := by cases ec <;> simp [frameWords]

theorem innerFrame_short : (innerFrame s ret ec).length ≤ 0x8000 := by cases ec <;> simp [innerFrame, frameWords]

theorem entryFlags_handler (f : Flags) (clearIf : Bool) :
    entryFlags f clearIf true = { f with tf := false, nt := false, ifl := f.ifl && !clearIf } := by
  simp [entryFlags]

theorem enterHandler_eq (hlimit : g.gateOffset.toNat ≤ c.limit.toNat) : enterHandler s g c lvl ext u =
    .ok { u with
      mem := (u.markAccessed c).mem, cs := codeSeg g.gateSel lvl c, ip := g.gateOffset, queueEmpty := true
      flags := { s.flags with tf := false, nt := false, ifl := s.flags.ifl && !arControl g.ar 6 } } := by
  rw [enterHandler, require_bind (decide_eq_true hlimit), enterCode_frame, toSeg_withRpl, entryFlags_handler]
  rfl

theorem enterHandler_limit (hlimit : c.limit.toNat < g.gateOffset.toNat) :
    enterHandler s g c lvl ext u = raise (.generalProtection ext) :=
  bind_raise (require_eq_raise.2 ⟨decide_eq_false (Nat.not_le.2 hlimit), rfl⟩)

theorem enterSame_eq : s.enterSame g c ret ec ext =
    s.pushAll ext (frameWords s ret ec) >>= enterHandler s g c s.cpl ext := rfl

theorem enterInner_eq : s.enterInner g c ret ec ext =
    onInnerStack s (arDpl c.ar) ext (enterOn s g c ret ec ext) := by
  simp only [State.enterInner, State.innerStack, State.innerSs, onInnerStack, stackCheck, selectorCheck, bind_assoc, pure_bind]
  rfl

theorem pushInner_of_room (hpe : s.msw.pe = true) (hd : StackAllowed lvl nss d)
    (h : StackRoom (d.toSeg nss) nsp (5 + ec.toList.length)) :
    ∃ u, (s.switchStack lvl nsp nss d).pushAll ext (innerFrame s ret ec) = .ok u :=
  pushAll_of_fits ((pushesFit_switchStack hpe hd).2 (innerFrame_length ▸ h))

theorem pushInner_no_room (hpe : s.msw.pe = true) (hd : StackAllowed lvl nss d)
    (h : ¬StackRoom (d.toSeg nss) nsp (5 + ec.toList.length)) :
    (s.switchStack lvl nsp nss d).pushAll ext (innerFrame s ret ec) = raise (.stackFault ext) := by
  refine pushAll_no_room ((switchStack_msw ..).symm ▸ hpe) (typeOk_switchStack hd) ?_
  rwa [switchStack_ss, switchStack_sp, innerFrame_length]

theorem enterTarget_same (h : arDpl c.ar = s.cpl ∨ arConforming c.ar = true) :
    enterTarget s g ret ec ext c = s.pushAll ext (frameWords s ret ec) >>= enterHandler s g c s.cpl ext := by
  have hnot : (!arConforming c.ar && decide (arDpl c.ar < s.cpl)) = false := by
    rcases h with h | h <;> simp [h]
  rw [enterTarget, hnot, ← enterSame_eq]
  rfl

theorem enterTarget_inner (hconf : arConforming c.ar = false) (hin : arDpl c.ar < s.cpl) :
    enterTarget s g ret ec ext c = onInnerStack s (arDpl c.ar) ext (enterOn s g c ret ec ext) := by
  rw [← enterInner_eq, enterTarget, if_pos (by simp [hconf, hin])]

/-! The checks of the vector and its gate (60_exceptions.md R443). -/

/-- The EXT bit of the entry (log 23). -/
def extBit (soft : Bool) : Word := if soft then 0 else 1

/-- The error code of the slot of a vector in the IDT. -/
def slotCode (n : Byte) (soft : Bool) : Word := BitVec.ofNat 16 (8 * n.toNat + 2) ||| extBit soft

theorem eventGate_iff : (arControl g.ar 5 || arControl g.ar 6 || arControl g.ar 7) = true ↔ EventGate g := by
  simp only [Bool.or_eq_true, or_assoc, EventGate]

theorem interrupt_eq_protected (hpe : s.msw.pe = true) :
    s.interrupt n soft ret ec = s.enterProtected n soft ret ec >>= fun t => pure t.interrupted := by
  rw [interrupt_eq, if_pos hpe]

theorem interrupt_raises (hpe : s.msw.pe = true) (h : s.enterProtected n soft ret ec = raise e) :
    s.interrupt n soft ret ec = raise e :=
  (interrupt_eq_protected hpe).trans (bind_raise h)

theorem enterProtected_limit (h : s.idtr.limit.toNat < 8 * n.toNat + 7) :
    s.enterProtected n soft ret ec = raise (.generalProtection (slotCode n soft)) :=
  bind_raise (require_eq_raise.2 ⟨decide_eq_false (Nat.not_le.2 h), rfl⟩)

theorem enterProtected_not_gate (hlimit : 8 * n.toNat + 7 ≤ s.idtr.limit.toNat)
    (h : ¬EventGate (s.descAt (s.idtr.base.toNat + 8 * n.toNat))) :
    s.enterProtected n soft ret ec = raise (.generalProtection (slotCode n soft)) :=
  (require_bind (decide_eq_true hlimit)).trans
    (bind_raise (require_eq_raise.2 ⟨Bool.eq_false_iff.2 fun hgate => h (eventGate_iff.1 hgate), rfl⟩))

theorem softMayUse (h : soft = true → s.cpl ≤ arDpl g.ar) : (!soft || decide (s.cpl ≤ arDpl g.ar)) = true := by
  cases soft
  · rfl
  · exact decide_eq_true (h rfl)

theorem enterProtected_absent (hlimit : 8 * n.toNat + 7 ≤ s.idtr.limit.toNat)
    (hg : g = s.descAt (s.idtr.base.toNat + 8 * n.toNat)) (hgate : EventGate g) (hsoft : soft = true → s.cpl ≤ arDpl g.ar)
    (hp : arPresent g.ar = false) : s.enterProtected n soft ret ec = raise (.notPresent (slotCode n soft)) := by
  subst hg
  exact (require_bind (decide_eq_true hlimit)).trans ((require_bind (eventGate_iff.2 hgate)).trans
    ((require_bind (softMayUse hsoft)).trans (bind_raise (require_eq_raise.2 ⟨hp, rfl⟩))))

/-- Past those checks the gate decides. -/
theorem enterProtected_of_gate (hlimit : 8 * n.toNat + 7 ≤ s.idtr.limit.toNat)
    (hg : g = s.descAt (s.idtr.base.toNat + 8 * n.toNat)) (hgate : EventGate g) (hsoft : soft = true → s.cpl ≤ arDpl g.ar)
    (hp : arPresent g.ar = true) : s.enterProtected n soft ret ec =
      if arControl g.ar 5 then s.enterTaskGate g ret ec (extBit soft)
      else codeCheck s g.gateSel (extBit soft) (gateAllows s) >>= enterTarget s g ret ec (extBit soft) := by
  subst hg
  simp only [codeCheck, selectorCheck, bind_assoc, pure_bind]
  exact (require_bind (decide_eq_true hlimit)).trans ((require_bind (eventGate_iff.2 hgate)).trans
    ((require_bind (softMayUse hsoft)).trans (require_bind hp)))

theorem arControl_unique {ar : Byte} {a b : BitVec 4} (ha : arControl ar a = true) (hne : a ≠ b) : arControl ar b = false := by
  simp only [arControl, Bool.and_eq_true, Bool.not_eq_true', decide_eq_true_eq] at ha ⊢
  rw [ha.2, decide_eq_false hne, Bool.and_false]

theorem enterProtected_of_gateFor (h : GateFor s n soft g) : s.enterProtected n soft ret ec =
    codeCheck s g.gateSel (extBit soft) (gateAllows s) >>= enterTarget s g ret ec (extBit soft) := by
  obtain ⟨hlimit, hg, hgate, hsoft, hp⟩ := h
  have hnot : arControl g.ar 5 = false := hgate.elim (arControl_unique · (by decide)) (arControl_unique · (by decide))
  rw [enterProtected_of_gate hlimit hg (.inr hgate) hsoft hp, hnot]
  rfl

theorem interrupt_of_found (hpe : s.msw.pe = true) (hgate : GateFor s n soft g) (hc : CodeFound s g.gateSel (GateAllows s) c) :
    s.interrupt n soft ret ec = enterTarget s g ret ec (extBit soft) c >>= fun t => pure t.interrupted := by
  rw [interrupt_eq_protected hpe, enterProtected_of_gateFor hgate,
    ok_bind (codeCheck_of_codeFound (fun _ => gateAllows_iff) hc)]

end

/-- The frame is pushed before the Accessed bit of the code segment is set. -/
theorem entryDone : EntryDone := by
  intro s n soft ret ec g c hpe hgate hc hlimit
  have hentry := interrupt_of_found (ret := ret) (ec := ec) hpe hgate hc
  refine ⟨fun hsame htype hroom => ?_, fun nsp nss d hconf hin hstack hroom => ?_⟩
  · obtain ⟨u, hu⟩ := pushAll_of_room (code := extBit soft) (ws := frameWords s ret ec) hpe htype (frameWords_length ▸ hroom)
    have hframe := pushAll_ok hu
    rw [frameWords_length] at hframe
    rw [enterTarget_same hsame, ok_bind hu, enterHandler_eq hlimit] at hentry
    refine ⟨_, u, hentry, accessedSet_of_mem rfl,
      stackPushed_of_pushAll hu rfl frameWords_short, ?_⟩
    rw [hframe]
    rfl
  · have hallowed := stackAllowed_of_innerStack hstack
    obtain ⟨u, hu⟩ := pushInner_of_room (ret := ret) (ext := extBit soft) hpe hallowed hroom
    have hframe := pushAll_ok hu
    rw [innerFrame_length, switchStack_frame] at hframe
    have hpushed := stackPushed_of_pushAll (s := s) hu (switchStack_msw ..) innerFrame_short
    rw [switchStack_ss, switchStack_sp] at hpushed
    rw [enterTarget_inner hconf hin, onInnerStack_of_innerStack hstack, enterOn, ok_bind hu, enterHandler_eq hlimit] at hentry
    refine ⟨_, u, _, hentry, switchStack_accessedSet, accessedSet_of_mem rfl, hpushed, ?_⟩
    rw [hframe]
    rfl

theorem entryFaults : EntryFaults := by
  rintro s n soft ret ec _ _ _ hpe rfl rfl rfl
  refine ⟨fun hlimit => interrupt_raises hpe (enterProtected_limit hlimit), fun g hlimit hg => ⟨fun hnot => ?_, ?_,
    fun hgate hsoft hp => interrupt_raises hpe (enterProtected_absent hlimit hg hgate hsoft hp)⟩,
    fun g hgate => ⟨?_, fun c hc => ?_⟩⟩
  · exact interrupt_raises hpe (enterProtected_not_gate hlimit (hg ▸ hnot))
  · rintro hgate rfl hdpl
    exact (interrupt_soft_forbidden hpe hlimit hg hgate hdpl).trans
      (congrArg (fun code => raise (.generalProtection code)) BitVec.or_zero.symm)
  · exact codeChecked_of_codeCheck (fun _ => gateAllows_iff) fun e he =>
      interrupt_raises hpe ((enterProtected_of_gateFor hgate).trans (bind_raise he))
  · have hentry {e : Exc} (h : enterTarget s g ret ec (extBit soft) c = raise e) : s.interrupt n soft ret ec = raise e :=
      (interrupt_of_found hpe hgate hc).trans (bind_raise h)
    refine ⟨fun hsame => ?_, fun hconf hin => ⟨innerStackChecked_of_onInnerStack fun e he =>
      hentry ((enterTarget_inner hconf hin).trans he), fun nsp nss d hstack => ?_⟩⟩
    · replace hentry {e : Exc} (h : s.pushAll _ (frameWords s ret ec) >>= enterHandler s g c s.cpl _ = raise e) :=
        hentry ((enterTarget_same hsame).trans h)
      refine ⟨fun htype => hentry (bind_raise (pushAll_of_not_typeOk hpe htype nofun)),
        fun htype hroom => hentry (bind_raise (pushAll_no_room hpe htype (frameWords_length ▸ hroom))),
        fun htype hroom hlimit => ?_⟩
      obtain ⟨u, hu⟩ := pushAll_of_room (code := extBit soft) (ws := frameWords s ret ec) hpe htype
        (frameWords_length ▸ hroom)
      exact hentry ((ok_bind hu).trans (enterHandler_limit hlimit))
    · have hallowed := stackAllowed_of_innerStack hstack
      replace hentry {e : Exc} (h : enterOn s g c ret ec _ nsp nss d = raise e) :=
        hentry ((enterTarget_inner hconf hin).trans ((onInnerStack_of_innerStack hstack).trans h))
      refine ⟨fun hroom => hentry (bind_raise (pushInner_no_room hpe hallowed hroom)), fun hroom hlimit => ?_⟩
      obtain ⟨u, hu⟩ := pushInner_of_room (ret := ret) (ext := extBit soft) hpe hallowed hroom
      exact hentry ((ok_bind hu).trans (enterHandler_limit hlimit))

/-- Settles O48: the checks of the vector, the gate, its target and the inner stack in their order, and past them the frame and
the handler. -/
theorem protectedEntry : Obligations.ProtectedEntry := ⟨entryDone, entryFaults⟩

end Sys2Proof.Proofs

/-! PROOFS. Statements of 60_exceptions.md about the task switch: what it saves and what it loads (R470 to R472). -/
namespace Sys2Proof.Proofs
open Sys2Proof Sys2Proof.Machine Sys2Proof.Claims

/-! Words stored one after another (20_memory.md R85). -/

/-- Words stored from the offset `o` of a segment at `a` upward. -/
def storeWords (s : State) (a o : Nat) : List Word → State
  | [] => s
  | w :: ws => storeWords (s.write16 (a + o) w) a (o + 2) ws

section
variable {s : State} {a o off : Nat} {ws : List Word}

theorem storeWords_frame (s : State) (a o : Nat) (ws : List Word) :
    storeWords s a o ws = { s with mem := (storeWords s a o ws).mem } := by
  induction ws generalizing s o with
  | nil => rfl
  | cons w ws ih => exact ih (s.write16 (a + o) w) (o + 2)

theorem storeWords_physByte_ne {p : Nat} (h : ∀ k, o ≤ k → k < o + 2 * ws.length → p ≠ physAddr s.msw.pe (a + k)) :
    (storeWords s a o ws).physByte p = s.physByte p := by
  induction ws generalizing s o with
  | nil => rfl
  | cons w ws ih =>
    rw [List.length_cons] at h
    have hrest := ih (s := s.write16 (a + o) w) (o := o + 2) fun k hle hlt => h k (by omega) (by omega)
    exact hrest.trans (write16_physByte_ne s (a + o) w (h o le_rfl (by omega)) (h (o + 1) (by omega) (by omega)))

/-- A word below the first one keeps its value. -/
theorem storeWords_read16_below (h : off + 2 ≤ o) (hlen : o + 2 * ws.length ≤ 0x10000) :
    (storeWords s a o ws).read16 (a + off) = s.read16 (a + off) := by
  induction ws generalizing s o with
  | nil => rfl
  | cons w ws ih =>
    rw [List.length_cons] at hlen
    exact (ih (s := s.write16 (a + o) w) (o := o + 2) (by omega) (by omega)).trans
      (read16_write16_disjoint s w (by omega) (by omega) (.inr h))

theorem storeWords_read16 (hlen : o + 2 * ws.length ≤ 0x10000) {k : Nat} (hk : k < ws.length) :
    (storeWords s a o ws).read16 (a + (o + 2 * k)) = ws[k] := by
  induction ws generalizing s o k with
  | nil => exact absurd hk k.not_lt_zero
  | cons w ws ih =>
    rw [List.length_cons] at hlen hk
    cases k with
    | zero =>
      exact (storeWords_read16_below (s := s.write16 (a + o) w) le_rfl (by omega)).trans (read16_write16 s (a + o) w)
    | succ k =>
      rw [show o + 2 * (k + 1) = o + 2 + 2 * k by omega]
      exact ih (s := s.write16 (a + o) w) (by omega) (by omega)

theorem storeWords_reads (hlen : o + 2 * ws.length ≤ 0x10000) :
    (List.range ws.length).map (fun k => (storeWords s a o ws).read16 (a + (o + 2 * k))) = ws := by
  refine List.ext_getElem (by simp) fun k hk hk' => ?_
  rw [List.getElem_map, List.getElem_range]
  exact storeWords_read16 hlen hk'

/-! The outgoing task (60_exceptions.md R470 steps 2 to 4, R471). -/

/-- The words of a task state segment from IP to DS, in their order. -/
def taskWords (s : State) (ip : Word) (f : Flags) : List Word :=
  [ip, flagsWord f, s.regs.ax, s.regs.cx, s.regs.dx, s.regs.bx, s.regs.sp, s.regs.bp, s.regs.si, s.regs.di,
    s.es.sel, s.cs.sel, s.ss.sel, s.ds.sel]

/-- Their offsets (60_exceptions.md R471). -/
theorem taskOffsets_map {α : Type} (f : Nat → α) :
    [14, 16, 18, 20, 22, 24, 26, 28, 30, 32, 34, 36, 38, 40].map f = (List.range 14).map fun k => f (14 + 2 * k) := rfl

theorem saveTask_eq (s : State) (a : Nat) (ip : Word) (f : Flags) :
    s.saveTask a ip f = storeWords s a 14 (taskWords s ip f) := rfl

end

theorem taskStateSaved : TaskStateSaved := by
  rintro s _ a ip f rfl
  have hlen : (taskWords s ip f).length = 14 := rfl
  have hreads := storeWords_reads (s := s) (a := a) (o := 14) (ws := taskWords s ip f) (by rw [hlen]; norm_num)
  rw [hlen] at hreads
  rw [saveTask_eq, taskOffsets_map]
  exact ⟨hreads, fun p hp => storeWords_physByte_ne hp, storeWords_frame ..⟩

theorem links_iff {kind : SwitchKind} : kind.links = true ↔ kind = .call ∨ kind = .nested := by
  cases kind <;> decide

/-- The FLAGS image that a switch saves. -/
def savedFlags (s : State) (kind : SwitchKind) : Flags := if kind = .iret then { s.flags with nt := false } else s.flags

/-- The access byte of the outgoing task's descriptor. -/
def busyByte (s : State) : Nat := s.gdtr.base.toNat + 8 * (s.tr.sel.toNat / 8) + 5

/-- The outgoing state is saved. -/
def savedTask (s : State) (kind : SwitchKind) (ret : Word) : State :=
  s.saveTask s.tr.base.toNat ret (savedFlags s kind)

/-- Then the busy mark of the outgoing task is cleared, but by the switches that link. -/
def freeTask (s : State) (kind : SwitchKind) (ret : Word) : State :=
  if kind = .call ∨ kind = .nested ∨ s.tr.sel.toNat < 4 then savedTask s kind ret
  else (savedTask s kind ret).write8 (busyByte s) ((savedTask s kind ret).read8 (busyByte s) &&& 0xFD)

/-- Then the back link is written by the switches that link. -/
def linkTask (s : State) (d : Desc) (kind : SwitchKind) (ret : Word) : State :=
  if kind = .call ∨ kind = .nested then (freeTask s kind ret).write16 d.base.toNat s.tr.sel else freeTask s kind ret

/-- Then the incoming task is marked busy, but by IRET. -/
def claimTask (s : State) (d : Desc) (kind : SwitchKind) (ret : Word) : State :=
  if kind = .iret then linkTask s d kind ret else (linkTask s d kind ret).markBusy d

section
variable {s t u : State}

/-- `t` is `s` but for memory. -/
def OnlyMem (s t : State) : Prop := t = { s with mem := t.mem }

theorem OnlyMem.trans (h : OnlyMem s t) (h' : OnlyMem t u) : OnlyMem s u := by
  rw [OnlyMem] at *
  rw [h', h]

theorem OnlyMem.msw_eq (h : OnlyMem s t) : t.msw = s.msw := by
  rw [OnlyMem] at h
  rw [h]

theorem OnlyMem.ite {c : Prop} [Decidable c] (ht : OnlyMem s t) (hu : OnlyMem s u) : OnlyMem s (if c then t else u) := by
  split <;> assumption

theorem onlyMem_write8 (s : State) (a : Nat) (b : Byte) : OnlyMem s (s.write8 a b) := rfl

theorem onlyMem_write16 (s : State) (a : Nat) (w : Word) : OnlyMem s (s.write16 a w) := rfl

theorem savedTask_onlyMem (s : State) (kind : SwitchKind) (ret : Word) : OnlyMem s (savedTask s kind ret) := by
  rw [savedTask, saveTask_eq]
  exact storeWords_frame ..

theorem freeTask_onlyMem (s : State) (kind : SwitchKind) (ret : Word) : OnlyMem s (freeTask s kind ret) :=
  have hsaved := savedTask_onlyMem s kind ret
  .ite hsaved (hsaved.trans (onlyMem_write8 ..))

theorem linkTask_onlyMem (s : State) (d : Desc) (kind : SwitchKind) (ret : Word) : OnlyMem s (linkTask s d kind ret) :=
  have hfree := freeTask_onlyMem s kind ret
  .ite (hfree.trans (onlyMem_write16 ..)) hfree

theorem claimTask_onlyMem (s : State) (d : Desc) (kind : SwitchKind) (ret : Word) : OnlyMem s (claimTask s d kind ret) :=
  have hlink := linkTask_onlyMem s d kind ret
  .ite hlink (hlink.trans (onlyMem_write8 ..))

theorem leaveTask_eq (s : State) (sel : Word) (d : Desc) (kind : SwitchKind) (ret : Word) :
    s.leaveTask sel d kind ret =
      ({ claimTask s d kind ret with tr := d.toSys sel, msw := { s.msw with ts := true } } : State).loadTask d.base.toNat
        kind.links := by
  have hfree : (kind.links || selNull s.tr.sel) = true ↔ kind = .call ∨ kind = .nested ∨ s.tr.sel.toNat < 4 := by
    rw [Bool.or_eq_true, links_iff, selNull_iff, or_assoc]
  rw [← (claimTask_onlyMem s d kind ret).msw_eq]
  unfold claimTask linkTask freeTask savedTask busyByte savedFlags
  rw [← if_congr hfree rfl rfl, ← if_congr links_iff rfl rfl, ← toNat_and_FFF8]
  rfl

end

theorem taskLeft : TaskLeft := by
  rintro s _ sel d kind ret _ rfl rfl
  rw [leaveTask_eq]
  refine ⟨?_, ?_⟩
  · rintro _ _ _ _ rfl rfl rfl rfl
    rfl
  · obtain ⟨m, hm⟩ : ∃ m, claimTask s d kind ret = { s with mem := m } := ⟨_, claimTask_onlyMem s d kind ret⟩
    have hlinks : kind.links = decide (kind = .call ∨ kind = .nested) :=
      Bool.eq_iff_iff.2 (links_iff.trans decide_eq_true_iff.symm)
    rw [hm, hlinks]
    rfl

end Sys2Proof.Proofs

/-! PROOFS. Statements of 60_exceptions.md about the task switch: the segments of the incoming task (R470 steps 7 to 9). -/
namespace Sys2Proof.Proofs
open Sys2Proof Sys2Proof.Machine Sys2Proof.Claims

section
variable {s : State} {r : SReg} {d : Desc} {ext : Word} {run : Res State} {allowed : Desc → Prop} {outside bad absent : Exc}

/-- The load of a segment register from its descriptor. -/
theorem load_frame (s : State) (r : SReg) (d : Desc) (g : SegReg) :
    (s.markAccessed d).setSeg r g = { s.setSeg r g with mem := ((s.markAccessed d).setSeg r g).mem } := by
  rw [markAccessed_frame d]
  cases r <;> rfl

/-- The outcome of a load by what it finds. -/
theorem taskSegment_of_outcome
    (houtside : 4 ≤ (s.seg r).sel.toNat → s.fetchDesc (s.seg r).sel = none → run = raise outside)
    (hfound : ∀ d, 4 ≤ (s.seg r).sel.toNat → s.fetchDesc (s.seg r).sel = some d →
      LoadOutcome run (allowed d) d ((s.markAccessed d).setSeg r (d.toSeg (s.seg r).sel)) bad absent) :
    TaskSegment s r run allowed outside bad absent := by
  refine fun hle => ⟨houtside hle, fun d hd => ?_⟩
  have hload := hfound d hle hd
  exact ⟨hload.forbidden, hload.absent, fun ha hp =>
    ⟨_, hload.completes ha hp, accessedSet_of_mem (setSeg_mem ..), load_frame ..⟩⟩

/-- The incoming CS: a code segment of the level, or a conforming one that is not above it. -/
theorem switchCs_outcome (hle : 4 ≤ s.cs.sel.toNat) (hd : s.fetchDesc s.cs.sel = some d) :
    LoadOutcome (s.switchCs ext)
      (arCode d.ar = true ∧ if arConforming d.ar = true then arDpl d.ar ≤ s.cpl else arDpl d.ar = s.cpl) d
      ((s.markAccessed d).setSeg .cs (d.toSeg s.cs.sel)) (.invalidTss (selCode s.cs.sel ||| ext))
      (.notPresent (selCode s.cs.sel ||| ext)) := by
  refine loadOutcome_of_eq (b := arCode d.ar &&
    if arConforming d.ar then decide (arDpl d.ar ≤ s.cpl) else decide (arDpl d.ar = s.cpl)) ?_ ?_
  · rw [Bool.and_eq_true]
    split <;> simp
  · rw [State.switchCs, require_not_null hle, ok_bind (fetchOr_ok.2 hd), ← require_require]

theorem switchSs_outcome (hle : 4 ≤ s.ss.sel.toNat) (hd : s.fetchDesc s.ss.sel = some d) :
    LoadOutcome (s.switchSs ext) (StackLoadable s s.ss.sel d) d ((s.markAccessed d).setSeg .ss (d.toSeg s.ss.sel))
      (.invalidTss (selCode s.ss.sel ||| ext)) (.stackFault (selCode s.ss.sel ||| ext)) := by
  refine loadOutcome_of_eq (b := arWritable d.ar && (decide (selRpl s.ss.sel = s.cpl) && decide (arDpl d.ar = s.cpl))) ?_ ?_
  · simp only [Bool.and_eq_true, decide_eq_true_eq, StackLoadable]
    tauto
  · rw [State.switchSs, require_not_null hle, ok_bind (fetchOr_ok.2 hd), ← require_require, ← require_require]

theorem switchData_outcome (hle : 4 ≤ (s.seg r).sel.toNat) (hd : s.fetchDesc (s.seg r).sel = some d) :
    LoadOutcome (s.switchData r ext) (DataLoadable s (s.seg r).sel d) d ((s.markAccessed d).setSeg r (d.toSeg (s.seg r).sel))
      (.invalidTss (selCode (s.seg r).sel ||| ext)) (.notPresent (selCode (s.seg r).sel ||| ext)) := by
  refine loadOutcome_of_eq (b := arSegment d.ar && (arReadable d.ar &&
    (arConforming d.ar || decide (lvlMax s.cpl (selRpl (s.seg r).sel) ≤ arDpl d.ar)))) ?_ ?_
  · simp only [Bool.and_eq_true, Bool.or_eq_true, decide_eq_true_eq, lvlMax_le, DataLoadable]
  · rw [State.switchData, if_neg (by simp [selNull_of_le hle]), ok_bind (fetchOr_ok.2 hd), checkDataDesc, ← require_require,
      ← require_require]
    simp only [bind_assoc]

/-- LDTR is loaded by the checks of `tssDesc`, each with one exception. -/
theorem switchLdt_eq (hle : 4 ≤ s.ldtr.sel.toNat) : s.switchLdt ext =
    s.tssDesc s.ldtr.sel 2 (.invalidTss (selCode s.ldtr.sel ||| ext)) (.invalidTss (selCode s.ldtr.sel ||| ext)) >>= fun d =>
    pure { s with ldtr := d.toSys s.ldtr.sel } := by
  rw [State.switchLdt, if_neg (by simp [selNull_of_le hle]), State.tssDesc, require_not_null hle]
  simp only [bind_assoc, pure_bind]

theorem switchLdt_null (h : s.ldtr.sel.toNat < 4) : s.switchLdt ext = .ok s := if_pos (selNull_iff.2 h)

theorem switchData_null (h : (s.seg r).sel.toNat < 4) : s.switchData r ext = .ok s := if_pos (selNull_iff.2 h)

/-- A null selector has the error code of EXT alone. -/
theorem selCode_or_of_null {sel : Word} (h : sel.toNat < 4) (ext : Word) : selCode sel ||| ext = ext := by
  rw [selCode_of_null h]
  exact BitVec.zero_or

end

theorem taskSegments : TaskSegments := by
  intro s ext
  refine ⟨?_, ?_, ?_, ?_⟩
  · rintro _ _ rfl rfl
    refine ⟨switchLdt_null, fun hle hout => (switchLdt_eq hle).trans (bind_raise (tssDesc_outside hle hout)),
      fun d hle hlocal hd => ⟨fun htype hp => ?_, fun hbad => (switchLdt_eq hle).trans (bind_raise ?_)⟩⟩
    · exact (switchLdt_eq hle).trans (ok_bind (tssDesc_found hle hlocal hd htype hp))
    · by_cases htype : arControl d.ar 2 = true
      · exact tssDesc_absent hle hlocal hd htype (hbad.resolve_left fun h => Bool.eq_false_iff.1 h htype)
      · exact tssDesc_other hle hlocal hd (Bool.eq_false_iff.2 htype)
  · rintro _ rfl
    refine ⟨fun hnull => (require_null hnull).trans (by rw [selCode_or_of_null hnull]; rfl), taskSegment_of_outcome
      (fun hle hd => (require_not_null hle).trans (bind_raise (fetchOr_raises hd))) fun d => switchCs_outcome⟩
  · rintro _ rfl
    refine ⟨fun hnull => (require_null hnull).trans (by rw [selCode_or_of_null hnull]; rfl), taskSegment_of_outcome
      (fun hle hd => (require_not_null hle).trans (bind_raise (fetchOr_raises hd))) fun d => switchSs_outcome⟩
  · rintro r _ - rfl
    refine ⟨switchData_null, taskSegment_of_outcome (fun hle hd => ?_) fun d => switchData_outcome⟩
    rw [State.switchData, if_neg (by simp [selNull_of_le hle])]
    exact bind_raise (fetchOr_raises hd)

/-! Steps 7 to 9 in their order. -/

section
variable {s t : State} {m : Res State} {e : Exc} {f : State → Res State} {ext : Word}

theorem inContext_bind_ok (h : m = .ok t) : (inContext s m >>= f) = f t := ok_bind (inContext_ok.2 h)

theorem inContext_bind_raise (h : m = raise e) : (inContext s m >>= f) = .error { exc := e, context := some s } :=
  bind_error (inContext_error.2 ⟨_, h, rfl⟩)

/-- The end of a task switch: IP is inside CS. -/
def finishTask (s : State) (ext : Word) : Res State := do
  inContext s (require (decide (s.ip.toNat ≤ s.cs.limit.toNat)) (.generalProtection ext))
  pure { s with queueEmpty := true }

theorem finishTask_inside (h : s.ip.toNat ≤ s.cs.limit.toNat) : finishTask s ext = .ok { s with queueEmpty := true } := by
  rw [finishTask, decide_eq_true h]
  rfl

theorem finishTask_outside (h : s.cs.limit.toNat < s.ip.toNat) :
    finishTask s ext = .error { exc := .generalProtection ext, context := some s } := by
  rw [finishTask, decide_eq_false (Nat.not_le.2 h)]
  rfl

end

theorem taskEntered : TaskEntered := by
  rintro s ext _ rfl
  refine ⟨fun x hx => inContext_bind_raise hx, ?_⟩
  rintro l _ hl rfl
  have hldt : s.enterTask ext = _ := inContext_bind_ok hl
  refine ⟨fun x hx => hldt.trans (inContext_bind_raise hx), fun a ha => ?_⟩
  have hcs := hldt.trans (inContext_bind_ok ha)
  refine ⟨fun x hx => hcs.trans (inContext_bind_raise hx), fun b hb => ?_⟩
  have hss := hcs.trans (inContext_bind_ok hb)
  refine ⟨fun x hx => hss.trans (inContext_bind_raise hx), fun c hc => ?_⟩
  have hds := hss.trans (inContext_bind_ok hc)
  refine ⟨fun x hx => hds.trans (inContext_bind_raise hx), fun d hd => ?_⟩
  have hes : s.enterTask ext = finishTask d ext := hds.trans (inContext_bind_ok hd)
  exact ⟨fun hip => hes.trans (finishTask_outside hip), fun hip => hes.trans (finishTask_inside hip)⟩

/-! What a completed switch leaves. -/

section
variable {s t u L : State} {r : SReg} {ext : Word}

theorem switchLdt_ok (h : s.switchLdt ext = .ok t) : ∃ g : SysReg, g.sel = s.ldtr.sel ∧ t = { s with ldtr := g } := by
  by_cases hnull : s.ldtr.sel.toNat < 4
  · rw [switchLdt_null hnull] at h
    exact ⟨s.ldtr, rfl, (Except.ok.inj h).symm⟩
  · obtain ⟨d, -, hd⟩ := bind_ok.1 ((switchLdt_eq (Nat.le_of_not_lt hnull)).symm.trans h)
    exact ⟨d.toSys s.ldtr.sel, rfl, (pure_ok.1 hd).symm⟩

theorem switchCs_ok (h : s.switchCs ext = .ok t) :
    ∃ (d : Desc) (m : Memory), t = { s with mem := m, cs := d.toSeg s.cs.sel } := by
  simp only [State.switchCs, bind_ok, fetchOr_ok, require_ok, pure_ok, exists_unit] at h
  obtain ⟨-, d, -, -, -, -, rfl⟩ := h
  exact ⟨d, _, load_frame s .cs d _⟩

theorem switchSs_ok (h : s.switchSs ext = .ok t) :
    ∃ (d : Desc) (m : Memory), arWritable d.ar = true ∧ t = { s with mem := m, ss := d.toSeg s.ss.sel } := by
  simp only [State.switchSs, bind_ok, fetchOr_ok, require_ok, pure_ok, exists_unit] at h
  obtain ⟨-, d, -, hwritable, -, -, -, rfl⟩ := h
  exact ⟨d, _, hwritable, load_frame s .ss d _⟩

theorem switchData_ok (h : s.switchData r ext = .ok t) :
    ∃ (g : SegReg) (m : Memory), g.sel = (s.seg r).sel ∧ t = { s.setSeg r g with mem := m } := by
  by_cases hnull : (s.seg r).sel.toNat < 4
  · rw [switchData_null hnull] at h
    obtain rfl := Except.ok.inj h
    exact ⟨s.seg r, s.mem, rfl, by cases r <;> rfl⟩
  · simp only [State.switchData, if_neg (mt selNull_iff.1 hnull), bind_ok, fetchOr_ok, pure_ok, exists_unit] at h
    obtain ⟨d, -, -, rfl⟩ := h
    exact ⟨d.toSeg (s.seg r).sel, _, rfl, load_frame s r d _⟩

/-- The incoming task `L` runs in `u`: its selectors are kept, CS and SS are loaded, and SS may be written. -/
structure TaskRuns (L u : State) : Prop where
  frame : ∃ c k : Desc, arWritable k.ar = true ∧ u = { L with
    mem := u.mem, ldtr := u.ldtr, cs := c.toSeg L.cs.sel, ss := k.toSeg L.ss.sel, ds := u.ds, es := u.es
    cpl := selRpl L.cs.sel, queueEmpty := true }
  ldtr : u.ldtr.sel = L.ldtr.sel
  ds : u.ds.sel = L.ds.sel
  es : u.es.sel = L.es.sel

/-- The loads of a completed switch. -/
theorem enterTask_steps (h : L.enterTask ext = .ok u) : ∃ l a b v w : State, L.switchLdt ext = .ok l ∧
    ({ l with cpl := selRpl l.cs.sel } : State).switchCs ext = .ok a ∧ a.switchSs ext = .ok b ∧
    b.switchData .ds ext = .ok v ∧ v.switchData .es ext = .ok w ∧ u = { w with queueEmpty := true } := by
  simp only [State.enterTask, bind_ok, inContext_ok, pure_ok, exists_unit] at h
  obtain ⟨l, hl, a, ha, b, hb, v, hv, w, hw, -, rfl⟩ := h
  exact ⟨l, a, b, v, w, hl, ha, hb, hv, hw, rfl⟩

theorem enterTask_ok (h : L.enterTask ext = .ok u) : TaskRuns L u := by
  obtain ⟨l, a, b, v, w, hl, ha, hb, hv, hw, rfl⟩ := enterTask_steps h
  obtain ⟨gl, hldtr, rfl⟩ := switchLdt_ok hl
  obtain ⟨c, ma, rfl⟩ := switchCs_ok ha
  obtain ⟨k, mb, hwritable, rfl⟩ := switchSs_ok hb
  obtain ⟨gd, mv, hds, rfl⟩ := switchData_ok hv
  obtain ⟨ge, mw, hes, rfl⟩ := switchData_ok hw
  exact ⟨⟨c, k, hwritable, rfl⟩, hldtr, hds, hes⟩

end

end Sys2Proof.Proofs


/-! PROOFS. Statements of 60_exceptions.md and 44_control_transfer.md about what switches tasks: JMP and CALL (R321), IRET
(60_exceptions.md R448) and the task gates of the IDT (R446). -/
namespace Sys2Proof.Proofs
open Sys2Proof Sys2Proof.Machine Sys2Proof.Claims

/-! The checks before a switch (60_exceptions.md R470 step 1). -/

/-- The switch to the task state segment that a gate or a back link names. -/
def switchTo (s : State) (sel : Word) (type : BitVec 4) (bad : Exc) (kind : SwitchKind) (ret ext : Word) : Res State := do
  let d ← s.tssDesc sel type bad (.notPresent (selCode sel ||| ext))
  s.taskSwitch sel d kind ret ext

section
variable {s : State} {sel ret ext : Word} {type : BitVec 4} {bad : Exc} {kind : SwitchKind} {d : Desc} {call : Bool}
  {raises : Exc → Prop} {i : Instr} {off : Word}

theorem taskSwitch_short (h : d.limit.toNat < 43) :
    s.taskSwitch sel d kind ret ext = raise (.invalidTss (selCode sel ||| ext)) :=
  bind_raise (require_eq_raise.2 ⟨decide_eq_false (Nat.not_le.2 h), rfl⟩)

theorem taskSwitch_of_room (h : 43 ≤ d.limit.toNat) :
    s.taskSwitch sel d kind ret ext = (s.leaveTask sel d kind ret).enterTask ext := require_bind (decide_eq_true h)

theorem tssChecked_of_switchTo (h : ∀ e, switchTo s sel type bad kind ret ext = raise e → raises e) :
    TssChecked s sel ext type bad raises := by
  have hbad (hd : s.tssDesc sel type bad (.notPresent (selCode sel ||| ext)) = raise bad) : raises bad := h _ (bind_raise hd)
  refine ⟨fun hfails => hbad ?_, fun d hle hlocal hd htype =>
    ⟨fun hp => h _ (bind_raise (tssDesc_absent hle hlocal hd htype hp)),
      fun hp hshort => h _ ((ok_bind (tssDesc_found hle hlocal hd htype hp)).trans (taskSwitch_short hshort))⟩⟩
  by_cases hnull : sel.toNat < 4
  · exact require_null hnull
  · have hle := Nat.le_of_not_lt hnull
    cases hlocal : sel.getLsbD 2 with
    | true => exact tssDesc_outside hle (.inl hlocal)
    | false =>
      rcases hfails with hfails | hfails | hnone | ⟨d, hd, htype⟩
      · exact absurd hfails hnull
      · exact absurd hfails (Bool.eq_false_iff.1 hlocal)
      · exact tssDesc_outside hle (.inr hnone)
      · exact tssDesc_other hle hlocal hd htype

theorem switchTo_of_found (hle : 4 ≤ sel.toNat) (hlocal : sel.getLsbD 2 = false) (hd : s.fetchDesc sel = some d)
    (htype : arControl d.ar type = true) (hp : arPresent d.ar = true) (hroom : 43 ≤ d.limit.toNat) :
    switchTo s sel type bad kind ret ext = (s.leaveTask sel d kind ret).enterTask ext :=
  (ok_bind (tssDesc_found hle hlocal hd htype hp)).trans (taskSwitch_of_room hroom)

/-! JMP and CALL (44_control_transfer.md R321). -/

theorem farTransfer_task (hle : 4 ≤ sel.toNat) (hd : s.fetchDesc sel = some d)
    (htask : arControl d.ar 1 = true ∨ arControl d.ar 5 = true) :
    s.farTransfer sel off call = s.taskTransfer sel d call := by
  have hcode : arCode d.ar = false := htask.elim arCode_of_control arCode_of_control
  have hgate : arControl d.ar 4 = false := htask.elim (arControl_unique · (by decide)) (arControl_unique · (by decide))
  have htype : (arControl d.ar 5 || arControl d.ar 1) = true := by rwa [Bool.or_eq_true, or_comm]
  rw [farTransfer_of_fetchDesc hle hd, hcode, hgate, htype]
  rfl

theorem taskTransfer_forbidden (h : ¬LevelMayUse s sel d) :
    s.taskTransfer sel d call = raise (.generalProtection (selCode sel)) :=
  bind_raise (require_eq_raise.2 ⟨Bool.eq_false_iff.2 fun hlevel => h (levelMayUse_iff.1 hlevel), rfl⟩)

theorem taskTransfer_absent (h : LevelMayUse s sel d) (hp : arPresent d.ar = false) :
    s.taskTransfer sel d call = raise (.notPresent (selCode sel)) :=
  (require_bind (levelMayUse_iff.2 h)).trans (bind_raise (require_eq_raise.2 ⟨hp, rfl⟩))

theorem taskTransfer_of_allowed (h : LevelMayUse s sel d) (hp : arPresent d.ar = true) : s.taskTransfer sel d call =
    if arControl d.ar 5 then
      switchTo s d.gateSel 1 (.generalProtection (selCode d.gateSel)) (farKind call) s.ipNext 0
    else require (!selLocal sel) (.generalProtection (selCode sel)) >>= fun _ =>
      s.taskSwitch sel d (farKind call) s.ipNext 0 := by
  simp only [switchTo, selCode_or_zero]
  exact (require_bind (levelMayUse_iff.2 h)).trans (require_bind hp)

/-- A far transfer to a task state segment. -/
theorem taskTransfer_tss (h : LevelMayUse s sel d) (hp : arPresent d.ar = true) (htss : arControl d.ar 1 = true) :
    s.taskTransfer sel d call = require (!selLocal sel) (.generalProtection (selCode sel)) >>= fun _ =>
      s.taskSwitch sel d (farKind call) s.ipNext 0 := by
  rw [taskTransfer_of_allowed h hp, arControl_unique htss (by decide)]
  rfl

theorem taskTransfer_local (h : LevelMayUse s sel d) (hp : arPresent d.ar = true) (htss : arControl d.ar 1 = true)
    (hlocal : sel.getLsbD 2 = true) : s.taskTransfer sel d call = raise (.generalProtection (selCode sel)) :=
  (taskTransfer_tss h hp htss).trans (bind_raise (require_eq_raise.2 ⟨congrArg Bool.not hlocal, rfl⟩))

theorem taskTransfer_global (h : LevelMayUse s sel d) (hp : arPresent d.ar = true) (htss : arControl d.ar 1 = true)
    (hlocal : sel.getLsbD 2 = false) : s.taskTransfer sel d call = s.taskSwitch sel d (farKind call) s.ipNext 0 :=
  (taskTransfer_tss h hp htss).trans (require_bind (congrArg Bool.not hlocal))

theorem runs_taskTransfer (hrep : NoRep s) (hpe : s.msw.pe = true) (hi : FarPointer s call i sel off) (hle : 4 ≤ sel.toNat)
    (hd : s.fetchDesc sel = some d) (htask : arControl d.ar 1 = true ∨ arControl d.ar 5 = true) :
    Runs i s (s.begin.taskTransfer sel d call) :=
  farTransfer_task (s := s.begin) hle hd htask ▸ runs_farTransfer hrep hpe hi

theorem runs_taskGate (hrep : NoRep s) (hpe : s.msw.pe = true) (h : ThroughTaskGate s call i sel) :
    Runs i s (switchTo s.begin sel 1 (.generalProtection (selCode sel)) (farKind call) s.ipNext 0) := by
  obtain ⟨gsel, off, g, hi, hle, hd, hgate, hlevel, hp, rfl⟩ := h
  have htransfer := (taskTransfer_of_allowed (s := s.begin) (call := call) hlevel hp).trans (if_pos hgate)
  exact htransfer ▸ runs_taskTransfer hrep hpe hi hle hd (.inr hgate)

/-! IRET (60_exceptions.md R448, R453). -/

/-- IRET to the task of the back link. -/
theorem interruptReturn_linked (hpe : s.msw.pe = true) (hnt : s.flags.nt = true) : s.interruptReturn =
    switchTo s (s.read16 s.tr.base.toNat) 3 (.invalidTss (selCode (s.read16 s.tr.base.toNat))) .iret s.ipNext 0 >>= fun t =>
    pure { t with nmiInService := false } := by
  simp only [State.interruptReturn, hpe, hnt, switchTo, selCode_or_zero]
  rfl

end

theorem taskSwitchFaults : TaskSwitchFaults := by
  intro s i hrep hpe
  refine ⟨fun call sel off d hi hle hd htask => ?_, fun call sel hi => ?_, ?_⟩
  · have hruns := runs_taskTransfer hrep hpe hi hle hd htask
    refine ⟨fun hlevel => hruns.raises (taskTransfer_forbidden (s := s.begin) hlevel),
      fun hlevel hp => hruns.raises (taskTransfer_absent (s := s.begin) hlevel hp), fun hlevel hp htss =>
      ⟨fun hlocal => hruns.raises (taskTransfer_local (s := s.begin) hlevel hp htss hlocal), fun hlocal hshort => ?_⟩⟩
    have hswitch := taskTransfer_global (s := s.begin) (call := call) hlevel hp htss hlocal
    exact hruns.raises (hswitch.trans ((taskSwitch_short hshort).trans (by rw [selCode_or_zero]; rfl)))
  · exact tssChecked_of_switchTo (s := s.begin) fun e he => (runs_taskGate hrep hpe hi).raises he
  · rintro _ rfl hnt rfl
    exact tssChecked_of_switchTo (s := s.begin) fun e he => (runs_iret hrep).raises
      ((interruptReturn_linked (s := s.begin) hpe hnt).trans (bind_raise he))

/-! A switch that completes. -/

/-- After IRET no NMI is in service (log 43). -/
def endNmi (kind : SwitchKind) (t : State) : Res State :=
  pure { t with nmiInService := t.nmiInService && decide (kind ≠ .iret) }

section
variable {s : State} {i : Instr} {kind : SwitchKind} {sel : Word} {d : Desc}

theorem bind_endNmi {m : Res State} (h : kind ≠ .iret) : m >>= endNmi kind = m := by
  have hkept : endNmi kind = pure := by
    funext t
    simp [endNmi, h]
  rw [hkept, bind_pure]

theorem endNmi_iret : endNmi .iret = fun t => pure { t with nmiInService := false } := by
  funext t
  simp [endNmi]

theorem farKind_ne_iret {call : Bool} : farKind call ≠ .iret := by cases call <;> nofun

/-- What an instruction that asks for a switch runs, past its checks. -/
theorem runs_taskSwitch (hrep : NoRep s) (hpe : s.msw.pe = true) (hi : AsksFor s i kind sel d) (hle : 4 ≤ sel.toNat)
    (hlocal : sel.getLsbD 2 = false) (hd : s.fetchDesc sel = some d) (hp : arPresent d.ar = true) (hroom : 43 ≤ d.limit.toNat) :
    Runs i s ((s.begin.leaveTask sel d kind s.ipNext).enterTask 0 >>= endNmi kind) := by
  rcases hi with ⟨call, off, hi, rfl, -, hlevel, htss⟩ | ⟨call, hi, rfl, htss⟩ | ⟨rfl, hnt, rfl, rfl, htss⟩
  · rw [bind_endNmi farKind_ne_iret]
    have hswitch := (taskTransfer_global (s := s.begin) (call := call) hlevel hp htss hlocal).trans (taskSwitch_of_room hroom)
    exact hswitch ▸ runs_taskTransfer hrep hpe hi hle hd (.inl htss)
  · rw [bind_endNmi farKind_ne_iret]
    have hswitch := switchTo_of_found (s := s.begin) (bad := .generalProtection (selCode sel)) (kind := farKind call)
      (ret := s.ipNext) (ext := 0) hle hlocal hd htss hp hroom
    exact hswitch ▸ runs_taskGate hrep hpe hi
  · have hswitch := switchTo_of_found (s := s.begin) (bad := .invalidTss (selCode (s.read16 s.tr.base.toNat)))
      (kind := .iret) (ret := s.ipNext) (ext := 0) hle hlocal hd htss hp hroom
    have hret := (interruptReturn_linked (s := s.begin) hpe hnt).trans (congrArg (· >>= _) hswitch)
    rw [endNmi_iret]
    exact hret ▸ runs_iret hrep

theorem asksFor_ne_nested (hi : AsksFor s i kind sel d) : kind ≠ .nested := by
  rcases hi with ⟨call, -, -, rfl, -⟩ | ⟨call, -, rfl, -⟩ | ⟨-, -, rfl, -⟩
  · cases call <;> nofun
  · cases call <;> nofun
  · nofun

end

theorem taskSwitches : TaskSwitches := by
  rintro s L i kind sel d _ hrep hpe hi hle hlocal hd hp hroom hL rfl
  have hruns := runs_taskSwitch hrep hpe hi hle hlocal hd hp hroom
  obtain ⟨-, hleft⟩ := taskLeft s.begin L sel d kind s.ipNext _ hL rfl
  rw [← hL] at hruns
  refine ⟨fun u hu => ?_, fun e x hx => ?_⟩
  · obtain ⟨⟨c, k, -, hframe⟩, hldtr, hds, hes⟩ := enterTask_ok hu
    rw [hleft] at hframe
    have hnmi : u.nmiInService = s.nmiInService := by
      rw [hframe]
      rfl
    have hshadow : u.shadow = .none := by
      rw [hframe]
      rfl
    have hlinks : decide (kind = .call ∨ kind = .nested) = decide (kind = .call) :=
      decide_eq_decide.2 (or_iff_left (asksFor_ne_nested hi))
    rw [hlinks] at hframe
    have hnext := hruns.completes (ok_bind hu) hshadow
    rw [hnmi] at hnext
    refine ⟨_, hnext, rfl, ?_⟩
    have hselEs : u.es.sel = L.read16 (d.base.toNat + 34) := hes.trans (congrArg (fun t : State => t.es.sel) hleft :)
    have hselDs : u.ds.sel = L.read16 (d.base.toNat + 40) := hds.trans (congrArg (fun t : State => t.ds.sel) hleft :)
    have hselLdtr : u.ldtr.sel = L.read16 (d.base.toNat + 42) := hldtr.trans (congrArg (fun t : State => t.ldtr.sel) hleft :)
    rw [hframe]
    exact ⟨rfl, rfl, rfl, hselEs, rfl, rfl, hselDs, hselLdtr, rfl, rfl, rfl, rfl, rfl, rfl, rfl, rfl, rfl⟩
  · obtain ⟨_, f, hexec, hf⟩ := hruns
    exact hexec.trans (transfer_error hrep (hf.trans (bind_error hx)))

/-! The task gates of the IDT (60_exceptions.md R446). -/

section
variable {s u : State} {n : Byte} {soft : Bool} {ret ext : Word} {ec : Option Word} {g : Desc} {c : Word}

/-- The error code on the stack of the task `u`. -/
def pushCode (ext : Word) (ec : Option Word) (u : State) : Res State := do
  let t ← inContext u (u.pushAll ext ec.toList)
  pure t.interrupted

theorem interrupt_taskGate (hpe : s.msw.pe = true) (hlimit : 8 * n.toNat + 7 ≤ s.idtr.limit.toNat)
    (hg : g = s.descAt (s.idtr.base.toNat + 8 * n.toNat)) (hgate : arControl g.ar 5 = true)
    (hsoft : soft = true → s.cpl ≤ arDpl g.ar) (hp : arPresent g.ar = true) : s.interrupt n soft ret ec =
      switchTo s g.gateSel 1 (.generalProtection (selCode g.gateSel ||| extBit soft)) .nested ret (extBit soft) >>=
        pushCode (extBit soft) ec := by
  rw [interrupt_eq_protected hpe, enterProtected_of_gate hlimit hg (.inl hgate) hsoft hp, if_pos hgate]
  simp only [State.enterTaskGate, switchTo, bind_assoc]
  rfl

theorem pushCode_none : pushCode ext none u = .ok u.interrupted := rfl

theorem pushCode_of_fits (h : PushFits u) : ∃ t, pushCode ext (some c) u = .ok t ∧ Pushed u t c ∧
    t = { u.interrupted with regs := t.regs, mem := t.mem } := by
  obtain ⟨v, hv⟩ : ∃ v, u.push ext c = .ok v := ⟨_, push_ok.2 ⟨check_ok_iff_fits.2 h, rfl⟩⟩
  have hword := push_storedWord hv
  have hframe := push_frame hv
  have hcode : pushCode ext (some c) u = .ok v.interrupted :=
    inContext_bind_ok (m := u.pushAll ext [c]) (by rw [pushAll_cons, ok_bind hv]; rfl)
  refine ⟨v.interrupted, hcode, ⟨?_, hword⟩, ?_⟩
  · rw [hframe]
    rfl
  · rw [hframe]
    rfl

theorem pushCode_raises (hpe : u.msw.pe = true) (htype : TypeOk u .ss true) (h : ¬PushFits u) :
    pushCode ext (some c) u = .error { exc := .stackFault ext, context := some u } := by
  have hraise : u.pushAll ext [c] = raise (.stackFault ext) := (pushAll_raisesOnly_stackFault hpe htype).eq_raise fun _ ht =>
    h (fits_of_pushAll ht (k := 0) Nat.zero_lt_one)
  exact inContext_bind_raise hraise

end

theorem taskGateEntry : TaskGateEntry := by
  rintro s n soft ret ec g _ _ _ hpe hlimit hg hgate hsoft hp rfl rfl rfl
  have hrun := interrupt_taskGate (ret := ret) (ec := ec) hpe hlimit hg hgate hsoft hp
  refine ⟨tssChecked_of_switchTo fun e he => hrun.trans (bind_raise he), ?_⟩
  intro d L hle hlocal hd htss hpresent hroom hL
  rw [switchTo_of_found hle hlocal hd htss hpresent hroom, ← hL] at hrun
  refine ⟨fun e x hx => hrun.trans (bind_error hx), ?_⟩
  rintro u _ hu rfl
  have hpush := hrun.trans (ok_bind hu)
  refine ⟨?_, ?_⟩
  · rintro rfl
    exact hpush.trans pushCode_none
  · rintro c rfl
    refine ⟨fun hfits => ?_, fun hfits => ?_⟩
    · obtain ⟨t, ht, hpushed, hframe⟩ := pushCode_of_fits (ext := extBit soft) (c := c) hfits
      exact ⟨t, hpush.trans ht, hpushed, hframe⟩
    · obtain ⟨⟨c, k, hwritable, hframe⟩, -, -, -⟩ := enterTask_ok hu
      obtain ⟨-, hleft⟩ := taskLeft s L g.gateSel d .nested ret _ hL rfl
      rw [hleft] at hframe
      refine hpush.trans (pushCode_raises ?_ ?_ hfits)
      · rw [hframe]
        exact hpe
      · rw [hframe]
        exact ⟨rfl, nofun, hwritable⟩

/-- Settles O51: the words and marks that the switch leaves in memory, the loads of the incoming task one by one and in their
order, and the checks of each way into a switch. -/
theorem taskSwitch : Obligations.TaskSwitch :=
  ⟨taskStateSaved, taskLeft, taskSegments, taskEntered, taskSwitches, taskSwitchFaults, taskGateEntry⟩

end Sys2Proof.Proofs
